-- ==== Sys2Proof/Word.lean ====
section
/-! DEFINITION. The word type of the part: one byte, the unit of every request and response frame (R183). -/

namespace Sys2Proof

/-- One byte of a frame, and the range 0 to 255 of tags, generations, levels, trims and readings. -/
abbrev Byte := BitVec 8

end Sys2Proof
end

