-- ==== Sys2Proof/Config.lean ====
section
/-! DEFINITION. What the manual fixes for every TS648 (capacities, intervals, limits) and the one free value the
manual leaves open. Times are in milliseconds unless a name says seconds. -/

namespace Sys2Proof.Config

/-- Frames a request queue or a response queue can hold (R184). -/
def queueDepth : Nat := 4

/-- The lock timeout of a tuning attempt and of a start-up test (R109, R117). -/
def lockTimeout : Nat := 20

/-- The sense timeout of a measurement (R173). -/
def senseTimeout : Nat := 50

/-- The settle time of a written profile (R94). -/
def settleTime : Nat := 10

/-- Milliseconds in the second that lease and hold timers count. -/
def msPerSecond : Nat := 1000

/-- The lease a tenant gets when its RESERVE gives none (R48), in seconds. -/
def defaultLease : Nat := 3600

/-- The fail count at which a slot is retired (R113). -/
def retireCount : Nat := 3

/-- The widest span of a grant or a watch (R20, R163). -/
def maxWidth : Nat := 192

/-- The most grants or items a list request returns (R43, R44, R188). -/
def pageSize : Nat := 8

/-- The value at which the repack's count of completed moves stays (R155). -/
def movesCeiling : Nat := 65535

/-- FREE VALUE (log entry 1): a byte the port returns at a place of a transaction for which the manual gives no value
(during the frame bytes of a WRITE_REQUEST, after the last byte of a response frame, after the byte of READ_STATUS).
Nothing constrains it; the step applies it to the counter `State.freeCount`. -/
opaque freeByte : Nat → Byte

end Sys2Proof.Config
end

