-- ==== Sys2Proof/Syntax.lean ====
section
/-! DEFINITION. The commands of the TS648: one constructor per row of the table of operations and events
(spec/opcode_table.json), each row whole and indivisible (95_what_each_step_holds.md). The rows for requests carry
no operand of their own: what they act on is the frame the request unit takes, which lies in a queue of `State`
(R183 to R185). -/

namespace Sys2Proof

/-- The two SPI request ports (R182). -/
inductive Port where
  | management
  | tenant
  deriving DecidableEq, Repr

/-- The two ranges of the cell grid that can be granted (R1). -/
inductive Band where
  | up
  | down
  deriving DecidableEq, Repr

/-- What part of a write transaction one command stands for (R182): the whole of it with nothing between; or its start,
at which the status byte is captured; or the arrival of its command byte, at which the claim is made; or its end, at
which select is released and the bytes received become the frame. Log entry 2. -/
inductive WritePart where
  | whole (bytes : List Byte)
  | select
  | command
  | finish (bytes : List Byte)
  deriving DecidableEq, Repr

/-- What part of any other transaction one command stands for (R182): the whole of it with nothing between; or its start,
at which the status byte is captured; or its command byte with the `clocked` bytes after the status byte; or the release of
select, which ends what was started before its command byte has arrived. Log entries 2 and 31. -/
inductive ReadPart where
  | whole (clocked : Nat)
  | select
  | rest (clocked : Nat)
  | release
  deriving DecidableEq, Repr

/-- What a command byte asks a port for (R182). -/
inductive SpiCommand where
  | write
  | writePriority
  | readResponse
  | readStatus
  | other
  deriving DecidableEq, Repr

/-- The commands, in the order of spec/opcode_table.json. -/
inductive Instr where
  /-- WRITE_REQUEST (R182): command byte 1 on a port. -/
  | writeRequest (port : Port) (part : WritePart)
  /-- WRITE_REQUEST_PRIORITY (R182): command byte 129 on a port. -/
  | writeRequestPriority (port : Port) (part : WritePart)
  /-- READ_RESPONSE (R182): command byte 2 on a port. -/
  | readResponse (port : Port) (part : ReadPart)
  /-- READ_STATUS (R182): command byte 3 on a port. -/
  | readStatus (port : Port) (part : ReadPart)
  /-- OTHER_COMMAND_BYTE (R182): any other command byte. -/
  | otherCommandByte (port : Port) (command : Byte) (part : ReadPart)
  /-- BAD_REQUEST_FRAME (R183): the request unit takes a frame that fails the frame checks. -/
  | badRequestFrame
  /-- NOT_READY_ANSWER (R185): the request unit takes a frame during start-up. -/
  | notReadyAnswer
  /-- STAGE_REGION (R5). This and the rows down to RESTART: the request unit takes a frame of that request. -/
  | stageRegion
  | discardStaged
  | freezeRegion
  | readRegion
  | setGuard
  | setTenant
  | readTenant
  | setPlanSettings
  | readSettings
  | reserve
  | lookup
  | find
  | listOwn
  | listBand
  | activate
  | renew
  | withdraw
  | revoke
  | hold
  | unhold
  | pin
  | freezePlan
  | writeProfile
  | clearProfile
  | readProfile
  | readSlot
  | setLevel
  | assignGroup
  | setGroup
  | setBudget
  | readLevels
  | move
  | repack
  | stopRepack
  | setWatch
  | clearWatch
  | readWatch
  | setSweep
  | sweep
  | readResults
  | readHits
  | clearHits
  | readEvents
  | setEventMask
  | readNews
  | status
  | restart
  /-- HOLD_TIMER_EXPIRY (R50): the hold timer of the grant in this entry reaches 0. -/
  | holdTimerExpiry (entry : Fin 64)
  /-- LEASE_EXPIRY (R57): the lease of the grant in this entry reaches 0. -/
  | leaseExpiry (entry : Fin 64)
  /-- DRAIN_TIMER_EXPIRY (R64). -/
  | drainTimerExpiry (entry : Fin 64)
  /-- QUIET_TIMER_EXPIRY (R66). -/
  | quietTimerExpiry (entry : Fin 64)
  /-- LOCK_TIMEOUT (R111): the lock timeout of the attempt on this slot runs out. -/
  | lockTimeout (band : Band) (number : Nat)
  /-- SETTLE_TIMER_EXPIRY (R95). -/
  | settleTimerExpiry (profile : Fin 8)
  /-- PERIOD_TIMER_EXPIRY (R171). -/
  | periodTimerExpiry
  /-- SENSE_TIMEOUT (R173). -/
  | senseTimeout
  /-- PILOT_READING (R133): a sample of the 8-bit pilot input. -/
  | pilotReading (value : Byte)
  /-- LOCKED (R110), FAILED (R111), LOST (R114): a report on the carrier link, naming a slot by band and number. -/
  | locked (band : Band) (number : Nat)
  | failed (band : Band) (number : Nat)
  | lost (band : Band) (number : Nat)
  /-- READING (R174): an arrival on the sense link. -/
  | reading (tag : Byte) (value : Byte)
  /-- AUTOMATIC_MOVE (R151): the move engine takes the oldest pending ask. -/
  | automaticMove
  /-- COLD_RESET (R192): power-on or assertion of RESET_N. -/
  | coldReset
  /-- RESET_N_RELEASE (R192): release of RESET_N. -/
  | resetNRelease
  deriving DecidableEq, Repr

end Sys2Proof
end

