-- ==== Sys2Proof/Decode.lean ====
section
/-! DEFINITION. Which command a transaction is: the command bytes of R182, read on a port, and the row that a transaction
received there therefore is. The table itself gives no row any bits (spec/opcode_table.json: every "fields" list is empty
and no row has fixed bits): its commands are transactions, arrivals, expiries and internal events, so no word of the table's
bits decodes to a command. The request codes of R183 are read by the request unit from frames (Machine/Requests.lean). -/

namespace Sys2Proof

/-- The command bytes (R182): 1, 129, 2 and 3; any other byte asks for nothing. -/
def spiCommand (command : Byte) : SpiCommand :=
  match command.toNat with
  | 1 => .write
  | 129 => .writePriority
  | 2 => .readResponse
  | 3 => .readStatus
  | _ => .other

/-- The row of a whole transaction on a port: its command byte, and the bytes that the requester sends after it. -/
def Instr.ofTransaction (p : Port) (command : Byte) (later : List Byte) : Instr :=
  match spiCommand command with
  | .write => .writeRequest p (.whole later)
  | .writePriority => .writeRequestPriority p (.whole later)
  | .readResponse => .readResponse p (.whole later.length)
  | .readStatus => .readStatus p (.whole later.length)
  | .other => .otherCommandByte p command (.whole later.length)

/-- The row of the arrival of a command byte in a transaction that has started (log entry 2): of a write, whose frame is
still to come, or of any other transaction with the `clocked` bytes after the status byte. -/
def Instr.ofCommandByte (p : Port) (command : Byte) (clocked : Nat) : Instr :=
  match spiCommand command with
  | .write => .writeRequest p .command
  | .writePriority => .writeRequestPriority p .command
  | .readResponse => .readResponse p (.rest clocked)
  | .readStatus => .readStatus p (.rest clocked)
  | .other => .otherCommandByte p command (.rest clocked)

/-- The command that a word of the table's bits spells: none, because no row has bits. -/
def decodeTableWord (_nbits _w : Nat) : Option Instr := none

end Sys2Proof
end

