-- ==== Sys2Proof/Machine/State.lean ====
section
/-! DEFINITION. The state of the TS648 as plain data, block by block as the block diagram has it (00_scope.md), the
reasons a step can stop, and the machine right after cold reset. -/

namespace Sys2Proof.Machine

/-! ### Names and small records -/

/-- The class of service of a grant, in the manual's order (R40: codes 0, 1, 2). -/
inductive Cls where
  | data
  | video
  | voice
  deriving DecidableEq, Repr

/-- A class set: bit 0 DATA, bit 1 VIDEO, bit 2 VOICE (R40). -/
abbrev ClassSet := BitVec 3

/-- One value for each band. -/
structure PerBand (α : Type) where
  up : α
  down : α
  deriving DecidableEq, Repr

/-- A region record that is present (R2). An absent record is `none`: its other fields have no meaning. -/
structure Region where
  band : Band
  first : Nat
  last : Nat
  classes : ClassSet
  frozen : Bool
  deriving DecidableEq, Repr

/-- A region plan: eight records, each present or absent (R2). -/
abbrev Plan := Vector (Option Region) 8

/-- The guard matrix, kept as six values (R10). -/
structure GuardMatrix where
  dataData : Nat
  dataVideo : Nat
  dataVoice : Nat
  videoVideo : Nat
  videoVoice : Nat
  voiceVoice : Nat
  deriving DecidableEq, Repr

/-- A tenant directory entry (R13). -/
structure TenantEntry where
  enabled : Bool
  cls : Cls
  quota : Nat
  deriving DecidableEq, Repr

/-- The six plan settings (R16). -/
structure Settings where
  quietInterval : Nat
  holdTime : Nat
  reserve : PerBand Nat
  autoRepack : PerBand Bool
  deriving DecidableEq, Repr

/-- The plan store (R2, R10, R13, R16). The directory holds tenants 1 to 15 at places 0 to 14. -/
structure PlanStore where
  active : Plan
  staged : Option Plan
  guards : GuardMatrix
  directory : Vector TenantEntry 15
  settings : Settings
  deriving DecidableEq, Repr

/-- A handle: an entry and a generation (R23). -/
structure Handle where
  entry : Fin 64
  generation : Byte
  deriving DecidableEq, Repr

/-- The state of a grant that is not FREE (R46). A FREE entry holds no grant. -/
inductive GrantState where
  | reserved
  | tuning
  | live
  | impaired
  | moving
  | draining
  | quiet
  deriving DecidableEq, Repr

/-- The protection of a grant: OPEN, HELD, PINNED (R76). -/
inductive HoldClass where
  | opened
  | held
  | pinned
  deriving DecidableEq, Repr

/-- The level group a grant names (R120). -/
inductive Group where
  | none
  | g1
  | g2
  | g3
  | pilot
  deriving DecidableEq, Repr

/-- The most recent completed operation or event on a grant (R20, R74). -/
inductive LastOutcome where
  | none
  | activated
  | activateFailed
  | lapsed
  | expired
  | withdrawn
  | revoked
  | moved
  | moveFailed
  | moveAbandoned
  | noTarget
  | lost
  deriving DecidableEq, Repr

inductive MoveKind where
  | seamless
  | hard
  deriving DecidableEq, Repr

inductive MoveOrigin where
  | request
  | auto
  | repack
  deriving DecidableEq, Repr

inductive MovePhase where
  | targetTuning
  | fallbackTuning
  deriving DecidableEq, Repr

/-- A carrier slot: 0 to 15 are U0 to U15 and 16 to 47 are D0 to D31 (R103). -/
abbrev SlotId := Fin 48

/-- The move context of a MOVING grant (R22). -/
structure MoveContext where
  target : Nat
  kind : MoveKind
  origin : MoveOrigin
  phase : MovePhase
  second : Option SlotId
  deriving DecidableEq, Repr

/-- The record of a grant that is not FREE (R20, R21), less the fields its entry keeps when it becomes FREE. The
phase timer part of a TUNING grant is the lock timeout of its slot's attempt and has its one home there (R109).
`counted` is the counted load the level unit keeps for the grant (R123). `leaseMs` and `holdMs` are the milliseconds
already gone of the second being counted (log entry 4). -/
structure Grant where
  state : GrantState
  cls : Cls
  band : Band
  start : Nat
  payload : Nat
  profile : Fin 8
  width : Nat
  hold : HoldClass
  fixed : Bool
  level : Byte
  group : Group
  impairing : Nat
  news : Bool
  lease : Option Nat
  leaseMs : Nat
  holdTime : Option Nat
  holdMs : Nat
  phaseTimer : Option Nat
  slot : Option SlotId
  move : Option MoveContext
  counted : Nat
  deriving DecidableEq, Repr

/-- An entry of the grant table (R19): the three fields that a FREE entry keeps, and the grant it holds, if any. -/
structure Entry where
  generation : Byte
  tenant : Fin 16
  lastOutcome : LastOutcome
  grant : Option Grant
  deriving DecidableEq, Repr

/-- An item of an occupancy list: a grant's handle and current span (R26). -/
structure OccItem where
  handle : Handle
  start : Nat
  width : Nat
  deriving DecidableEq, Repr

/-- The grant table (R19, R26, R29, R84). The grant counts are those of tenants 1 to 15, at places 0 to 14. -/
structure GrantTable where
  entries : Vector Entry 64
  occupancy : PerBand (List OccItem)
  counts : Vector Nat 15
  planFrozen : Bool
  deriving DecidableEq, Repr

inductive ProfileState where
  | undefined
  | settling
  | ready
  deriving DecidableEq, Repr

/-- The modulation orders (R90, codes of R93). -/
inductive ModOrder where
  | qpsk
  | qam16
  | qam64
  | qam256
  | qam1024
  | qam4096
  deriving DecidableEq, Repr

/-- A profile record (R90). `settleDue` is the model's own: the last millisecond of the settle time has gone and the expiry
is still to be taken, so that the time remaining stays 1 to 10 ms as long as the profile is SETTLING (log entry 6). -/
structure Profile where
  state : ProfileState
  order : ModOrder
  expansion : Nat
  edgeGuard : Nat
  classes : ClassSet
  references : Nat
  settle : Option Nat
  settleDue : Bool
  deriving DecidableEq, Repr

/-- The caller of a tuning, or the start-up test (R108, codes of R118). -/
inductive Caller where
  | activation
  | relock
  | moveTarget
  | fallback
  | test
  deriving DecidableEq, Repr

/-- The attempt in flight on a slot (R103): its caller, whether it is the second attempt of its tuning, and the lock
timeout remaining. -/
structure Attempt where
  caller : Caller
  second : Bool
  timeout : Nat
  deriving DecidableEq, Repr

/-- The state of a slot, with the attempt that is present in TUNING only (R103, R104). -/
inductive SlotState where
  | idle
  | tuning (attempt : Attempt)
  | carrying
  | ramping
  | retired
  deriving DecidableEq, Repr

/-- A slot record (R103). -/
structure Slot where
  state : SlotState
  fails : Nat
  holder : Option Handle
  deriving DecidableEq, Repr

/-- A message to one slot on the carrier link (R105). -/
inductive CarrierMsg where
  | tune (band : Band) (start width : Nat) (order : ModOrder) (level : Nat)
  | level (level : Nat)
  | ramp (interval : Nat)
  | halt
  | test
  deriving DecidableEq, Repr

/-- The slot pool (R103, R117). `sent` holds, for each slot, the messages sent to it since the last cold reset, oldest
first: the manual orders the messages to one slot and no others (R105, R128). -/
structure SlotPool where
  slots : Vector Slot 48
  sent : Vector (List CarrierMsg) 48
  startUp : Bool
  deriving DecidableEq, Repr

inductive GroupMode where
  | ratio
  | cap
  deriving DecidableEq, Repr

/-- The record of G1, G2 or G3 (R120). -/
structure GroupRecord where
  trim : Byte
  mode : GroupMode
  deriving DecidableEq, Repr

/-- The pilot record (R120). -/
structure PilotRecord where
  reading : Byte
  applied : Byte
  clamped : Bool
  deriving DecidableEq, Repr

/-- The level unit (R120, R124). The counted loads stand in the grant records. -/
structure LevelUnit where
  g1 : GroupRecord
  g2 : GroupRecord
  g3 : GroupRecord
  pilot : PilotRecord
  budget : PerBand Nat
  deriving DecidableEq, Repr

inductive EndReason where
  | none
  | complete
  | blocked
  | stopped
  deriving DecidableEq, Repr

/-- The repack status record (R155). -/
structure RepackRecord where
  running : Bool
  band : Option Band
  moves : Nat
  reason : EndReason
  deriving DecidableEq, Repr

/-- A pending automatic move ask (R151): the handle, and whether the grant's span has changed since (log entry 12). -/
structure Ask where
  handle : Handle
  spanChanged : Bool
  deriving DecidableEq, Repr

/-- The move engine (R151, R153, R155). The move contexts stand in the grant records. -/
structure MoveEngine where
  repack : RepackRecord
  frag : PerBand Nat
  asks : List Ask
  deriving DecidableEq, Repr

/-- What a watch measures (R163). -/
inductive WatchTarget where
  | grant (handle : Handle)
  | cells (band : Band) (start width : Nat)
  deriving DecidableEq, Repr

inductive CompareMode where
  | above
  | below
  | inside
  | outside
  deriving DecidableEq, Repr

inductive Disposition where
  | compareOnly
  | compareStore
  | storeOnly
  deriving DecidableEq, Repr

inductive WatchAction where
  | flag
  | impair
  | impairAndMove
  | block
  deriving DecidableEq, Repr

/-- A watch (R163). Its limits stand in the threshold positions (R164). -/
structure Watch where
  target : WatchTarget
  mode : CompareMode
  disposition : Disposition
  action : WatchAction
  enabled : Bool
  condition : Bool
  deriving DecidableEq, Repr

/-- The occupancy of a watch position (R163). -/
inductive Position where
  | empty
  | watch (w : Watch)
  | paired
  deriving DecidableEq, Repr

/-- An entry of a result half (R175). -/
structure ResultEntry where
  reading : Byte
  valid : Bool
  deriving DecidableEq, Repr

inductive Half where
  | a
  | b
  deriving DecidableEq, Repr

inductive SweepMode where
  | off
  | periodic
  | continuous
  deriving DecidableEq, Repr

inductive SweepOrder where
  | sequential
  | interleaved
  deriving DecidableEq, Repr

inductive ReportCondition where
  | none
  | eachSweep
  | sweepWithHit
  | eachHit
  deriving DecidableEq, Repr

/-- The sweep settings (R170). -/
structure SweepSettings where
  mode : SweepMode
  period : Nat
  order : SweepOrder
  start : Fin 32
  report : ReportCondition
  deriving DecidableEq, Repr

/-- A running sweep (R170): its start position and order, the step it has reached, whether a TRUE compare has been made
in it, and whether it has sent a measurement (R171 consults that at its end). -/
structure Sweep where
  start : Fin 32
  order : SweepOrder
  step : Nat
  hit : Bool
  sentAny : Bool
  deriving DecidableEq, Repr

/-- The measurement in flight (R173). -/
structure Measurement where
  tag : Byte
  position : Fin 32
  band : Band
  start : Nat
  width : Nat
  handle : Option Handle
  void : Bool
  timeout : Nat
  deriving DecidableEq, Repr

/-- A MEASURE order on the sense link (R173). -/
structure MeasureMsg where
  tag : Byte
  band : Band
  start : Nat
  width : Nat
  deriving DecidableEq, Repr

/-- The ingress monitor (R163, R164, R170, R175). Bit n of `hits` is the hit flag of position n. `sent` holds the
MEASURE orders sent since the last cold reset, oldest first. -/
structure Monitor where
  positions : Vector Position 32
  thresholds : Vector Byte 32
  hits : BitVec 32
  halfA : Vector ResultEntry 32
  halfB : Vector ResultEntry 32
  fill : Half
  settings : SweepSettings
  sweep : Option Sweep
  inFlight : Option Measurement
  periodTimer : Option Nat
  tagCounter : Byte
  sent : List MeasureMsg
  deriving DecidableEq, Repr

/-- A frame as it lies in a queue: the bytes received (R183). -/
abbrev Frame := List Byte

/-- How far a transaction in progress has come (R182): its command byte has not arrived, or it is a write and has claimed a
place in the request queue, the priority slot, or nothing. -/
inductive Progress where
  | selected
  | queuePlace
  | prioritySlot
  | nothing
  deriving DecidableEq, Repr

/-- The queues of one port (R184), its transaction in progress, and the bytes it returned in its latest
transaction, the link status byte first (R182). -/
structure PortState where
  requests : List Frame
  responses : List Frame
  progress : Option Progress
  returned : List Byte
  deriving DecidableEq, Repr

/-- The request ports (R182 to R187). `resetHeld`: RESET_N is held low. -/
structure Ports where
  resetHeld : Bool
  management : PortState
  tenant : PortState
  priority : Option Frame
  pointer : Port
  summary : BitVec 13
  mask : BitVec 13
  deriving DecidableEq, Repr

/-- The whole machine: the queue of commands waiting, the blocks, and the model's own counter of free values used. -/
structure State where
  pending : List Instr
  ports : Ports
  plan : PlanStore
  table : GrantTable
  profiles : Vector Profile 8
  pool : SlotPool
  levels : LevelUnit
  engine : MoveEngine
  monitor : Monitor
  freeCount : Nat
  deriving DecidableEq, Repr

/-! ### The reasons a step can stop -/

/-- There is no fault: the manual gives every command an effect or says it is ignored, and no rule stops the part. -/
inductive Fault where
  deriving DecidableEq, Repr

/-- The reasons a command has no meaning here. -/
inductive Refusal where
  /-- Raised by an arm of `exec` whose command has no meaning yet; safe, since nothing can be proved of it. No arm
  raises it at present. -/
  | notModelled (mnemonic : String)
  deriving DecidableEq, Repr

/-! ### Cold reset -/

/-- The active plan after cold reset (R2). -/
def Plan.cold : Plan :=
  ⟨#[some { band := .up, first := 10, last := 407, classes := 0b101#3, frozen := false },
     some { band := .down, first := 516, last := 2435, classes := 0b111#3, frozen := false },
     none, none, none, none, none, none], rfl⟩

/-- The plan store after cold reset (R2, R5, R10, R13, R16). -/
def PlanStore.cold : PlanStore where
  active := Plan.cold
  staged := none
  guards := { dataData := 0, dataVideo := 2, dataVoice := 1, videoVideo := 0, videoVoice := 2, voiceVoice := 0 }
  directory := Vector.replicate 15 { enabled := false, cls := .data, quota := 8 }
  settings :=
    { quietInterval := 1000, holdTime := 30, reserve := { up := 1, down := 1 },
      autoRepack := { up := false, down := false } }

/-- An entry that has never been used (R19). -/
def Entry.cold : Entry := { generation := 0, tenant := 0, lastOutcome := .none, grant := none }

/-- The grant table after cold reset (R19, R26, R29, R84). -/
def GrantTable.cold : GrantTable where
  entries := Vector.replicate 64 Entry.cold
  occupancy := { up := [], down := [] }
  counts := Vector.replicate 15 0
  planFrozen := false

/-- An UNDEFINED profile with no reference: its fields read as zero (R90). -/
def Profile.cleared : Profile :=
  { state := .undefined, order := .qpsk, expansion := 0, edgeGuard := 0, classes := 0, references := 0,
    settle := none, settleDue := false }

/-- The profile table after cold reset (R90). -/
def coldProfiles : Vector Profile 8 :=
  (Vector.replicate 8 Profile.cleared).set 0
    { state := .ready, order := .qam256, expansion := 1, edgeGuard := 0, classes := 0b111#3, references := 0,
      settle := none, settleDue := false }

/-- A slot under its start-up test (R103, R117). The attempt number of a test is 1 (DESIGN CHOICE, log entry 28). -/
def Slot.underTest : Slot :=
  { state := .tuning { caller := .test, second := false, timeout := Config.lockTimeout }, fails := 0, holder := none }

/-- The slot pool after cold reset: TEST has been sent to every slot and start-up lasts (R117). -/
def SlotPool.cold : SlotPool where
  slots := Vector.replicate 48 Slot.underTest
  sent := Vector.replicate 48 [.test]
  startUp := true

/-- The level unit after cold reset (R120, R124). -/
def LevelUnit.cold : LevelUnit where
  g1 := { trim := 255, mode := .ratio }
  g2 := { trim := 255, mode := .ratio }
  g3 := { trim := 255, mode := .ratio }
  pilot := { reading := 255, applied := 255, clamped := false }
  budget := { up := 1200, down := 6000 }

/-- The move engine after cold reset (R151, R153, R155). -/
def MoveEngine.cold : MoveEngine where
  repack := { running := false, band := none, moves := 0, reason := .none }
  frag := { up := 0, down := 0 }
  asks := []

/-- An invalid entry of a result half. The manual gives its reading no reset value; DESIGN CHOICE 0 (log entry 3). -/
def ResultEntry.cold : ResultEntry := { reading := 0, valid := false }

/-- The ingress monitor after cold reset (R163, R164, R170, R175). -/
def Monitor.cold : Monitor where
  positions := Vector.replicate 32 .empty
  thresholds := Vector.replicate 32 0
  hits := 0
  halfA := Vector.replicate 32 ResultEntry.cold
  halfB := Vector.replicate 32 ResultEntry.cold
  fill := .a
  settings := { mode := .off, period := 1000, order := .sequential, start := 0, report := .none }
  sweep := none
  inFlight := none
  periodTimer := none
  tagCounter := 0
  sent := []

/-- A port with empty queues and no transaction (R184, R192). -/
def PortState.cold : PortState := { requests := [], responses := [], progress := none, returned := [] }

/-- The request ports after cold reset (R184, R185, R186, R192). -/
def Ports.cold : Ports where
  resetHeld := false
  management := PortState.cold
  tenant := PortState.cold
  priority := none
  pointer := .management
  summary := 0
  mask := 0

/-- The machine right after cold reset: RESET_N released, every block at its cold reset values, the start-up slot test
begun (R117, R192), no command waiting. `freeCount` is the model's own: DESIGN CHOICE 0 (log entry 1). -/
def State.reset : State where
  pending := []
  ports := Ports.cold
  plan := PlanStore.cold
  table := GrantTable.cold
  profiles := coldProfiles
  pool := SlotPool.cold
  levels := LevelUnit.cold
  engine := MoveEngine.cold
  monitor := Monitor.cold
  freeCount := 0

end Sys2Proof.Machine
end

