-- ==== Sys2Proof/Machine/Operands.lean ====
section
/-! DEFINITION. What crosses the ports: result codes, request codes and lengths, the coded values of every field, and
the byte order of frames (R40, R93, R183). -/

namespace Sys2Proof.Machine

/-! ### Bytes -/

/-- One byte of a payload. -/
def byte (n : Nat) : Byte := BitVec.ofNat 8 n

/-- A two-byte field, most significant byte first (R183). -/
def be16 (n : Nat) : List Byte := [byte (n / 256), byte n]

/-- A yes/no field: 1 yes, 0 no (R40). -/
def flagByte (b : Bool) : Byte := if b then 1 else 0

/-- A set of 32 positions, position 31 in bit 7 of the first byte and position 0 in bit 0 of the fourth (R175). -/
def be32 (w : BitVec 32) : List Byte :=
  [w.extractLsb' 24 8, w.extractLsb' 16 8, w.extractLsb' 8 8, w.extractLsb' 0 8]

/-- The summary or the mask on the wire: bits 8 to 15 in the first byte, bits 13 to 15 reading 0 (R186). -/
def be13 (w : BitVec 13) : List Byte := be16 w.toNat

/-! ### Result codes -/

/-- The result codes (R183). -/
inductive ResultCode where
  | done
  | accepted
  | notReady
  | badRequest
  | badParam
  | notPermitted
  | notEnabled
  | stale
  | badState
  | pinned
  | held
  | frozen
  | profileNotReady
  | profileClass
  | quota
  | region
  | guard
  | noSpace
  | blocked
  | budget
  | noSlot
  | inUse
  | overlap
  | guardConflict
  | positionPaired
  | sweepBusy
  | repackBusy
  deriving DecidableEq, Repr

/-- The code byte of each result (R183). -/
def ResultCode.code : ResultCode → Nat
  | .done => 0
  | .accepted => 1
  | .notReady => 2
  | .badRequest => 3
  | .badParam => 4
  | .notPermitted => 5
  | .notEnabled => 6
  | .stale => 7
  | .badState => 8
  | .pinned => 9
  | .held => 10
  | .frozen => 11
  | .profileNotReady => 12
  | .profileClass => 13
  | .quota => 14
  | .region => 15
  | .guard => 16
  | .noSpace => 17
  | .blocked => 18
  | .budget => 19
  | .noSlot => 20
  | .inUse => 21
  | .overlap => 22
  | .guardConflict => 23
  | .positionPaired => 24
  | .sweepBusy => 25
  | .repackBusy => 26

/-! ### The request index -/

/-- The request index (R183): the row of each request code and its parameter length. -/
def requestIndex : Nat → Option (Instr × Nat)
  | 1 => some (.stageRegion, 9)
  | 2 => some (.discardStaged, 0)
  | 3 => some (.freezeRegion, 3)
  | 4 => some (.readRegion, 2)
  | 5 => some (.setGuard, 6)
  | 6 => some (.setTenant, 4)
  | 7 => some (.readTenant, 1)
  | 8 => some (.setPlanSettings, 8)
  | 9 => some (.readSettings, 0)
  | 16 => some (.reserve, 14)
  | 17 => some (.lookup, 2)
  | 18 => some (.find, 3)
  | 19 => some (.listOwn, 1)
  | 20 => some (.listBand, 3)
  | 24 => some (.activate, 2)
  | 25 => some (.renew, 4)
  | 26 => some (.withdraw, 2)
  | 27 => some (.revoke, 3)
  | 32 => some (.hold, 2)
  | 33 => some (.unhold, 2)
  | 34 => some (.pin, 2)
  | 35 => some (.freezePlan, 2)
  | 40 => some (.writeProfile, 5)
  | 41 => some (.clearProfile, 1)
  | 42 => some (.readProfile, 1)
  | 48 => some (.readSlot, 2)
  | 56 => some (.setLevel, 3)
  | 57 => some (.assignGroup, 3)
  | 58 => some (.setGroup, 3)
  | 59 => some (.setBudget, 3)
  | 60 => some (.readLevels, 0)
  | 64 => some (.move, 6)
  | 65 => some (.repack, 1)
  | 66 => some (.stopRepack, 0)
  | 72 => some (.setWatch, 14)
  | 73 => some (.clearWatch, 1)
  | 74 => some (.readWatch, 1)
  | 75 => some (.setSweep, 6)
  | 76 => some (.sweep, 0)
  | 77 => some (.readResults, 0)
  | 78 => some (.readHits, 0)
  | 79 => some (.clearHits, 4)
  | 88 => some (.readEvents, 0)
  | 89 => some (.setEventMask, 2)
  | 90 => some (.readNews, 0)
  | 91 => some (.status, 0)
  | 92 => some (.restart, 0)
  | _ => none

/-! ### Coded fields: the values of R40 and R93, and the field a code names -/

/-- The code of a band. -/
def bandCode : Band → Nat
  | .up => 0
  | .down => 1

def bandOfCode : Nat → Option Band
  | 0 => some .up
  | 1 => some .down
  | _ => none

def Cls.code : Cls → Nat
  | .data => 0
  | .video => 1
  | .voice => 2

def clsOfCode : Nat → Option Cls
  | 0 => some .data
  | 1 => some .video
  | 2 => some .voice
  | _ => none

/-- A class set field: a value beyond its three class bits is outside its codes (R40, R93). -/
def classSetOfCode (n : Nat) : Option ClassSet := if n < 8 then some (BitVec.ofNat 3 n) else none

/-- A class is in a class set (R40). -/
def ClassSet.has (set : ClassSet) (c : Cls) : Bool := BitVec.getLsbD set c.code

/-- A yes/no field (R40). -/
def yesNoOfCode : Nat → Option Bool
  | 0 => some false
  | 1 => some true
  | _ => none

def GrantState.code : GrantState → Nat
  | .reserved => 1
  | .tuning => 2
  | .live => 3
  | .impaired => 4
  | .moving => 5
  | .draining => 6
  | .quiet => 7

/-- The state code of an entry: 0 FREE (R40). -/
def Entry.stateCode (e : Entry) : Nat :=
  match e.grant with
  | none => 0
  | some g => g.state.code

def HoldClass.code : HoldClass → Nat
  | .opened => 0
  | .held => 1
  | .pinned => 2

def holdOfCode : Nat → Option HoldClass
  | 0 => some .opened
  | 1 => some .held
  | 2 => some .pinned
  | _ => none

def Group.code : Group → Nat
  | .none => 0
  | .g1 => 1
  | .g2 => 2
  | .g3 => 3
  | .pilot => 4

def groupOfCode : Nat → Option Group
  | 0 => some .none
  | 1 => some .g1
  | 2 => some .g2
  | 3 => some .g3
  | 4 => some .pilot
  | _ => none

def GroupMode.code : GroupMode → Nat
  | .ratio => 0
  | .cap => 1

def groupModeOfCode : Nat → Option GroupMode
  | 0 => some .ratio
  | 1 => some .cap
  | _ => none

def MoveKind.code : MoveKind → Nat
  | .seamless => 0
  | .hard => 1

/-- The kind of a MOVE request: `some none` is ANY (R137). -/
def moveKindOfCode : Nat → Option (Option MoveKind)
  | 0 => some (some .seamless)
  | 1 => some (some .hard)
  | 2 => some none
  | _ => none

def MoveOrigin.code : MoveOrigin → Nat
  | .request => 0
  | .auto => 1
  | .repack => 2

def MovePhase.code : MovePhase → Nat
  | .targetTuning => 0
  | .fallbackTuning => 1

def LastOutcome.code : LastOutcome → Nat
  | .none => 0
  | .activated => 1
  | .activateFailed => 2
  | .lapsed => 3
  | .expired => 4
  | .withdrawn => 5
  | .revoked => 6
  | .moved => 7
  | .moveFailed => 8
  | .moveAbandoned => 9
  | .noTarget => 10
  | .lost => 11

/-- A placement: 0 EXPLICIT, 1 AUTO (R40). -/
inductive Placement where
  | explicit
  | auto
  deriving DecidableEq, Repr

def placementOfCode : Nat → Option Placement
  | 0 => some .explicit
  | 1 => some .auto
  | _ => none

/-- The region index of a RESERVE: 0 to 7, or 255 ANY, given as `some none` (R40). -/
def regionIndexOfCode (n : Nat) : Option (Option (Fin 8)) :=
  if h : n < 8 then some (some ⟨n, h⟩) else if n = 255 then some none else none

def ProfileState.code : ProfileState → Nat
  | .undefined => 0
  | .settling => 1
  | .ready => 2

def ModOrder.code : ModOrder → Nat
  | .qpsk => 0
  | .qam16 => 1
  | .qam64 => 2
  | .qam256 => 3
  | .qam1024 => 4
  | .qam4096 => 5

def modOrderOfCode : Nat → Option ModOrder
  | 0 => some .qpsk
  | 1 => some .qam16
  | 2 => some .qam64
  | 3 => some .qam256
  | 4 => some .qam1024
  | 5 => some .qam4096
  | _ => none

def SlotState.code : SlotState → Nat
  | .idle => 0
  | .tuning _ => 1
  | .carrying => 2
  | .ramping => 3
  | .retired => 4

def Caller.code : Caller → Nat
  | .activation => 0
  | .relock => 1
  | .moveTarget => 2
  | .fallback => 3
  | .test => 4

def EndReason.code : EndReason → Nat
  | .none => 0
  | .complete => 1
  | .blocked => 2
  | .stopped => 3

def CompareMode.code : CompareMode → Nat
  | .above => 0
  | .below => 1
  | .inside => 2
  | .outside => 3

def compareModeOfCode : Nat → Option CompareMode
  | 0 => some .above
  | 1 => some .below
  | 2 => some .inside
  | 3 => some .outside
  | _ => none

def Disposition.code : Disposition → Nat
  | .compareOnly => 0
  | .compareStore => 1
  | .storeOnly => 2

def dispositionOfCode : Nat → Option Disposition
  | 0 => some .compareOnly
  | 1 => some .compareStore
  | 2 => some .storeOnly
  | _ => none

def WatchAction.code : WatchAction → Nat
  | .flag => 0
  | .impair => 1
  | .impairAndMove => 2
  | .block => 3

def watchActionOfCode : Nat → Option WatchAction
  | 0 => some .flag
  | 1 => some .impair
  | 2 => some .impairAndMove
  | 3 => some .block
  | _ => none

def sweepModeOfCode : Nat → Option SweepMode
  | 0 => some .off
  | 1 => some .periodic
  | 2 => some .continuous
  | _ => none

def sweepOrderOfCode : Nat → Option SweepOrder
  | 0 => some .sequential
  | 1 => some .interleaved
  | _ => none

def reportOfCode : Nat → Option ReportCondition
  | 0 => some .none
  | 1 => some .eachSweep
  | 2 => some .sweepWithHit
  | 3 => some .eachHit
  | _ => none

def Half.code : Half → Nat
  | .a => 0
  | .b => 1

/-- The number of a slot within its band (R103). -/
def slotNumber (j : SlotId) : Nat := if j.val < 16 then j.val else j.val - 16

/-- The band of a slot (R103). -/
def slotBand (j : SlotId) : Band := if j.val < 16 then .up else .down

/-- The slot that a band and a number name, when it exists (R103, R118). -/
def slotOf (b : Band) (n : Nat) : Option SlotId :=
  match b with
  | .up => if h : n < 16 then some ⟨n, by omega⟩ else none
  | .down => if h : n < 32 then some ⟨16 + n, by omega⟩ else none

/-! ### A request taken and its answer -/

/-- A request frame as its rule sees it: the port it came from, the tenant id of its header and its parameters. -/
structure Req where
  port : Port
  tenant : Nat
  params : List Byte
  deriving DecidableEq, Repr

/-- One parameter byte, counted from 0. -/
def Req.byte (r : Req) (i : Nat) : Nat := (r.params.getD i 0).toNat

/-- A two-byte parameter, most significant byte first (R183). -/
def Req.word (r : Req) (i : Nat) : Nat := r.byte i * 256 + r.byte (i + 1)

/-- The answer to a request: a result code and a payload (R183). -/
structure Reply where
  code : ResultCode
  payload : List Byte
  deriving DecidableEq, Repr

/-- "Refused X": answered with the code, and nothing changes (00_scope.md, Names and codes). -/
def refuse (s : State) (c : ResultCode) (payload : List Byte := []) : State × Reply := (s, ⟨c, payload⟩)

/-- Answered DONE with a payload. -/
def answerDone (s : State) (payload : List Byte := []) : State × Reply := (s, ⟨.done, payload⟩)

/-- Answered ACCEPTED with a payload. -/
def answerAccepted (s : State) (payload : List Byte := []) : State × Reply := (s, ⟨.accepted, payload⟩)

end Sys2Proof.Machine
end

