-- ==== Sys2Proof/Machine/Ops.lean ====
section
/-! DEFINITION. Named reads and writes of the state: entries and grants, slots, profiles, ports, the tenant directory.
Every meaning reaches the records through these. -/

namespace Sys2Proof.Machine

/-! ### Values by band -/

def PerBand.get {α : Type} (p : PerBand α) : Band → α
  | .up => p.up
  | .down => p.down

def PerBand.put {α : Type} (p : PerBand α) (b : Band) (v : α) : PerBand α :=
  match b with
  | .up => { p with up := v }
  | .down => { p with down := v }

/-! ### The grant table -/

/-- The 64 entry numbers in ascending order. -/
def entryNumbers : List (Fin 64) := List.finRange 64

def State.entry (s : State) (i : Fin 64) : Entry := s.table.entries[i]

/-- The grant an entry holds, if it is not FREE. -/
def State.grant? (s : State) (i : Fin 64) : Option Grant := (s.entry i).grant

def State.setEntry (s : State) (i : Fin 64) (e : Entry) : State :=
  { s with table := { s.table with entries := s.table.entries.set i e } }

/-- Changes the record of the grant an entry holds; a FREE entry is left as it is. -/
def State.modGrant (s : State) (i : Fin 64) (f : Grant → Grant) : State :=
  match s.grant? i with
  | none => s
  | some g => s.setEntry i { s.entry i with grant := some (f g) }

/-- Writes the last outcome of an entry (R74). -/
def State.setOutcome (s : State) (i : Fin 64) (o : LastOutcome) : State :=
  s.setEntry i { s.entry i with lastOutcome := o }

/-- The handle that names an entry's present grant (R23). -/
def State.handleOf (s : State) (i : Fin 64) : Handle := { entry := i, generation := (s.entry i).generation }

/-- The grant a handle names: its entry is not FREE and has the handle's generation (R23). -/
def State.grantOf (s : State) (h : Handle) : Option Grant :=
  if (s.entry h.entry).generation = h.generation then s.grant? h.entry else none

/-- Sets the news flag in an event that changes state or last outcome, unless the event is the taking of a tenant-port
request naming the grant (R72). -/
def Grant.withNews (g : Grant) (byTenant : Bool) : Grant := { g with news := g.news || !byTenant }

/-- A grant carries when it is LIVE or IMPAIRED (R46). -/
def Grant.carries (g : Grant) : Bool := g.state == .live || g.state == .impaired

/-- The state of a grant that comes to carry: LIVE with an impairing count of 0, else IMPAIRED (R47). -/
def Grant.carryState (g : Grant) : GrantState := if g.impairing = 0 then .live else .impaired

/-! ### Occupancy lists (R26) -/

/-- Inserts an item at the place its start gives. -/
def insertItem (it : OccItem) : List OccItem → List OccItem
  | [] => [it]
  | x :: xs => if it.start < x.start then it :: x :: xs else x :: insertItem it xs

/-- Removes the item of an entry. -/
def removeItem (i : Fin 64) (l : List OccItem) : List OccItem := l.filter (fun it => it.handle.entry != i)

def State.occupancy (s : State) (b : Band) : List OccItem := s.table.occupancy.get b

def State.setOccupancy (s : State) (b : Band) (l : List OccItem) : State :=
  { s with table := { s.table with occupancy := s.table.occupancy.put b l } }

/-! ### Grant counts and the directory (R13, R29) -/

/-- The place of a tenant in the directory and in the grant counts; management, tenant 0, has none. -/
def tenantPlace (t : Nat) : Option (Fin 15) := if h : 1 ≤ t ∧ t ≤ 15 then some ⟨t - 1, by omega⟩ else none

def State.directoryEntry (s : State) (t : Nat) : Option TenantEntry :=
  (tenantPlace t).map fun k => s.plan.directory[k]

/-- The tenant of a frame is enabled (R13). -/
def State.tenantEnabled (s : State) (t : Nat) : Bool :=
  match s.directoryEntry t with
  | none => false
  | some d => d.enabled

/-- A tenant's grant count; tenant-0 grants are not counted (R29). -/
def State.grantCount (s : State) (t : Nat) : Nat :=
  match tenantPlace t with
  | none => 0
  | some k => s.table.counts[k]

def State.changeCount (s : State) (t : Nat) (f : Nat → Nat) : State :=
  match tenantPlace t with
  | none => s
  | some k => { s with table := { s.table with counts := s.table.counts.set k (f s.table.counts[k]) } }

/-! ### Profiles -/

def State.profile (s : State) (k : Fin 8) : Profile := s.profiles[k]

def State.setProfile (s : State) (k : Fin 8) (p : Profile) : State := { s with profiles := s.profiles.set k p }

/-- Raises or lowers the reference count of a profile (R92). -/
def State.changeReferences (s : State) (k : Fin 8) (f : Nat → Nat) : State :=
  s.setProfile k { s.profile k with references := f (s.profile k).references }

/-! ### Slots -/

/-- The 48 slots, upstream then downstream, each band in ascending number. -/
def slotIds : List SlotId := List.finRange 48

def State.slot (s : State) (j : SlotId) : Slot := s.pool.slots[j]

def State.setSlot (s : State) (j : SlotId) (x : Slot) : State :=
  { s with pool := { s.pool with slots := s.pool.slots.set j x } }

/-- Sends a message to one slot on the carrier link (R105). -/
def State.send (s : State) (j : SlotId) (m : CarrierMsg) : State :=
  { s with pool := { s.pool with sent := s.pool.sent.set j (s.pool.sent[j] ++ [m]) } }

/-! ### Ports -/

def State.port (s : State) : Port → PortState
  | .management => s.ports.management
  | .tenant => s.ports.tenant

def State.setPort (s : State) (p : Port) (x : PortState) : State :=
  match p with
  | .management => { s with ports := { s.ports with management := x } }
  | .tenant => { s with ports := { s.ports with tenant := x } }

def State.withRepack (s : State) (r : RepackRecord) : State := { s with engine := { s.engine with repack := r } }

/-- Draws `n` fresh free bytes (log entry 1). -/
def State.freeBytes (s : State) (n : Nat) : List Byte := (List.range n).map fun i => Config.freeByte (s.freeCount + i)

def State.spendFree (s : State) (n : Nat) : State := { s with freeCount := s.freeCount + n }

end Sys2Proof.Machine
end

