-- ==== Sys2Proof/Machine/Flags.lean ====
section
/-! DEFINITION. The flags of the part: the event summary (R186), the interrupt lines (R187), the news that the tenant
line follows (R72), and the link status byte (R182). -/

namespace Sys2Proof.Machine

/-- The 13 event flags (R186). -/
inductive Event where
  | ready
  | planApplied
  | planRejected
  | slotRetired
  | carrierLost
  | pilotClamp
  | fragUrgent
  | repackEnd
  | sweepDone
  | watchHit
  | sweepOverrun
  | measureMissed
  | leaseExpired
  deriving DecidableEq, Repr

/-- The bit of each flag (R186). -/
def Event.bit : Event → Nat
  | .ready => 0
  | .planApplied => 1
  | .planRejected => 2
  | .slotRetired => 3
  | .carrierLost => 4
  | .pilotClamp => 5
  | .fragUrgent => 6
  | .repackEnd => 7
  | .sweepDone => 8
  | .watchHit => 9
  | .sweepOverrun => 10
  | .measureMissed => 11
  | .leaseExpired => 12

def Event.mask (e : Event) : BitVec 13 := 1#13 <<< e.bit

/-- Raises a flag; raising a set flag leaves it set (R186). -/
def State.raise (s : State) (e : Event) : State :=
  { s with ports := { s.ports with summary := s.ports.summary ||| e.mask } }

/-- Raises a flag when a condition holds. -/
def State.raiseIf (s : State) (c : Bool) (e : Event) : State := if c then s.raise e else s

/-- A flag of the summary is set. -/
def State.flagged (s : State) (e : Event) : Bool := s.ports.summary.getLsbD e.bit

/-- The management IRQ line (R187). -/
def State.managementIrq (s : State) : Bool :=
  !s.ports.management.responses.isEmpty || (s.ports.summary &&& ~~~s.ports.mask) != 0

/-- A non-FREE grant of an enabled tenant has its news flag set (R187). -/
def State.newsPending (s : State) : Bool :=
  entryNumbers.any fun i =>
    match s.grant? i with
    | none => false
    | some g => g.news && s.tenantEnabled (s.entry i).tenant.val

/-- The tenant IRQ line (R187). -/
def State.tenantIrq (s : State) : Bool := !s.ports.tenant.responses.isEmpty || s.newsPending

/-- The IRQ line of a port. -/
def State.irq (s : State) : Port → Bool
  | .management => s.managementIrq
  | .tenant => s.tenantIrq

/-- The priority slot busy bit: 0 on the tenant port (R182). -/
def State.priorityBusy (s : State) : Port → Bool
  | .management => s.ports.priority.isSome
  | .tenant => false

/-- The link status byte (R182): bit 0 ready, 1 request queue full, 2 response queue not empty, 3 priority slot busy,
4 IRQ pending, 5 to 7 zero. -/
def State.statusByte (s : State) (p : Port) : Byte :=
  byte
    ((!s.pool.startUp).toNat
      + 2 * (decide ((s.port p).requests.length = Config.queueDepth)).toNat
      + 4 * (!(s.port p).responses.isEmpty).toNat
      + 8 * (s.priorityBusy p).toNat
      + 16 * (s.irq p).toNat)

end Sys2Proof.Machine
end

