-- ==== Sys2Proof/Machine/Spectrum.lean ====
section
/-! DEFINITION. The plan store's checks and the placement of spans: the cell grid (R1), regions (R2, R3), the required
gap (R11), held spans (R27), blocked cells (R178), free cells and the fragmentation level (R28, R153), and the search
for a legal start (R36, R37). -/

namespace Sys2Proof.Machine

/-! ### The cell grid (R1) -/

def bandFirst : Band → Nat
  | .up => 10
  | .down => 516

def bandLast : Band → Nat
  | .up => 407
  | .down => 2435

/-- A cell of a band (R1). -/
def cellInBand (b : Band) (c : Nat) : Bool := bandFirst b ≤ c && c ≤ bandLast b

/-- A grantable cell lies in one of the bands (R1). -/
def grantable (c : Nat) : Bool := cellInBand .up c || cellInBand .down c

/-- A valid span of a band: width 1 or more, first and last cell in the band (R1). -/
def spanInBand (b : Band) (start width : Nat) : Bool :=
  1 ≤ width && bandFirst b ≤ start && start + width ≤ bandLast b + 1

/-! ### Regions (R2, R3) -/

def Region.holdsCell (r : Region) (b : Band) (c : Nat) : Bool := r.band == b && r.first ≤ c && c ≤ r.last

/-- A span lies in a region when every one of its cells lies between the region's first and last cells (R2). -/
def Region.holdsSpan (r : Region) (b : Band) (start width : Nat) : Bool :=
  r.band == b && r.first ≤ start && start + width ≤ r.last + 1

/-- A region's size (R2). -/
def Region.size (r : Region) : Nat := r.last + 1 - r.first

/-- The present regions of a plan with their indexes, in index order. -/
def Plan.present (p : Plan) : List (Nat × Region) :=
  p.toList.zipIdx.filterMap fun x =>
    match x.1 with
    | none => none
    | some r => some (x.2, r)

/-- The present region holding a cell, with its index (R2: at most one). -/
def Plan.regionAt (p : Plan) (b : Band) (c : Nat) : Option (Nat × Region) :=
  p.present.find? fun x => x.2.holdsCell b c

/-- A span lies wholly within one present region whose class set holds the class (R3). -/
def Plan.allowsSpan (p : Plan) (b : Band) (start width : Nat) (c : Cls) : Bool :=
  p.present.any fun x => x.2.holdsSpan b start width && x.2.classes.has c

/-- The cell lies in a present region that is frozen (R33, R88). -/
def Plan.frozenAt (p : Plan) (b : Band) (c : Nat) : Bool :=
  match p.regionAt b c with
  | none => false
  | some x => x.2.frozen

/-- The candidate regions of a search: present, of the band, and allowing the class (R33, R88). -/
def Plan.candidates (p : Plan) (b : Band) (c : Cls) : List Region :=
  (p.present.map Prod.snd).filter fun r => r.band == b && r.classes.has c

/-! ### Guards (R10, R11) -/

/-- The entry for a pair of classes, the same in either order (R10). -/
def GuardMatrix.entry (m : GuardMatrix) : Cls → Cls → Nat
  | .data, .data => m.dataData
  | .data, .video => m.dataVideo
  | .video, .data => m.dataVideo
  | .data, .voice => m.dataVoice
  | .voice, .data => m.dataVoice
  | .video, .video => m.videoVideo
  | .video, .voice => m.videoVoice
  | .voice, .video => m.videoVoice
  | .voice, .voice => m.voiceVoice

/-- A held span: the entry of its grant, whether it is the target span, its cells, and what its gaps need (R27). -/
structure Held where
  entry : Fin 64
  isTarget : Bool
  start : Nat
  width : Nat
  cls : Cls
  edge : Nat
  deriving DecidableEq, Repr

/-- The required gap between a span of a class with an edge guard and a held span (R11). -/
def requiredGap (m : GuardMatrix) (c : Cls) (edge : Nat) (h : Held) : Nat := m.entry c h.cls + max edge h.edge

/-- Two spans share a cell. -/
def sharesCell (start width start' width' : Nat) : Bool := start < start' + width' && start' < start + width

/-- The number of cells above the lower span and below the upper one (R11). -/
def gapBetween (start width start' width' : Nat) : Nat :=
  if start + width ≤ start' then start' - (start + width) else start - (start' + width')

/-- The held spans of one grant: its current span, and its target span while it is MOVING (R27). -/
def heldOf (s : State) (it : OccItem) : List Held :=
  match s.grant? it.handle.entry with
  | none => []
  | some g =>
    let edge := (s.profile g.profile).edgeGuard
    let current : Held :=
      { entry := it.handle.entry, isTarget := false, start := it.start, width := it.width, cls := g.cls, edge }
    match g.move with
    | none => [current]
    | some m =>
      [current,
       { entry := it.handle.entry, isTarget := true, start := m.target, width := g.width, cls := g.cls, edge }]

/-- The held spans of a band (R27). -/
def State.heldSpans (s : State) (b : Band) : List Held := (s.occupancy b).flatMap (heldOf s)

/-! ### Blocked cells (R178) -/

/-- The cell ranges of the enabled BLOCK watches of a band whose condition is TRUE. -/
def State.blockedRanges (s : State) (b : Band) : List (Nat × Nat) :=
  s.monitor.positions.toList.filterMap fun p =>
    match p with
    | .watch w =>
      match w.target with
      | .cells b' start width =>
        if w.enabled && w.condition && w.action == .block && b' == b then some (start, width) else none
      | .grant _ => none
    | _ => none

/-- A cell is blocked. -/
def State.blockedCell (s : State) (b : Band) (c : Nat) : Bool :=
  (s.blockedRanges b).any fun x => x.1 ≤ c && c < x.1 + x.2

/-! ### Placement (R36, R37) -/

/-- The outcome of the three stages of R36 on one span. -/
inductive Placed where
  | legal
  | noSpace
  | guard
  | blocked
  deriving DecidableEq, Repr

/-- What a placement is tested against: the held spans and blocked cells of the band as they stand, the guard matrix,
and the class, edge guard and width of the new span. -/
structure Site where
  held : List Held
  blocked : List (Nat × Nat)
  guards : GuardMatrix
  cls : Cls
  edge : Nat
  width : Nat
  deriving DecidableEq, Repr

def State.site (s : State) (b : Band) (c : Cls) (edge width : Nat) : Site :=
  { held := s.heldSpans b, blocked := s.blockedRanges b, guards := s.plan.guards, cls := c, edge, width }

/-- The three stages of R36, in their order, for the span from a start. -/
def Site.test (x : Site) (start : Nat) : Placed :=
  if x.held.any (fun h => sharesCell start x.width h.start h.width) then .noSpace
  else if x.held.any (fun h => gapBetween start x.width h.start h.width < requiredGap x.guards x.cls x.edge h) then
    .guard
  else if x.blocked.any (fun y => sharesCell start x.width y.1 y.2) then .blocked
  else .legal

/-- The lowest of `n` starts from `start` on at which the test gives an outcome. -/
def Site.lowest (x : Site) (want : Placed) : Nat → Nat → Option Nat
  | 0, _ => none
  | n + 1, start => if x.test start = want then some start else x.lowest want n (start + 1)

/-- How many starts a span of a width has within a region. -/
def Region.starts (r : Region) (width : Nat) : Nat := r.size + 1 - width

/-- The lowest legal start over all regions of a list together (R37). -/
def Site.search (x : Site) (regions : List Region) : Option Nat :=
  (regions.filterMap fun r => x.lowest .legal (r.starts x.width) r.first).min?

/-- At least one start failed the third stage only (R37). -/
def Site.blockedSomewhere (x : Site) (regions : List Region) : Bool :=
  regions.any fun r => (x.lowest .blocked (r.starts x.width) r.first).isSome

/-! ### Free cells (R28) and the fragmentation level (R153) -/

/-- Inserts a span in a list ordered by start. -/
def insertSpan (x : Nat × Nat) : List (Nat × Nat) → List (Nat × Nat)
  | [] => [x]
  | y :: ys => if x.1 ≤ y.1 then x :: y :: ys else y :: insertSpan x ys

/-- Orders spans by start. -/
def sortSpans : List (Nat × Nat) → List (Nat × Nat)
  | [] => []
  | x :: xs => insertSpan x (sortSpans xs)

/-- The lengths of the runs of cells from `c` to `last` that no span of an ordered list covers. -/
def freeRuns (last : Nat) : Nat → List (Nat × Nat) → List Nat
  | c, [] => [last + 1 - c]
  | c, (a, w) :: rest =>
    if a + w ≤ c then freeRuns last c rest
    else if last < a then [last + 1 - c]
    else (a - c) :: freeRuns last (a + w) rest

/-- The free runs of a band: one region after another, broken at every held cell and at every region boundary (R28). -/
def State.bandRuns (s : State) (b : Band) : List Nat :=
  let spans := sortSpans ((s.heldSpans b).map fun h => (h.start, h.width))
  ((s.plan.active.present.map Prod.snd).filter fun r => r.band == b).flatMap fun r => freeRuns r.last r.first spans

/-- The band's free cells (R28). -/
def State.freeCells (s : State) (b : Band) : Nat := (s.bandRuns b).sum

/-- The band's largest run (R28). -/
def State.largestRun (s : State) (b : Band) : Nat := (s.bandRuns b).foldl max 0

/-- The fragmentation level of free cells F and largest run L (R153). -/
def levelOfCounts (f l : Nat) : Nat :=
  if f = 0 ∨ f ≤ 2 * l then 0 else if f ≤ 4 * l then 1 else if f ≤ 8 * l then 2 else 3

/-- The fragmentation level of a band as its held spans and the active plan stand (R153). -/
def State.fragOf (s : State) (b : Band) : Nat := levelOfCounts (s.freeCells b) (s.largestRun b)

end Sys2Proof.Machine
end

