-- ==== Sys2Proof/Machine/Levels.lean ====
section
/-! DEFINITION. The operations of the level unit: effective levels (R121), weights and loads (R122, R123), budget checks
(R125), LEVEL messages (R128), and the pilot clamp (R133, R134). -/

namespace Sys2Proof.Machine

/-- A level lowered by the steps a trim stands below 255, floored at 0 (R121). -/
def ratioLevel (level trim : Byte) : Nat := level.toNat - (255 - trim.toNat)

/-- A level under a group record (R121). -/
def GroupRecord.apply (r : GroupRecord) (level : Byte) : Nat :=
  match r.mode with
  | .ratio => ratioLevel level r.trim
  | .cap => min level.toNat r.trim.toNat

/-- The effective level of a grant (R121). -/
def LevelUnit.effective (u : LevelUnit) (g : Grant) : Nat :=
  match g.group with
  | .none => g.level.toNat
  | .g1 => u.g1.apply g.level
  | .g2 => u.g2.apply g.level
  | .g3 => u.g3.apply g.level
  | .pilot => ratioLevel g.level u.pilot.applied

/-- The weight of an effective level (R122). -/
def weight (e : Nat) : Nat := 1 + e / 64

/-- The states in which the counted load follows the effective level (R123). -/
def GrantState.follows : GrantState → Bool
  | .tuning => true
  | .live => true
  | .impaired => true
  | .moving => true
  | .reserved => false
  | .draining => false
  | .quiet => false

/-- A seamless mover's load counts twice (R123). -/
def Grant.copies (g : Grant) : Nat :=
  match g.move with
  | none => 1
  | some m => if m.kind = .seamless then 2 else 1

/-- The load a transmitting grant draws at its effective level (R122, R123). -/
def LevelUnit.loadOf (u : LevelUnit) (g : Grant) : Nat := g.copies * (g.width * weight (u.effective g))

/-- Brings the counted load of a record to what its state asks (R123). -/
def LevelUnit.recount (u : LevelUnit) (g : Grant) : Grant :=
  match g.state with
  | .reserved => { g with counted := 0 }
  | .quiet => { g with counted := 0 }
  | .draining => g
  | .tuning => { g with counted := u.loadOf g }
  | .live => { g with counted := u.loadOf g }
  | .impaired => { g with counted := u.loadOf g }
  | .moving => { g with counted := u.loadOf g }

/-- Recounts the load of one entry's grant. -/
def State.recount (s : State) (i : Fin 64) : State := s.modGrant i s.levels.recount

/-- A band's load: the sum of the counted loads of its grants (R123). -/
def State.bandLoad (s : State) (b : Band) : Nat :=
  (entryNumbers.map fun i =>
    match s.grant? i with
    | none => 0
    | some g => if g.band = b then g.counted else 0).sum

def State.budget (s : State) (b : Band) : Nat := s.levels.budget.get b

/-- The budget check on proposed loads (R125): none when every band is within its budget, else the refusal's payload, the
first band that fails, the load proposed for it and its budget. -/
def State.overBudget (s : State) (proposed : Band → Nat) : Option (List Byte) :=
  if s.budget .up < proposed .up then
    some (byte (bandCode .up) :: (be16 (proposed .up) ++ be16 (s.budget .up)))
  else if s.budget .down < proposed .down then
    some (byte (bandCode .down) :: (be16 (proposed .down) ++ be16 (s.budget .down)))
  else none

/-- The loads with an amount added in one band. -/
def State.loadWith (s : State) (b : Band) (extra : Nat) (b' : Band) : Nat :=
  s.bandLoad b' + (if b' = b then extra else 0)

/-! ### Changes of effective level (R121, R128) -/

/-- The effective level of an entry's grant under a level unit. -/
def effectiveAt (u : LevelUnit) (g : Option Grant) : Option Nat := g.map u.effective

/-- The record of an entry after a change of levels: its counted load follows where its effective level changed. -/
def relevelEntry (old new : State) (i : Fin 64) : Entry :=
  let e := new.entry i
  match e.grant with
  | none => e
  | some g =>
    if effectiveAt old.levels (old.grant? i) ≠ some (new.levels.effective g) then
      { e with grant := some (if g.state.follows then new.levels.recount g else g) }
    else e

/-- The LEVEL message that a change of levels sends to a slot: to each slot in TUNING or CARRYING whose holder's
effective level changed (R128). -/
def levelMessage (old new : State) (j : SlotId) : List CarrierMsg :=
  match (new.slot j).holder with
  | none => []
  | some h =>
    match new.grantOf h with
    | none => []
    | some g =>
      if effectiveAt old.levels (old.grant? h.entry) ≠ some (new.levels.effective g) then
        match (new.slot j).state with
        | .tuning _ => [.level (new.levels.effective g)]
        | .carrying => [.level (new.levels.effective g)]
        | _ => []
      else []

/-- Carries out the consequences of a change of levels, groups or trims from `old` to `new` (R121, R128). -/
def applyLevels (old new : State) : State :=
  { new with
    table := { new.table with entries := Vector.ofFn fun i => relevelEntry old new i },
    pool := { new.pool with sent := Vector.ofFn fun j => new.pool.sent[j] ++ levelMessage old new j } }

/-! ### The pilot and its clamp (R133, R134) -/

/-- The load of a record if the applied trim were `t`: members of P whose load follows are taken at their effective
level under `t`, every other grant at its counted load (R133). -/
def loadAtTrim (t : Byte) (g : Grant) : Nat :=
  if g.group = .pilot ∧ g.state.follows then g.copies * (g.width * weight (ratioLevel g.level t)) else g.counted

/-- A band's load if the applied trim were `t`. -/
def State.loadAt (s : State) (t : Byte) (b : Band) : Nat :=
  (entryNumbers.map fun i =>
    match s.grant? i with
    | none => 0
    | some g => if g.band = b then loadAtTrim t g else 0).sum

/-- Both bands stay within budget at a trim. -/
def State.fitsAt (s : State) (t : Byte) : Bool :=
  s.loadAt t .up ≤ s.budget .up && s.loadAt t .down ≤ s.budget .down

/-- The largest trim from 0 to `n` at which every band stays within its budget (R133). -/
def State.searchTrim (s : State) : Nat → Nat
  | 0 => 0
  | n + 1 => if s.fitsAt (byte (n + 1)) then n + 1 else s.searchTrim n

/-- Applies a trim to P, with what follows for its members (R133 step 3). -/
def State.setApplied (s : State) (t : Byte) : State :=
  applyLevels s { s with levels := { s.levels with pilot := { s.levels.pilot with applied := t } } }

def State.setClamped (s : State) (c : Bool) : State :=
  { s with levels := { s.levels with pilot := { s.levels.pilot with clamped := c } } }

/-- Finds and applies the trim for the last reading, and sets the clamped flag by it (R133, R134). -/
def State.trackPilot (s : State) : State :=
  let p := s.levels.pilot.reading.toNat
  let t := s.searchTrim p
  (s.setApplied (byte t)).setClamped (t < p)

/-- In the event of a load decrease, re-evaluates the clamp while the clamped flag is set (R126, R134). -/
def State.loadDecreased (s : State) : State := if s.levels.pilot.clamped then s.trackPilot else s

/-- A change from `old` to `new` lowered a band's load (R126). -/
def lowersLoad (old new : State) : Bool :=
  new.bandLoad .up < old.bandLoad .up || new.bandLoad .down < old.bandLoad .down

/-- Notes a load decrease when the change from `old` to `new` is one (R126). -/
def noteLoad (old new : State) : State := if lowersLoad old new then new.loadDecreased else new

end Sys2Proof.Machine
end

