-- ==== Sys2Proof/Machine/Slots.lean ====
section
/-! DEFINITION. The operations of the slot pool: counts of slots, selection (R107), the start of an attempt (R109), HALT
(R115), RAMP (R116), failures and retirement (R111, R113). A RETIRED slot is left alone by all of them: it is never
selected and receives no further message (R113). -/

namespace Sys2Proof.Machine

/-- The slots of a band in ascending number. -/
def bandSlots (b : Band) : List SlotId := slotIds.filter fun j => slotBand j = b

/-- The IDLE slots of a band, less one that is left out (R107). -/
def State.idleSlots (s : State) (b : Band) (leftOut : Option SlotId) : List SlotId :=
  (bandSlots b).filter fun j => (s.slot j).state = .idle && some j ≠ leftOut

/-- The IDLE slot count and the RETIRED slot count of a band (R104). -/
def State.idleCount (s : State) (b : Band) : Nat := (s.idleSlots b none).length

def State.retiredCount (s : State) (b : Band) : Nat :=
  ((bandSlots b).filter fun j => (s.slot j).state = .retired).length

/-- Of slots in ascending number, the one with the lowest fail count, the first of equals (R107). -/
def State.fewestFails (s : State) : List SlotId → Option SlotId
  | [] => none
  | j :: rest =>
    match s.fewestFails rest with
    | none => some j
    | some k => if (s.slot k).fails < (s.slot j).fails then some k else some j

/-- The slot the pool selects for a caller that must leave `reserve` IDLE slots behind, if one is eligible (R107). -/
def State.selectSlot (s : State) (b : Band) (reserve : Nat) (leftOut : Option SlotId) : Option SlotId :=
  let idle := s.idleSlots b leftOut
  if reserve < idle.length then s.fewestFails idle else none

/-- The reserve a caller's selections honour: the band's move reserve for ACTIVATION and RELOCK, none for the callers
of a move (R107, R108). -/
def State.reserveFor (s : State) (b : Band) : Caller → Nat
  | .activation => s.plan.settings.reserve.get b
  | .relock => s.plan.settings.reserve.get b
  | .moveTarget => 0
  | .fallback => 0
  | .test => 0

/-- Begins an attempt of a tuning of an entry's grant on a slot, toward the span from `start` (R109). -/
def State.beginAttempt (s : State) (j : SlotId) (i : Fin 64) (caller : Caller) (second : Bool) (start : Nat) : State :=
  match s.grant? i with
  | none => s
  | some g =>
    if (s.slot j).state = .retired then s
    else
      (s.setSlot j
        { s.slot j with
          state := .tuning { caller, second, timeout := Config.lockTimeout }
          holder := some (s.handleOf i) }).send j
        (.tune g.band start g.width (s.profile g.profile).order (s.levels.effective g))

/-- Sends HALT to a slot and makes it IDLE with holder none, its fail count unchanged and its attempt dropped (R115). -/
def State.haltSlot (s : State) (j : SlotId) : State :=
  if (s.slot j).state = .retired then s
  else (s.setSlot j { s.slot j with state := .idle, holder := none }).send j .halt

/-- Halts the slot a part names, when it names one. -/
def State.haltPart (s : State) : Option SlotId → State
  | none => s
  | some j => s.haltSlot j

/-- Sends RAMP to the slot of a grant entering DRAINING; the slot becomes RAMPING and its holder stays (R116). -/
def State.rampSlot (s : State) (j : SlotId) (interval : Nat) : State :=
  if (s.slot j).state = .retired then s
  else (s.setSlot j { s.slot j with state := .ramping }).send j (.ramp interval)

/-- Retires a slot with a fail count: HALT, holder cleared, RETIRED, SLOT_RETIRED (R113). -/
def State.retireSlot (s : State) (j : SlotId) (fails : Nat) : State :=
  ((s.setSlot j { state := .retired, fails, holder := none }).send j .halt).raise .slotRetired

/-- A failed attempt, or a loss on a slot that is not used again: the fail count rises, HALT is sent, and the slot is
IDLE or, at the retiring count, RETIRED, with holder none (R111 steps 1 to 4, R145). -/
def State.failSlot (s : State) (j : SlotId) : State :=
  let n := (s.slot j).fails + 1
  if Config.retireCount ≤ n then s.retireSlot j n
  else (s.setSlot j { state := .idle, fails := n, holder := none }).send j .halt

/-- A failed start-up test: the fail count becomes 3 and the slot is retired (R117). -/
def State.failTest (s : State) (j : SlotId) : State := s.retireSlot j Config.retireCount

/-- Success of the attempt in flight: CARRYING with the same holder, fail count 0 (R110). -/
def State.lockSlot (s : State) (j : SlotId) : State :=
  s.setSlot j { s.slot j with state := .carrying, fails := 0 }

/-- A slot is under its start-up test. -/
def Slot.testing (x : Slot) : Bool :=
  match x.state with
  | .tuning a => a.caller == .test
  | _ => false

/-- Ends start-up, and raises READY, when the last slot has left its test (R117). -/
def State.endStartUp (s : State) : State :=
  if s.pool.startUp && !slotIds.any (fun j => (s.slot j).testing) then
    ({ s with pool := { s.pool with startUp := false } }).raise .ready
  else s

/-- Drain interval of a class, in ms (R63). -/
def drainInterval : Cls → Nat
  | .voice => 40
  | .data => 100
  | .video => 400

end Sys2Proof.Machine
end

