-- ==== Sys2Proof/Machine/Monitor.lean ====
section
/-! DEFINITION. The operations of the ingress monitor: compares (R165), the impairing count (R47, R176), the withdrawal,
detachment and reset of watches (R149, R168, R179), sweeps and measurements (R171 to R174), and reports (R180). -/

namespace Sys2Proof.Machine

def Monitor.position (m : Monitor) (n : Fin 32) : Position := m.positions[n]

def State.withMonitor (s : State) (f : Monitor → Monitor) : State := { s with monitor := f s.monitor }

def State.setPosition (s : State) (n : Fin 32) (p : Position) : State :=
  s.withMonitor fun m => { m with positions := m.positions.set n p }

def State.setThreshold (s : State) (n : Fin 32) (v : Byte) : State :=
  s.withMonitor fun m => { m with thresholds := m.thresholds.set n v }

/-- Position n + 16, the place of a window watch's upper limit (R164). -/
def upperPosition (n : Fin 32) : Fin 32 := n + 16

/-- The window modes (R164). -/
def CompareMode.isWindow : CompareMode → Bool
  | .inside => true
  | .outside => true
  | .above => false
  | .below => false

/-- The compare of a reading with the limits (R165). -/
def compareReading (mode : CompareMode) (lower upper r : Byte) : Bool :=
  match mode with
  | .above => lower < r
  | .below => r < lower
  | .inside => lower < r && r < upper
  | .outside => r < lower || upper < r

/-- The watch names this handle. -/
def Watch.names (w : Watch) (h : Handle) : Bool :=
  match w.target with
  | .grant h' => h' == h
  | .cells _ _ _ => false

/-- Applies a change to every watch. -/
def Monitor.mapWatches (m : Monitor) (f : Watch → Watch) : Monitor :=
  { m with
    positions := Vector.ofFn fun n =>
      match m.position n with
      | .watch w => .watch (f w)
      | p => p }

/-- Makes the measurement in flight void when it was ordered for a grant (R149, R173, R179). -/
def Monitor.voidFor (m : Monitor) (h : Handle) : Monitor :=
  { m with inFlight := m.inFlight.map fun x => if x.handle = some h then { x with void := true } else x }

/-- Makes the measurement in flight void when it was ordered for a position (R167, R168, R173). -/
def Monitor.voidAt (m : Monitor) (n : Fin 32) : Monitor :=
  { m with inFlight := m.inFlight.map fun x => if x.position = n then { x with void := true } else x }

/-- Detaches every watch naming a handle: disabled, condition FALSE, its measurement void (R179). -/
def Monitor.detach (m : Monitor) (h : Handle) : Monitor :=
  (m.mapWatches fun w => if w.names h then { w with enabled := false, condition := false } else w).voidFor h

/-- Sets the condition of every watch naming a handle to FALSE and voids its measurement (R149). -/
def Monitor.resetConditions (m : Monitor) (h : Handle) : Monitor :=
  (m.mapWatches fun w => if w.names h then { w with condition := false } else w).voidFor h

/-! ### The impairing count (R47, R176) -/

/-- The record when the impairing count rises by 1: a LIVE grant whose count rises from 0 becomes IMPAIRED, with news. -/
def Grant.impairUp (g : Grant) : Grant :=
  if g.state = .live ∧ g.impairing = 0 then { g with impairing := 1, state := .impaired, news := true }
  else { g with impairing := g.impairing + 1 }

/-- The record when the impairing count falls by 1: an IMPAIRED grant whose count falls to 0 becomes LIVE, with news. -/
def Grant.impairDown (g : Grant) : Grant :=
  if g.state = .impaired ∧ g.impairing = 1 then { g with impairing := 0, state := .live, news := true }
  else { g with impairing := g.impairing - 1 }

/-- A watch that ties its condition to an impairing count (R176). -/
def WatchAction.impairs : WatchAction → Bool
  | .impair => true
  | .impairAndMove => true
  | .flag => false
  | .block => false

/-- Changes the record of the grant a handle names, when the handle is current. -/
def State.modNamed (s : State) (h : Handle) (f : Grant → Grant) : State :=
  match s.grantOf h with
  | none => s
  | some _ => s.modGrant h.entry f

/-- Withdraws the contribution of a watch that is cleared or replaced (R167, R168). BLOCK needs nothing more: blocked
cells follow from the watches that stand. -/
def State.withdrawWatch (s : State) (w : Watch) : State :=
  match w.target with
  | .cells _ _ _ => s
  | .grant h => if w.enabled && w.condition && w.action.impairs then s.modNamed h Grant.impairDown else s

/-- Removes the watch at a position: its contribution withdrawn, its measurement void, the position EMPTY and its
threshold 0; for a window watch position n + 16 as well (R168). An ask already pending in the move engine stays (DESIGN
CHOICE, log entry 30). -/
def State.removeWatch (s : State) (n : Fin 32) (w : Watch) : State :=
  let s := ((s.withdrawWatch w).withMonitor (·.voidAt n)).setPosition n .empty
  let s := s.setThreshold n 0
  if w.mode.isWindow then (s.setPosition (upperPosition n) .empty).setThreshold (upperPosition n) 0 else s

/-! ### Sweeps and measurements (R171 to R173) -/

/-- The position a sweep visits at a step (R172). -/
def Sweep.visit (w : Sweep) (k : Nat) : Fin 32 :=
  match w.order with
  | .sequential => Fin.ofNat 32 (w.start.val + k)
  | .interleaved => Fin.ofNat 32 (w.start.val ^^^ k)

/-- What a measurement of a position would be ordered for: an enabled watch stands there and, for a GRANT target, its
grant's current span is read now (R172, R173). -/
def State.measurable (s : State) (n : Fin 32) : Option (Band × Nat × Nat × Option Handle) :=
  match s.monitor.position n with
  | .watch w =>
    if w.enabled then
      match w.target with
      | .cells b start width => some (b, start, width, none)
      | .grant h =>
        match s.grantOf h with
        | none => none
        | some g => some (g.band, g.start, g.width, some h)
    else none
  | _ => none

/-- The next step of a sweep, of `n` steps from `k` on, at which a position is measured. -/
def State.nextStep (s : State) (w : Sweep) : Nat → Nat → Option (Nat × Band × Nat × Nat × Option Handle)
  | 0, _ => none
  | n + 1, k =>
    match s.measurable (w.visit k) with
    | some x => some (k, x)
    | none => s.nextStep w n (k + 1)

/-- Sends the measurement of step `k` of a sweep: the next tag, the record in flight, MEASURE, the sense timeout (R173). -/
def State.sendMeasure (s : State) (w : Sweep) (k : Nat) (b : Band) (start width : Nat) (h : Option Handle) : State :=
  s.withMonitor fun m =>
    { m with
      sweep := some { w with step := k, sentAny := true }
      inFlight := some
        { tag := m.tagCounter, position := w.visit k, band := b, start, width, handle := h, void := false,
          timeout := Config.senseTimeout }
      tagCounter := m.tagCounter + 1
      sent := m.sent ++ [{ tag := m.tagCounter, band := b, start, width }] }

/-- The report at the end of a sweep (R180). -/
def State.reportSweep (s : State) (w : Sweep) : State :=
  match s.monitor.settings.report with
  | .none => s
  | .eachSweep => s.raise .sweepDone
  | .sweepWithHit => s.raiseIf w.hit .sweepDone
  | .eachHit => s

def Half.other : Half → Half
  | .a => .b
  | .b => .a

/-- The end of a sweep: the fill half toggles, running becomes no, the report is made (R172). -/
def State.endSweep (s : State) (w : Sweep) : State :=
  (s.withMonitor fun m => { m with sweep := none, fill := m.fill.other }).reportSweep w

def Monitor.half (m : Monitor) : Half → Vector ResultEntry 32
  | .a => m.halfA
  | .b => m.halfB

def Monitor.setHalf (m : Monitor) (h : Half) (v : Vector ResultEntry 32) : Monitor :=
  match h with
  | .a => { m with halfA := v }
  | .b => { m with halfB := v }

/-- Every entry of a half made invalid; the manual changes the valid indication and nothing else (R172, R175). -/
def invalidated (v : Vector ResultEntry 32) : Vector ResultEntry 32 :=
  Vector.ofFn fun n => { v[n] with valid := false }

/-- The sweep that starts with the settings as they stand (R172). -/
def Monitor.freshSweep (m : Monitor) : Sweep :=
  { start := m.settings.start, order := m.settings.order, step := 0, hit := false, sentAny := false }

/-- A sweep starts: the fill half is made invalid and the steps run from 0 to the first position measured. A sweep that
finds none ends in the same event and is not followed by another (R171, R172). -/
def State.startSweep (s : State) : State :=
  let w := s.monitor.freshSweep
  let s := s.withMonitor fun m => { m.setHalf m.fill (invalidated (m.half m.fill)) with sweep := some w }
  match s.nextStep w 32 0 with
  | some (k, b, start, width, h) => s.sendMeasure w k b start width h
  | none => s.endSweep w

/-- A sweep goes on after the measurement of its present step has ended: to the next position measured, or to its end,
where CONTINUOUS mode starts the next one if this one sent a measurement (R171, R172). -/
def State.continueSweep (s : State) : State :=
  match s.monitor.sweep with
  | none => s
  | some w =>
    match s.nextStep w (31 - w.step) (w.step + 1) with
    | some (k, b, start, width, h) => s.sendMeasure w k b start width h
    | none =>
      let s := s.endSweep w
      if s.monitor.settings.mode = .continuous ∧ w.sentAny then s.startSweep else s

/-- In CONTINUOUS mode with no sweep running, a sweep starts at the next SET_WATCH or SET_SWEEP taken (R170, R171). -/
def State.sweepIfContinuous (s : State) : State :=
  if s.monitor.settings.mode = .continuous ∧ s.monitor.sweep = none then s.startSweep else s

/-! ### Readings (R174 to R176) -/

/-- Stores a reading in a position's entry of the fill half (R174). -/
def Monitor.store (m : Monitor) (n : Fin 32) (r : Byte) : Monitor :=
  m.setHalf m.fill ((m.half m.fill).set n { reading := r, valid := true })

/-- Sets a position's hit flag (R175). -/
def Monitor.setHit (m : Monitor) (n : Fin 32) : Monitor := { m with hits := m.hits ||| (1#32 <<< n.val) }

/-- The ask of an automatic move follows unless the grant is PINNED or fixed, is not LIVE or IMPAIRED after the count
change, the plan is frozen, or the region of its current span is frozen (R176). -/
def State.mayAsk (s : State) (g : Grant) : Bool :=
  g.hold != .pinned && !g.fixed && g.carries && !s.table.planFrozen && !s.plan.active.frozenAt g.band g.start

/-- Asks the move engine for an automatic move (R151, R176). -/
def State.askMove (s : State) (h : Handle) : State :=
  match s.grantOf h with
  | none => s
  | some g =>
    if s.mayAsk g then
      { s with engine := { s.engine with asks := s.engine.asks ++ [{ handle := h, spanChanged := false }] } }
    else s

/-- What a turn of a watch's condition drives (R176, R178): the impairing count, and the ask of an automatic move after
it. FLAG drives nothing, and blocked cells follow from the conditions. -/
def State.turned (s : State) (w : Watch) (now : Bool) : State :=
  match w.target with
  | .cells _ _ _ => s
  | .grant h =>
    if w.enabled && w.action.impairs then
      if now then
        let s := s.modNamed h Grant.impairUp
        if w.action = .impairAndMove then s.askMove h else s
      else s.modNamed h Grant.impairDown
    else s

/-- The compare of a reading at a position: condition, hit flags, the sweep's hit indication, the action of a turn, and
the report of a TRUE compare (R165, R174, R175, R180). -/
def State.compareAt (s : State) (n : Fin 32) (w : Watch) (r : Byte) : State :=
  let lower := s.monitor.thresholds[n]
  let upper := s.monitor.thresholds[upperPosition n]
  let now := compareReading w.mode lower upper r
  let s := s.setPosition n (.watch { w with condition := now })
  let s :=
    if now then
      s.withMonitor fun m =>
        let m := m.setHit n
        let m := if w.mode = .outside ∧ upper < r then m.setHit (upperPosition n) else m
        { m with sweep := m.sweep.map fun x => { x with hit := true } }
    else s
  let s := if now ≠ w.condition then s.turned w now else s
  s.raiseIf (now && s.monitor.settings.report == .eachHit) .watchHit

/-- The watch at the recorded position acts on a reading by its disposition (R165, R174). -/
def State.actOn (s : State) (n : Fin 32) (r : Byte) : State :=
  match s.monitor.position n with
  | .watch w =>
    match w.disposition with
    | .compareOnly => s.compareAt n w r
    | .storeOnly => s.withMonitor (·.store n r)
    | .compareStore => (s.withMonitor (·.store n r)).compareAt n w r
  | _ => s

end Sys2Proof.Machine
end

