-- ==== Sys2Proof/Machine/Engine.lean ====
section
/-! DEFINITION. The operations of the move engine and what it asks of the grant table: freeing an entry (R25), span
changes (R149), the start of a move (R141), the fragmentation level (R153, R154) and repack (R155 to R161). -/

namespace Sys2Proof.Machine

/-! ### Entries becoming FREE (R25) -/

/-- An entry becomes FREE: generation, occupancy, grant count, reference count and watches, in one event (R25). The
fragmentation level is recomputed by the caller. -/
def State.freeEntry (s : State) (i : Fin 64) : State :=
  match s.grant? i with
  | none => s
  | some g =>
    let e := s.entry i
    let h := s.handleOf i
    let s := s.setEntry i { e with generation := e.generation + 1, grant := none }
    let s := s.setOccupancy g.band (removeItem i (s.occupancy g.band))
    let s := s.changeCount e.tenant.val (· - 1)
    let s := s.changeReferences g.profile (· - 1)
    s.withMonitor (·.detach h)

/-! ### Span changes (R149) -/

/-- Marks the pending asks that name a handle: their grant's span has changed (R152, R177; log entry 12). -/
def MoveEngine.markAsks (m : MoveEngine) (h : Handle) : MoveEngine :=
  { m with asks := m.asks.map fun a => if a.handle = h then { a with spanChanged := true } else a }

/-- The current span of an entry's grant changes: its start, its item's place in the occupancy list, and the hand-over
to the monitor, which leaves the impairing count at 0 (R26, R149). -/
def State.relocate (s : State) (i : Fin 64) (start : Nat) : State :=
  match s.grant? i with
  | none => s
  | some g =>
    let h := s.handleOf i
    let s := s.modGrant i fun g => { g with start, impairing := 0 }
    let s := s.setOccupancy g.band (insertItem { handle := h, start, width := g.width } (removeItem i (s.occupancy g.band)))
    let s := s.withMonitor (·.resetConditions h)
    { s with engine := s.engine.markAsks h }

/-- A RESERVED grant is moved at once (R140). -/
def State.moveReserved (s : State) (i : Fin 64) (start : Nat) (byTenant : Bool) : State :=
  ((s.setOutcome i .moved).modGrant i (·.withNews byTenant)).relocate i start

/-! ### The start of a move (R141, R142, R146) -/

/-- A move of a LIVE or IMPAIRED grant starts: the move context, MOVING, the target attempt on slot `j` (the second slot
of a seamless move, the own slot of a hard one) and the counted load. The target span is held from here on. -/
def State.beginMove (s : State) (i : Fin 64) (target : Nat) (kind : MoveKind) (origin : MoveOrigin) (j : SlotId)
    (byTenant : Bool) : State :=
  let second := if kind = .seamless then some j else none
  let s := s.modGrant i fun g =>
    Grant.withNews
      { g with state := .moving, move := some { target, kind, origin, phase := .targetTuning, second } } byTenant
  (s.beginAttempt j i .moveTarget false target).recount i

/-- The site on which a grant's move target is tested, its own current span held (R139). -/
def State.moveSite (s : State) (g : Grant) : Site := s.site g.band g.cls (s.profile g.profile).edgeGuard g.width

/-- The unfrozen candidate regions of a grant's AUTO target (R88, R139). -/
def State.openCandidates (s : State) (g : Grant) : List Region :=
  (s.plan.active.candidates g.band g.cls).filter fun r => !r.frozen

/-- There is a candidate region and every one is frozen (R88). -/
def State.allCandidatesFrozen (s : State) (g : Grant) : Bool :=
  !(s.plan.active.candidates g.band g.cls).isEmpty && (s.openCandidates g).isEmpty

/-- The slot a seamless move would take and the budget its double load needs: the slot when both allow it (R138). -/
def State.seamlessSlot (s : State) (g : Grant) : Option SlotId :=
  match s.overBudget (s.loadWith g.band g.counted) with
  | some _ => none
  | none => s.selectSlot g.band 0 none

/-! ### The fragmentation level (R153, R154) -/

def State.setFrag (s : State) (b : Band) (l : Nat) : State :=
  { s with engine := { s.engine with frag := s.engine.frag.put b l } }

/-- A recompute makes a band's level 3 from a lower one (R154). -/
def State.fragTurnsUrgent (s : State) (b : Band) : Bool := s.fragOf b == 3 && s.engine.frag.get b != 3

/-- Recomputes a band's level and raises FRAG_URGENT when it becomes 3 (R153, R154). -/
def State.noteFrag (s : State) (b : Band) : State :=
  (s.setFrag b (s.fragOf b)).raiseIf (s.fragTurnsUrgent b) .fragUrgent

/-! ### Repack (R155 to R161) -/

/-- A repack ends: IDLE, the reason written, REPACK_END raised (R155). -/
def State.endRepack (s : State) (r : EndReason) : State :=
  (s.withRepack { s.engine.repack with running := false, reason := r }).raise .repackEnd

/-- Moves completed rises by 1 and stays at 65535 once there (R155). -/
def State.countMove (s : State) : State :=
  s.withRepack { s.engine.repack with moves := min (s.engine.repack.moves + 1) Config.movesCeiling }

/-- A candidate of a repack step: OPEN or HELD, not fixed, RESERVED or LIVE (R157). -/
def Grant.repackable (g : Grant) : Bool :=
  g.hold != .pinned && !g.fixed && (g.state == .reserved || g.state == .live)

/-- The lowest legal start of a candidate within its own unfrozen region, when it is below its current start (R157). -/
def State.lowerStart (s : State) (g : Grant) : Option Nat :=
  match s.plan.active.regionAt g.band g.start with
  | none => none
  | some (_, r) =>
    if r.frozen then none
    else (s.moveSite g).lowest .legal (min (r.starts g.width) (g.start - r.first)) r.first

/-- The step a repack chooses: the first candidate, in ascending order of current start, that can go lower (R157). -/
def State.chooseStep (s : State) (b : Band) : Option (Fin 64 × Nat) :=
  (s.occupancy b).findSome? fun it =>
    match s.grant? it.handle.entry with
    | none => none
    | some g => if g.repackable then (s.lowerStart g).map fun start => (it.handle.entry, start) else none

/-- The steps of a repack from here on, until a LIVE move is in flight or the repack ends (R157, R158). Each RESERVED
step lowers the sum of the starts of the band, so `repackFuel` steps are never used up (log entry 22). Every step sets
news on the grant it moves, also where a tenant-port MOVE or RESERVE of that grant auto-started the repack in its own
event (DESIGN CHOICE, log entry 24). -/
def State.repackSteps (b : Band) : Nat → State → State
  | 0, s => s.endRepack .blocked
  | n + 1, s =>
    match s.chooseStep b with
    | none => s.endRepack .complete
    | some (i, start) =>
      match s.grant? i with
      | none => s.endRepack .complete
      | some g =>
        if g.state = .reserved then repackSteps b n (((s.moveReserved i start false).countMove).noteFrag b)
        else
          match s.seamlessSlot g with
          | none => s.endRepack .blocked
          | some j => (s.beginMove i start .seamless .repack j false).noteFrag b

/-- More steps than a chain of RESERVED steps can have: the sum of the starts of the band's items, and one. -/
def State.repackFuel (s : State) (b : Band) : Nat := ((s.occupancy b).map (·.start)).sum + 1

/-- The next steps of a running repack are chosen (R159). -/
def State.continueRepack (s : State) : State :=
  match s.engine.repack.band with
  | none => s
  | some b => s.repackSteps b (s.repackFuel b)

/-- A repack of a band starts and chooses its first steps at once (R155, R156). -/
def State.startRepack (s : State) (b : Band) : State :=
  (s.withRepack { s.engine.repack with running := true, band := some b, moves := 0 }).continueRepack

/-- The auto-start condition: the band's switch on, no repack running, the plan not frozen (R154). -/
def State.mayAutoStart (s : State) (b : Band) : Bool :=
  s.plan.settings.autoRepack.get b && !s.engine.repack.running && !s.table.planFrozen

/-- Recomputes a band's level in the event of a change of its held spans, with the auto-start of R154. -/
def State.refreshFrag (s : State) (b : Band) : State :=
  let t := s.noteFrag b
  if s.fragTurnsUrgent b && t.mayAutoStart b then t.startRepack b else t

/-- How a repack's move ended (R159). -/
inductive MoveEnd where
  | onTarget
  | failed
  | left
  deriving DecidableEq, Repr

/-- What the move engine does for a running repack when a move of origin REPACK has ended (R159). -/
def State.repackAfter (s : State) (origin : MoveOrigin) (how : MoveEnd) : State :=
  if origin = .repack ∧ s.engine.repack.running then
    match how with
    | .onTarget => s.countMove.continueRepack
    | .failed => s.endRepack .blocked
    | .left => s.continueRepack
  else s

/-! ### A grant that falls back to RESERVED (R49, R53, R55, R69, R148, R150) -/

/-- The record of a grant that returns to RESERVED on its span: no slot, no move, its lease stopped with the seconds it
has left, a fresh hold timer unless it is PINNED, and news. -/
def Grant.fallenBack (g : Grant) (holdTime : Nat) : Grant :=
  { g with
    state := .reserved
    slot := none
    move := none
    leaseMs := 0
    holdTime := if g.hold = .pinned then none else some holdTime
    holdMs := 0
    phaseTimer := none
    counted := 0
    news := true }

def State.fallBack (s : State) (i : Fin 64) : State :=
  noteLoad s (s.modGrant i (·.fallenBack s.plan.settings.holdTime))

/-! ### The stop of a repack (R150, R161) -/

/-- The grant whose move belongs to the repack, if one is in flight. -/
def State.repackMover (s : State) : Option (Fin 64) :=
  entryNumbers.find? fun i =>
    match s.grant? i with
    | none => false
    | some g =>
      match g.move with
      | none => false
      | some m => m.origin == .repack

/-- The record of a grant that stays carrying on its old span when its move ends there (R47, R144, R148, R150). -/
def Grant.stayed (g : Grant) : Grant := { g with state := g.carryState, move := none, news := true }

/-- Abandons the move in flight of a stopped repack (R150). -/
def State.abandonMove (s : State) (i : Fin 64) : State :=
  match s.grant? i with
  | none => s
  | some g =>
    match g.move with
    | none => s
    | some m =>
      let t :=
        match m.kind with
        | .seamless => noteLoad s (((s.haltPart m.second).modGrant i Grant.stayed).recount i)
        | .hard => (s.haltPart g.slot).fallBack i
      (t.setOutcome i .moveAbandoned).noteFrag g.band

/-- Stops a running repack with reason STOPPED; the move in flight is abandoned first (R161, log entry 8). -/
def State.stopRepack (s : State) : State :=
  if s.engine.repack.running then
    let t :=
      match s.repackMover with
      | none => s
      | some i => s.abandonMove i
    t.endRepack .stopped
  else s

end Sys2Proof.Machine
end

