-- ==== Sys2Proof/Machine/Life.lean ====
section
/-! DEFINITION. How a grant is given up (R57 to R66), and how the outcome of a tuning reaches its grant (R54, R55, R68,
R69, R110 to R112, R143 to R148). -/

namespace Sys2Proof.Machine

/-! ### Draining, quiet, free (R62, R63, R66) -/

/-- The record of a grant entering QUIET (R66). -/
def Grant.quieted (g : Grant) (interval : Nat) : Grant :=
  { g with
    state := .quiet
    lease := none
    leaseMs := 0
    holdTime := none
    holdMs := 0
    phaseTimer := some interval
    slot := none
    move := none
    counted := 0 }

/-- The grant enters QUIET, or its entry becomes FREE in the same event when the quiet interval is 0 (R66). -/
def State.enterQuiet (s : State) (i : Fin 64) : State :=
  let q := s.plan.settings.quietInterval
  let t := s.modGrant i (·.quieted q)
  if q = 0 then t.freeEntry i else t

/-- The record of a grant entering DRAINING; its counted load is held as it stands (R63, R123). -/
def Grant.drained (g : Grant) : Grant :=
  { g with state := .draining, lease := none, leaseMs := 0, phaseTimer := some (drainInterval g.cls) }

/-- The grant enters DRAINING and its slot ramps (R63, R116). -/
def State.enterDraining (s : State) (i : Fin 64) (slot : Option SlotId) (c : Cls) : State :=
  let t := s.modGrant i Grant.drained
  match slot with
  | none => t
  | some j => t.rampSlot j (drainInterval c)

/-- What a carrying grant does when it is given up: a drain, or with cut a HALT and QUIET (R58, R61). -/
def State.takeOffAir (s : State) (i : Fin 64) (slot : Option SlotId) (c : Cls) (cut : Bool) : State :=
  if cut then (s.haltPart slot).enterQuiet i else s.enterDraining i slot c

/-- Ends the seamless move of a grant that is being given up: the second slot halted, the load single again, the grant
carrying on its old span (R62). -/
def State.leaveSeamless (s : State) (i : Fin 64) (second : Option SlotId) : State :=
  ((s.haltPart second).modGrant i fun g => { g with state := g.carryState, move := none }).recount i

/-- A grant is given up, by its state: WITHDRAW, REVOKE or lease expiry (R57, R58, R60, R61, R62). -/
def State.giveUp (s : State) (i : Fin 64) (g : Grant) (cut : Bool) : State :=
  match g.state with
  | .reserved => s.freeEntry i
  | .tuning => (s.haltPart g.slot).enterQuiet i
  | .live => s.takeOffAir i g.slot g.cls cut
  | .impaired => s.takeOffAir i g.slot g.cls cut
  | .moving =>
    match g.move with
    | none => s
    | some m =>
      match m.kind with
      | .seamless => (s.leaveSeamless i m.second).takeOffAir i g.slot g.cls cut
      | .hard => (s.haltPart g.slot).enterQuiet i
  | .draining => if cut then (s.haltPart g.slot).enterQuiet i else s
  | .quiet => s

/-- A grant is given up with a last outcome: the outcome and news, the effect by its state, the load decrease, the
fragmentation level when a held span went, and the repack whose move was left (R57 to R62, R72, R159). The clamp is
re-evaluated once, with the loads as they stand when the grant has left its move and entered DRAINING or QUIET: a member of
P drained out of a seamless move keeps the load of the old trim, and with cut the two falls of the load, the second counting
and the whole, are one decrease, so that the other members of P get at most one LEVEL (DESIGN CHOICE, log entry 26). -/
def State.endGrant (s : State) (i : Fin 64) (o : LastOutcome) (byTenant cut : Bool) : State :=
  match s.grant? i with
  | none => s
  | some g =>
    let t := noteLoad s ((((s.setOutcome i o).modGrant i (·.withNews byTenant))).giveUp i g cut)
    let t := if g.move.isSome || (t.grant? i).isNone then t.refreshFrag g.band else t
    match g.move with
    | none => t
    | some m => t.repackAfter m.origin .left

/-- The end of a drain (R64). -/
def State.endDrain (s : State) (i : Fin 64) (g : Grant) : State :=
  let t := noteLoad s (((s.modGrant i fun g => { g with news := true }).haltPart g.slot).enterQuiet i)
  if (t.grant? i).isNone then t.refreshFrag g.band else t

/-- An entry becomes FREE by a timer, with the recompute that follows (R50, R66). -/
def State.freeByTimer (s : State) (i : Fin 64) (g : Grant) : State := (s.freeEntry i).refreshFrag g.band

/-! ### Outcomes of tunings -/

/-- The start of the span that a tuning of a grant tunes (R108). -/
def Grant.tunedStart (g : Grant) : Caller → Nat
  | .moveTarget =>
    match g.move with
    | none => g.start
    | some m => m.target
  | .activation => g.start
  | .relock => g.start
  | .fallback => g.start
  | .test => g.start

/-- Points the field that names the slot of a tuning to another slot: the second slot of a seamless move's target
tuning, the slot part otherwise (R108). -/
def Grant.pointTo (g : Grant) (caller : Caller) (j : SlotId) : Grant :=
  match caller, g.move with
  | .moveTarget, some m =>
    if m.kind = .seamless then { g with move := some { m with second := some j } } else { g with slot := some j }
  | _, _ => { g with slot := some j }

/-- An activation or a relock has succeeded on slot `j` (R54, R69). -/
def State.carrierUp (s : State) (i : Fin 64) (j : SlotId) : State :=
  (s.modGrant i fun g => { g with state := g.carryState, slot := some j, phaseTimer := none, news := true }).setOutcome
    i .activated

/-- A move ends on its target, tuned on slot `j` (R143, R147). -/
def State.arrive (s : State) (i : Fin 64) (j : SlotId) : State :=
  match s.grant? i with
  | none => s
  | some g =>
    match g.move with
    | none => s
    | some m =>
      let t := if m.kind = .seamless then s.haltPart g.slot else s
      let t := t.modGrant i fun g => { g with state := .live, slot := some j, move := none, news := true }
      let t := noteLoad s (((t.setOutcome i .moved).relocate i m.target).recount i)
      (t.refreshFrag g.band).repackAfter m.origin .onTarget

/-- A move ends with the grant carrying on its old span, on a slot (R144, R148). -/
def State.stayBehind (s : State) (i : Fin 64) (slot : Option SlotId) : State :=
  match s.grant? i with
  | none => s
  | some g =>
    match g.move with
    | none => s
    | some m =>
      let t := s.modGrant i fun g => { g.stayed with slot }
      let t := noteLoad s ((t.setOutcome i .moveFailed).recount i)
      (t.refreshFrag g.band).repackAfter m.origin .failed

/-- The fallback tuning of a hard move fails: RESERVED on the old span (R148). -/
def State.fallbackFails (s : State) (i : Fin 64) : State :=
  match s.grant? i with
  | none => s
  | some g =>
    match g.move with
    | none => s
    | some m => (((s.fallBack i).setOutcome i .moveFailed).refreshFrag g.band).repackAfter m.origin .failed

/-- The target tuning of a hard move fails: the fallback tuning toward the old span begins, or fails at once when no slot
is IDLE (R147). -/
def State.beginFallback (s : State) (i : Fin 64) (g : Grant) (m : MoveContext) : State :=
  let s := s.modGrant i fun g => { g with move := some { m with phase := .fallbackTuning } }
  match s.selectSlot g.band 0 none with
  | none => s.fallbackFails i
  | some k => (s.beginAttempt k i .fallback false g.start).modGrant i (·.pointTo .fallback k)

/-- The failure of a tuning is delivered to its caller (R112). -/
def State.tuningFails (s : State) (i : Fin 64) (caller : Caller) : State :=
  match s.grant? i with
  | none => s
  | some g =>
    match caller with
    | .activation => (s.fallBack i).setOutcome i .activateFailed
    | .relock => s.fallBack i
    | .moveTarget =>
      match g.move with
      | none => s
      | some m =>
        match m.kind with
        | .seamless => s.stayBehind i g.slot
        | .hard => s.beginFallback i g m
    | .fallback => s.fallbackFails i
    | .test => s

/-- The success of a tuning on slot `j` is delivered to its caller (R110). -/
def State.tuningSucceeds (s : State) (i : Fin 64) (caller : Caller) (j : SlotId) : State :=
  match caller with
  | .activation => s.carrierUp i j
  | .relock => s.carrierUp i j
  | .moveTarget => s.arrive i j
  | .fallback => s.stayBehind i (some j)
  | .test => s

/-- The first attempt of a tuning has failed on a slot: the retry begins on another, or the tuning fails (R112). -/
def State.seekRetry (s : State) (i : Fin 64) (caller : Caller) (failedOn : SlotId) : State :=
  match s.grant? i with
  | none => s
  | some g =>
    match s.selectSlot g.band (s.reserveFor g.band caller) (some failedOn) with
    | none => s.tuningFails i caller
    | some k => (s.beginAttempt k i caller true (g.tunedStart caller)).modGrant i (·.pointTo caller k)

/-- The grant is in the state in which a caller's tuning runs: TUNING for an activation or a relock, MOVING with its move
context for the callers of a move (R108). -/
def Grant.awaits (g : Grant) : Caller → Bool
  | .activation => g.state == .tuning
  | .relock => g.state == .tuning
  | .moveTarget => g.move.isSome
  | .fallback => g.move.isSome
  | .test => false

/-- The attempt in flight on a slot fails (R111, R112, R117). -/
def State.attemptFails (s : State) (j : SlotId) (a : Attempt) : State :=
  if a.caller = .test then (s.failTest j).endStartUp
  else
    match (s.slot j).holder with
    | none => s.failSlot j
    | some h =>
      match s.grantOf h with
      | none => s.failSlot j
      | some g =>
        if g.awaits a.caller then
          if a.second then (s.failSlot j).tuningFails h.entry a.caller
          else (s.failSlot j).seekRetry h.entry a.caller j
        else s.failSlot j

/-- The attempt in flight on a slot succeeds (R110, R117). -/
def State.attemptLocks (s : State) (j : SlotId) (a : Attempt) : State :=
  if a.caller = .test then (s.setSlot j { state := .idle, fails := 0, holder := none }).endStartUp
  else
    match (s.slot j).holder with
    | none => s.lockSlot j
    | some h =>
      match s.grantOf h with
      | none => s.lockSlot j
      | some g => if g.awaits a.caller then (s.lockSlot j).tuningSucceeds h.entry a.caller j else s.lockSlot j

/-! ### Loss of lock (R68, R114, R145) -/

/-- The fail count of a CARRYING slot rises by 1, and the slot is retired when it reaches 3 (R113, R114). -/
def State.countLoss (s : State) (j : SlotId) : State :=
  let n := (s.slot j).fails + 1
  if Config.retireCount ≤ n then s.retireSlot j n else s.setSlot j { s.slot j with fails := n }

/-- A LIVE or IMPAIRED grant loses lock: TUNING, LOST, news, CARRIER_LOST, and a relock on the same slot, or the search
for a retry slot when the loss retired it (R68). -/
def State.lockLoss (s : State) (j : SlotId) (i : Fin 64) (g : Grant) : State :=
  let s := s.countLoss j
  let t := (((s.setOutcome i .lost).modGrant i fun g => { g with state := .tuning, news := true })).raise .carrierLost
  if (s.slot j).state = .retired then t.seekRetry i .relock j else t.beginAttempt j i .relock false g.start

/-- The own slot of a seamless mover loses lock: the move becomes HARD on the target attempt in flight (R145). -/
def State.seamlessLoss (s : State) (j : SlotId) (i : Fin 64) (m : MoveContext) : State :=
  let t := (s.failSlot j).modGrant i fun g =>
    { g with slot := m.second, move := some { m with kind := .hard, second := none } }
  (noteLoad s (t.recount i)).raise .carrierLost

/-- A LOST report on a CARRYING slot (R114). -/
def State.lossOfLock (s : State) (j : SlotId) : State :=
  match (s.slot j).holder with
  | none => s.countLoss j
  | some h =>
    match s.grantOf h with
    | none => s.countLoss j
    | some g =>
      if g.carries then s.lockLoss j h.entry g
      else
        match g.move with
        | none => s.countLoss j
        | some m => if m.kind = .seamless ∧ g.slot = some j then s.seamlessLoss j h.entry m else s.countLoss j

end Sys2Proof.Machine
end

