-- ==== Sys2Proof/Machine/Requests.lean ====
section
/-! DEFINITION. The request unit (R183 to R185): which frame it takes next, the frame checks, the row of the table that
taking it is, and the one operation by which every request row takes its frame and places its response. Beside it the
checks that the requests share: port authority, tenant enabled, handle current, owner (R23, R24, R30). -/

namespace Sys2Proof.Machine

/-! ### Which frame is taken (R185) -/

/-- Where the request unit takes a frame from. -/
inductive Source where
  | priority
  | queue (port : Port)
  deriving DecidableEq, Repr

/-- The port that a frame taken from a source belongs to. -/
def Source.port : Source → Port
  | .priority => .management
  | .queue p => p

def otherPort : Port → Port
  | .management => .tenant
  | .tenant => .management

/-- The response queue of a port has a free place. -/
def State.responseRoom (s : State) (p : Port) : Bool := (s.port p).responses.length < Config.queueDepth

/-- A port is eligible: its request queue holds a frame and its response queue has a free place. -/
def State.eligible (s : State) (p : Port) : Bool := !(s.port p).requests.isEmpty && s.responseRoom p

/-- The source of the next frame: the priority slot first, then the eligible queues, the pointer deciding between two.
No frame is taken while RESET_N is held low (R192). -/
def State.nextSource (s : State) : Option Source :=
  if s.ports.resetHeld then none
  else if s.ports.priority.isSome && s.responseRoom .management then some .priority
  else
    match s.eligible .management, s.eligible .tenant with
    | true, true => some (.queue s.ports.pointer)
    | true, false => some (.queue .management)
    | false, true => some (.queue .tenant)
    | false, false => none

/-- The oldest frame of a source. -/
def State.oldestFrame (s : State) : Source → Option Frame
  | .priority => s.ports.priority
  | .queue p => (s.port p).requests.head?

/-- The frame the request unit takes next, with its source. -/
def State.nextFrame (s : State) : Option (Source × Frame) :=
  match s.nextSource with
  | none => none
  | some src => (s.oldestFrame src).map fun f => (src, f)

/-- The frame leaves its place; after a request queue the pointer names the other port (R184, R185). -/
def State.removeFrame (s : State) : Source → State
  | .priority => { s with ports := { s.ports with priority := none } }
  | .queue p =>
    let s := s.setPort p { s.port p with requests := (s.port p).requests.tail }
    { s with ports := { s.ports with pointer := otherPort p } }

/-! ### The frame checks (R183) -/

/-- A header byte; a missing one counts as 0. -/
def headerByte (f : Frame) (i : Nat) : Byte := f.getD i 0

/-- The tenant id is right for the port (R13). -/
def tenantIdOk : Port → Nat → Bool
  | .management, t => t = 0
  | .tenant, t => 1 ≤ t && t ≤ 15

/-- A frame as its request's rule sees it. -/
def requestOf (p : Port) (f : Frame) : Req :=
  { port := p, tenant := (headerByte f 2).toNat, params := (f.drop 4).take (headerByte f 3).toNat }

/-- The row of the request a frame of good form carries; none for a frame that is refused BAD_REQUEST. -/
def goodForm (p : Port) (f : Frame) : Option Instr :=
  match requestIndex (headerByte f 0).toNat with
  | none => none
  | some (row, length) =>
    if (headerByte f 3).toNat = length ∧ 4 + length ≤ f.length ∧ tenantIdOk p (headerByte f 2).toNat then some row
    else none

/-- The row of the table that taking a frame is: NOT_READY_ANSWER during start-up, BAD_REQUEST_FRAME for a frame that
fails the frame checks, else its request's row. -/
def State.rowOf (s : State) (src : Source) (f : Frame) : Instr :=
  if s.pool.startUp then .notReadyAnswer
  else
    match goodForm src.port f with
    | none => .badRequestFrame
    | some row => row

/-! ### Taking a frame and answering it (R183, R185) -/

/-- What a request does: its checks and its effect, with the answer. -/
abbrev Handler := Req → State → State × Reply

/-- The state in which a taken frame is checked and carried out: the frame has left its place, and for a priority frame
a running repack has been stopped (R161, R185). A load decrease of that stop is re-evaluated at once, before the request's
own changes of load (DESIGN CHOICE, log entry 29). -/
def State.taken (s : State) : Source → State
  | .queue p => s.removeFrame (.queue p)
  | .priority => (s.removeFrame .priority).stopRepack

/-- The trailer that ends a priority response: whether the taking stopped a repack, and the moves completed after the
stop (R185). -/
def State.trailer (s : State) : Source → List Byte
  | .queue _ => []
  | .priority => flagByte s.engine.repack.running :: be16 (s.taken .priority).engine.repack.moves

/-- The response frame to a request frame (R183). -/
def responseFrame (f : Frame) (r : Reply) (trailer : List Byte) : Frame :=
  headerByte f 0 :: headerByte f 1 :: byte r.code.code :: byte (r.payload ++ trailer).length :: (r.payload ++ trailer)

/-- Places a response in the response queue of a port (R184). -/
def State.place (s : State) (p : Port) (f : Frame) : State :=
  s.setPort p { s.port p with responses := (s.port p).responses ++ [f] }

/-- Takes a frame, carries out its request and places the one response. -/
def State.answer (s : State) (handler : Handler) (src : Source) (f : Frame) : State :=
  let done := handler (requestOf src.port f) (s.taken src)
  done.1.place src.port (responseFrame f done.2 (s.trailer src))

/-- The event of a request row: the request unit takes the next frame, when that frame is of this row (log entry 7). -/
def State.serve (s : State) (row : Instr) (handler : Handler) : State :=
  match s.nextFrame with
  | none => s
  | some (src, f) => if s.rowOf src f = row then s.answer handler src f else s

/-! ### The checks that requests share (R30) -/

/-- Step 2 for a management request. -/
def managementOnly (r : Req) (s : State) (pass : State × Reply) : State × Reply :=
  if r.port = .management then pass else refuse s .notPermitted

/-- Steps 1 and 2 of a management request whose fields are given as tested. -/
def managementRequest (r : Req) (s : State) (inRange : Bool) (pass : State × Reply) : State × Reply :=
  if inRange then managementOnly r s pass else refuse s .badParam

/-- Step 3: the frame's tenant is enabled (R13). -/
def enabledTenant (r : Req) (s : State) (pass : State × Reply) : State × Reply :=
  if r.port = .tenant ∧ s.tenantEnabled r.tenant = false then refuse s .notEnabled else pass

/-- The entry a parameter byte names, 0 to 63. -/
def Req.entry (r : Req) (i : Nat) : Option (Fin 64) := if h : r.byte i < 64 then some ⟨r.byte i, h⟩ else none

/-- The generation in a parameter byte. -/
def Req.generation (r : Req) (i : Nat) : Byte := r.params.getD i 0

/-- The final outcome that a STALE response gives (R23). -/
def finalOutcome (r : Req) (e : Entry) : LastOutcome :=
  if e.grant = none ∧ (r.port = .management ∨ e.tenant.val = r.tenant) then e.lastOutcome else .none

/-- The payload of a STALE response (R23). -/
def stalePayload (r : Req) (e : Entry) : List Byte :=
  [e.generation, byte e.stateCode, byte (finalOutcome r e).code]

/-- Step 4: the handle is current. -/
def currentHandle (r : Req) (s : State) (h : Handle) (pass : Grant → State × Reply) : State × Reply :=
  match s.grantOf h with
  | none => refuse s .stale (stalePayload r (s.entry h.entry))
  | some g => pass g

/-- Step 5: the grant belongs to the frame's tenant (R24). -/
def owned (r : Req) (s : State) (i : Fin 64) (pass : State × Reply) : State × Reply :=
  if r.port = .tenant ∧ (s.entry i).tenant.val ≠ r.tenant then refuse s .notPermitted else pass

/-- Steps 1 to 5 of a request that either port may send and whose first two parameter bytes are a handle. -/
def ownHandle (r : Req) (s : State) (inRange : Bool) (pass : Fin 64 → Grant → State × Reply) : State × Reply :=
  match r.entry 0 with
  | none => refuse s .badParam
  | some i =>
    if inRange then
      enabledTenant r s (currentHandle r s ⟨i, r.generation 1⟩ fun g => owned r s i (pass i g))
    else refuse s .badParam

/-- Steps 1, 2 and 4 of a management request whose first two parameter bytes are a handle. -/
def managementHandle (r : Req) (s : State) (inRange : Bool) (pass : Fin 64 → Grant → State × Reply) : State × Reply :=
  match r.entry 0 with
  | none => refuse s .badParam
  | some i => managementRequest r s inRange (currentHandle r s ⟨i, r.generation 1⟩ (pass i))

/-- The request came from the tenant port, so that its taking sets no news on the grant it names (R72). -/
def Req.byTenant (r : Req) : Bool := r.port == .tenant

end Sys2Proof.Machine
end

