-- ==== Sys2Proof/Machine/LevelCommands.lean ====
section
/-! DEFINITION. The meanings of the level requests (R127 to R132). -/

namespace Sys2Proof.Machine

/-- The effective level of the grant an entry holds (R121). -/
def State.effectiveOf (s : State) (i : Fin 64) : Nat :=
  match s.grant? i with
  | none => 0
  | some g => s.levels.effective g

/-- The payload of SET_LEVEL and ASSIGN_GROUP: the effective level and the load of the band, after the event (R127). -/
def State.levelPayload (s : State) (i : Fin 64) (b : Band) : List Byte :=
  byte (s.effectiveOf i) :: be16 (s.bandLoad b)

/-- A change of one grant's level or group: the budget check when its counted load follows, then the change with all
that follows from it (R127, R129). Where the re-evaluated clamp changes the same grant's effective level again in this
event, its slots get both LEVELs, the one of the request first (DESIGN CHOICE, log entry 25). -/
def State.relevel (s : State) (i : Fin 64) (g : Grant) (f : Grant → Grant) : State × Reply :=
  let t := applyLevels s (s.modGrant i f)
  match (if g.state.follows then s.overBudget t.bandLoad else none) with
  | some payload => refuse s .budget payload
  | none =>
    let u := noteLoad s t
    answerDone u (u.levelPayload i g.band)

/-! ### SET_LEVEL and ASSIGN_GROUP (R127, R129) -/

/-- SET_LEVEL. -/
def setLevel : Handler := fun r s =>
  ownHandle r s true fun i g =>
    if g.hold = .pinned ∧ r.port = .tenant then refuse s .pinned
    else s.relevel i g fun g => { g with level := r.params.getD 2 0 }

/-- SET_LEVEL (R127). -/
def execSetLevel (s : State) : Host.Outcome State Fault Refusal := .next (s.serve .setLevel setLevel)

/-- ASSIGN_GROUP. -/
def assignGroup : Handler := fun r s =>
  match groupOfCode (r.byte 2) with
  | none => refuse s .badParam
  | some group => managementHandle r s true fun i g => s.relevel i g fun g => { g with group }

/-- ASSIGN_GROUP (R129). -/
def execAssignGroup (s : State) : Host.Outcome State Fault Refusal := .next (s.serve .assignGroup assignGroup)

/-! ### SET_GROUP (R130) -/

/-- The level unit with one of the records G1 to G3 replaced; none for any other group code. -/
def LevelUnit.withGroup (u : LevelUnit) (code : Nat) (x : GroupRecord) : Option LevelUnit :=
  match code with
  | 1 => some { u with g1 := x }
  | 2 => some { u with g2 := x }
  | 3 => some { u with g3 := x }
  | _ => none

/-- The level unit that a SET_GROUP asks for. -/
def State.groupUnit (s : State) (r : Req) : Option LevelUnit :=
  match groupModeOfCode (r.byte 2) with
  | none => none
  | some mode => s.levels.withGroup (r.byte 0) { trim := r.params.getD 1 0, mode }

/-- SET_GROUP. -/
def setGroup : Handler := fun r s =>
  match s.groupUnit r with
  | none => refuse s .badParam
  | some unit =>
    managementRequest r s true
      (let t := applyLevels s { s with levels := unit }
       match s.overBudget t.bandLoad with
       | some payload => refuse s .budget payload
       | none =>
         let u := noteLoad s t
         answerDone u (be16 (u.bandLoad .up) ++ be16 (u.bandLoad .down)))

/-- SET_GROUP (R130). -/
def execSetGroup (s : State) : Host.Outcome State Fault Refusal := .next (s.serve .setGroup setGroup)

/-! ### SET_BUDGET and READ_LEVELS (R131, R132) -/

def State.setBudget (s : State) (b : Band) (n : Nat) : State :=
  { s with levels := { s.levels with budget := s.levels.budget.put b n } }

/-- SET_BUDGET: raising a budget is a load decrease of that band (R126). -/
def setBudget : Handler := fun r s =>
  match bandOfCode (r.byte 0) with
  | none => refuse s .badParam
  | some b =>
    let n := r.word 1
    managementRequest r s true
      (if n < s.bandLoad b then refuse s .budget (byte (bandCode b) :: (be16 (s.bandLoad b) ++ be16 n))
       else
         let t := s.setBudget b n
         answerDone (if s.budget b < n then t.loadDecreased else t))

/-- SET_BUDGET (R131). -/
def execSetBudget (s : State) : Host.Outcome State Fault Refusal := .next (s.serve .setBudget setBudget)

def GroupRecord.bytes (x : GroupRecord) : List Byte := [x.trim, byte x.mode.code]

/-- The seventeen bytes of READ_LEVELS. -/
def State.levelsPayload (s : State) : List Byte :=
  s.levels.g1.bytes ++ s.levels.g2.bytes ++ s.levels.g3.bytes
    ++ [s.levels.pilot.reading, s.levels.pilot.applied, flagByte s.levels.pilot.clamped]
    ++ be16 (s.bandLoad .up) ++ be16 (s.budget .up) ++ be16 (s.bandLoad .down) ++ be16 (s.budget .down)

/-- READ_LEVELS. -/
def readLevels : Handler := fun r s => managementRequest r s true (answerDone s s.levelsPayload)

/-- READ_LEVELS (R132). -/
def execReadLevels (s : State) : Host.Outcome State Fault Refusal := .next (s.serve .readLevels readLevels)

end Sys2Proof.Machine
end

