-- ==== Sys2Proof/Machine/PlanCommands.lean ====
section
/-! DEFINITION. The meanings of the plan store requests (R4 to R18). Each is taken from the management port only and is
checked in the order of R4: fields, port, own checks. -/

namespace Sys2Proof.Machine

/-- A region or profile index, 0 to 7. -/
def indexOf (n : Nat) : Option (Fin 8) := if h : n < 8 then some ⟨n, h⟩ else none

/-! ### STAGE_REGION and DISCARD_STAGED (R5, R6) -/

/-- The present record that a STAGE_REGION writes, when its fields are in range (R1, R5). -/
def presentRecord (r : Req) : Option Region :=
  match bandOfCode (r.byte 2), classSetOfCode (r.byte 7), yesNoOfCode (r.byte 8) with
  | some band, some classes, some frozen =>
    if cellInBand band (r.word 3) && cellInBand band (r.word 5) && r.word 3 ≤ r.word 5 && classes != 0 then
      some { band, first := r.word 3, last := r.word 5, classes, frozen }
    else none
  | _, _, _ => none

/-- The record that a STAGE_REGION writes: `some none` for an absent one, whose other fields are not examined. -/
def writtenRecord (r : Req) : Option (Option Region) :=
  match yesNoOfCode (r.byte 1) with
  | none => none
  | some false => some none
  | some true => (presentRecord r).map some

/-- Two records share a cell of one band. -/
def Region.overlaps (x y : Region) : Bool := x.band == y.band && x.first ≤ y.last && y.first ≤ x.last

/-- The plan that a STAGE_REGION starts from: the staged plan, else a copy of the active plan (R5). -/
def PlanStore.base (p : PlanStore) : Plan := p.staged.getD p.active

/-- A record shares a cell with a present record of a plan at another index. -/
def Plan.clashes (p : Plan) (k : Fin 8) : Option Region → Bool
  | none => false
  | some x => p.present.any fun y => y.1 != k.val && x.overlaps y.2

def State.withPlan (s : State) (p : PlanStore) : State := { s with plan := p }

/-- STAGE_REGION. -/
def stageRegion : Handler := fun r s =>
  match indexOf (r.byte 0), writtenRecord r with
  | some k, some record =>
    managementRequest r s true
      (if s.plan.base.clashes k record then refuse s .overlap
       else answerDone (s.withPlan { s.plan with staged := some (s.plan.base.set k record) }))
  | _, _ => refuse s .badParam

/-- STAGE_REGION (R5). -/
def execStageRegion (s : State) : Host.Outcome State Fault Refusal := .next (s.serve .stageRegion stageRegion)

/-- DISCARD_STAGED. -/
def discardStaged : Handler := fun r s =>
  managementRequest r s true
    (answerDone (s.withPlan { s.plan with staged := none }) [flagByte s.plan.staged.isSome])

/-- DISCARD_STAGED (R6). -/
def execDiscardStaged (s : State) : Host.Outcome State Fault Refusal := .next (s.serve .discardStaged discardStaged)

/-! ### FREEZE_REGION and READ_REGION (R7, R9) -/

/-- A set byte and a clear byte of which exactly one is indicated: true to set (R7, R84). -/
def setOrClear (set clear : Nat) : Option Bool :=
  match yesNoOfCode set, yesNoOfCode clear with
  | some true, some false => some true
  | some false, some true => some false
  | _, _ => none

/-- A plan with the frozen flag of one record changed, where that record is present. -/
def Plan.freeze (p : Plan) (k : Fin 8) (flag : Bool) : Plan :=
  p.set k (p[k].map fun (x : Region) => { x with frozen := flag })

/-- A region is present in the active plan, or is a present record of a present staged plan (R7). -/
def PlanStore.knows (p : PlanStore) (k : Fin 8) : Bool :=
  p.active[k].isSome ||
    match p.staged with
    | none => false
    | some q => q[k].isSome

/-- FREEZE_REGION. -/
def freezeRegion : Handler := fun r s =>
  match indexOf (r.byte 0), setOrClear (r.byte 1) (r.byte 2) with
  | some k, some flag =>
    managementRequest r s (s.plan.knows k)
      (answerDone (s.withPlan
        { s.plan with
          active := s.plan.active.freeze k flag
          staged := s.plan.staged.map fun (q : Plan) => q.freeze k flag }))
  | _, _ => refuse s .badParam

/-- FREEZE_REGION (R7). -/
def execFreezeRegion (s : State) : Host.Outcome State Fault Refusal := .next (s.serve .freezeRegion freezeRegion)

/-- A region record on the wire; an absent record reads as zero (R2, R9). -/
def recordBytes : Option Region → List Byte
  | none => List.replicate 8 0
  | some x =>
    [flagByte true, byte (bandCode x.band)] ++ be16 x.first ++ be16 x.last
      ++ [byte x.classes.toNat, flagByte x.frozen]

/-- READ_REGION: plan 0 ACTIVE, 1 STAGED; with no staged plan the active record is returned. -/
def readRegion : Handler := fun r s =>
  match indexOf (r.byte 0), yesNoOfCode (r.byte 1) with
  | some k, some wantStaged =>
    let plan := if wantStaged then s.plan.base else s.plan.active
    managementRequest r s true (answerDone s (flagByte s.plan.staged.isSome :: recordBytes plan[k]))
  | _, _ => refuse s .badParam

/-- READ_REGION (R9). -/
def execReadRegion (s : State) : Host.Outcome State Fault Refusal := .next (s.serve .readRegion readRegion)

/-! ### SET_GUARD (R12) -/

/-- Inserts a held span in a list ordered by start. -/
def insertHeld (h : Held) : List Held → List Held
  | [] => [h]
  | x :: xs => if h.start ≤ x.start then h :: x :: xs else x :: insertHeld h xs

/-- Held spans in ascending start order. -/
def sortHeld : List Held → List Held
  | [] => []
  | x :: xs => insertHeld x (sortHeld xs)

/-- The first pair of an ordered list whose gap falls below its required gap: by the lower span, then the upper. -/
def firstOffence (m : GuardMatrix) : List Held → Option (Held × Held)
  | [] => none
  | low :: rest =>
    match rest.find? fun high =>
        gapBetween low.start low.width high.start high.width < requiredGap m low.cls low.edge high with
    | some high => some (low, high)
    | none => firstOffence m rest

/-- The first offending pair of a matrix, the upstream band first. -/
def State.guardConflict (s : State) (m : GuardMatrix) : Option (Held × Held) :=
  match firstOffence m (sortHeld (s.heldSpans .up)) with
  | some x => some x
  | none => firstOffence m (sortHeld (s.heldSpans .down))

/-- The two bytes of an entry's handle. -/
def State.handleBytes (s : State) (i : Fin 64) : List Byte := [byte i.val, (s.entry i).generation]

/-- The six values of a SET_GUARD in the order of R10. -/
def guardsOf (r : Req) : GuardMatrix where
  dataData := r.byte 0
  dataVideo := r.byte 1
  dataVoice := r.byte 2
  videoVideo := r.byte 3
  videoVoice := r.byte 4
  voiceVoice := r.byte 5

def GuardMatrix.values (m : GuardMatrix) : List Nat :=
  [m.dataData, m.dataVideo, m.dataVoice, m.videoVideo, m.videoVoice, m.voiceVoice]

/-- SET_GUARD. -/
def setGuard : Handler := fun r s =>
  let m := guardsOf r
  managementRequest r s (m.values.all fun v => v ≤ 16)
    (match s.guardConflict m with
     | some (low, high) => refuse s .guardConflict (s.handleBytes low.entry ++ s.handleBytes high.entry)
     | none => answerDone (s.withPlan { s.plan with guards := m }))

/-- SET_GUARD (R12). -/
def execSetGuard (s : State) : Host.Outcome State Fault Refusal := .next (s.serve .setGuard setGuard)

/-! ### SET_TENANT and READ_TENANT (R14, R15) -/

/-- SET_TENANT. -/
def setTenant : Handler := fun r s =>
  match tenantPlace (r.byte 0), yesNoOfCode (r.byte 1), clsOfCode (r.byte 2) with
  | some k, some enabled, some cls =>
    managementRequest r s (r.byte 3 ≤ 64)
      (if s.plan.directory[k].cls ≠ cls ∧ s.table.counts[k] ≠ 0 then refuse s .inUse
       else
         answerDone (s.withPlan
           { s.plan with directory := s.plan.directory.set k { enabled, cls, quota := r.byte 3 } }))
  | _, _, _ => refuse s .badParam

/-- SET_TENANT (R14). -/
def execSetTenant (s : State) : Host.Outcome State Fault Refusal := .next (s.serve .setTenant setTenant)

/-- READ_TENANT. -/
def readTenant : Handler := fun r s =>
  match tenantPlace (r.byte 0) with
  | none => refuse s .badParam
  | some k =>
    let d := s.plan.directory[k]
    managementRequest r s true
      (answerDone s [flagByte d.enabled, byte d.cls.code, byte d.quota, byte s.table.counts[k]])

/-- READ_TENANT (R15). -/
def execReadTenant (s : State) : Host.Outcome State Fault Refusal := .next (s.serve .readTenant readTenant)

/-! ### SET_PLAN_SETTINGS and READ_SETTINGS (R16 to R18) -/

/-- The six settings of a request, when the auto-repack bytes are codes. -/
def settingsOf (r : Req) : Option Settings :=
  match yesNoOfCode (r.byte 6), yesNoOfCode (r.byte 7) with
  | some up, some down =>
    some
      { quietInterval := r.word 0, holdTime := r.word 2, reserve := { up := r.byte 4, down := r.byte 5 },
        autoRepack := { up, down } }
  | _, _ => none

/-- The ranges of R16. -/
def Settings.inRange (x : Settings) : Bool :=
  x.quietInterval ≤ 10000 && 1 ≤ x.holdTime && x.holdTime ≤ 600 && x.reserve.up ≤ 4 && x.reserve.down ≤ 4

/-- A switch turned from off to on with the band's level at 3 starts a repack under the auto-start condition (R17). -/
def State.switchStart (s : State) (old : Settings) (b : Band) : State :=
  if old.autoRepack.get b = false ∧ s.plan.settings.autoRepack.get b = true ∧ s.engine.frag.get b = 3
      ∧ s.mayAutoStart b = true then
    s.startRepack b
  else s

/-- SET_PLAN_SETTINGS. With both switches turned on at level 3 the upstream band comes first (log entry 10). -/
def setPlanSettings : Handler := fun r s =>
  match settingsOf r with
  | none => refuse s .badParam
  | some x =>
    managementRequest r s x.inRange
      (answerDone
        (((s.withPlan { s.plan with settings := x }).switchStart s.plan.settings .up).switchStart s.plan.settings
          .down))

/-- SET_PLAN_SETTINGS (R16, R17). -/
def execSetPlanSettings (s : State) : Host.Outcome State Fault Refusal :=
  .next (s.serve .setPlanSettings setPlanSettings)

/-- The payload of READ_SETTINGS. -/
def PlanStore.settingsPayload (p : PlanStore) : List Byte :=
  p.guards.values.map byte ++ be16 p.settings.quietInterval ++ be16 p.settings.holdTime
    ++ [byte p.settings.reserve.up, byte p.settings.reserve.down, flagByte p.settings.autoRepack.up,
        flagByte p.settings.autoRepack.down]

/-- READ_SETTINGS. -/
def readSettings : Handler := fun r s => managementRequest r s true (answerDone s s.plan.settingsPayload)

/-- READ_SETTINGS (R18). -/
def execReadSettings (s : State) : Host.Outcome State Fault Refusal := .next (s.serve .readSettings readSettings)

end Sys2Proof.Machine
end

