-- ==== Sys2Proof/Machine/TableCommands.lean ====
section
/-! DEFINITION. The meanings of the requests of the grant table's own chapter: RESERVE (R31 to R38, R48), LOOKUP (R39,
R40), FIND (R41, R42), LIST_OWN (R43) and LIST_BAND (R44). -/

namespace Sys2Proof.Machine

/-! ### RESERVE: its parameters (R31) -/

/-- The fields of a RESERVE. The start is examined for EXPLICIT only and the region for AUTO only (`none` is ANY). -/
structure Wish where
  band : Band
  payload : Nat
  profile : Fin 8
  placement : Placement
  start : Nat
  region : Option (Fin 8)
  cls : Cls
  hold : HoldClass
  fixed : Bool
  level : Byte
  group : Group
  lease : Nat
  deriving DecidableEq, Repr

/-- The class of the grant: the tenant's directory class, or the class parameter of a management frame. -/
def State.wishClass (s : State) (r : Req) : Option Cls :=
  match r.port with
  | .management => clsOfCode (r.byte 7)
  | .tenant => (s.directoryEntry r.tenant).map (·.cls)

/-- The region field; it is examined for AUTO only. -/
def wishRegion (r : Req) : Placement → Option (Option (Fin 8))
  | .explicit => some none
  | .auto => regionIndexOfCode (r.byte 6)

/-- The fields of a RESERVE whose coded fields all lie in their lists. -/
def State.wishOf (s : State) (r : Req) : Option Wish := do
  let band ← bandOfCode (r.byte 0)
  let profile ← indexOf (r.byte 2)
  let placement ← placementOfCode (r.byte 3)
  let region ← wishRegion r placement
  let cls ← s.wishClass r
  let hold ← holdOfCode (r.byte 8)
  let fixed ← yesNoOfCode (r.byte 9)
  let group ← groupOfCode (r.byte 11)
  pure
    { band, payload := r.byte 1, profile, placement, start := r.word 4, region, cls, hold, fixed,
      level := r.params.getD 10 0, group, lease := r.word 12 }

/-- The payload range of a class (R31). -/
def payloadOk : Cls → Nat → Bool
  | .voice, n => 1 ≤ n && n ≤ 4
  | .video, n => 1 ≤ n && n ≤ 16
  | .data, n => 1 ≤ n && n ≤ 192

/-- The width a RESERVE asks for (R98). -/
def State.wishWidth (s : State) (w : Wish) : Nat := w.payload * (s.profile w.profile).expansion

/-- The checks of step 1 that need the profile. With an UNDEFINED profile there is no width; the start of an EXPLICIT
placement is still a cell named in a request (R1, R31; log entry 13). -/
def State.wishFits (s : State) (w : Wish) : Bool :=
  if (s.profile w.profile).state = .undefined then
    w.placement == .auto || cellInBand w.band w.start
  else
    s.wishWidth w ≤ Config.maxWidth && (w.placement == .auto || spanInBand w.band w.start (s.wishWidth w))

/-- Step 2 of a tenant-port RESERVE (R32). -/
def Wish.plain (w : Wish) : Bool := w.hold == .opened && !w.fixed && w.group == .none

/-! ### RESERVE: steps 9 to 13 (R33 to R37) -/

/-- The regions an AUTO placement searches, before step 9 and without regard to size: the named region when it is
present in the named band and holds the class, or the candidates for ANY. -/
def Plan.wishRegions (p : Plan) (w : Wish) : List Region :=
  match w.region with
  | none => p.candidates w.band w.cls
  | some k =>
    match p[k] with
    | none => []
    | some x => if x.band = w.band ∧ x.classes.has w.cls = true then [x] else []

/-- Step 9 for the regions (R33). -/
def Plan.wishFrozen (p : Plan) (w : Wish) : Bool :=
  match w.placement with
  | .explicit => p.frozenAt w.band w.start
  | .auto =>
    match w.region with
    | some k =>
      match p[k] with
      | none => false
      | some x => x.frozen
    | none => !(p.candidates w.band w.cls).isEmpty && (p.candidates w.band w.cls).all (·.frozen)

/-- The regions that pass step 12 of an AUTO placement: not frozen, and at least as large as the width (R33, R34). -/
def State.wishSearch (s : State) (w : Wish) : List Region :=
  (s.plan.active.wishRegions w).filter fun x => !x.frozen && s.wishWidth w ≤ x.size

/-- Step 12 (R34). -/
def State.wishRegionOk (s : State) (w : Wish) : Bool :=
  match w.placement with
  | .explicit => s.plan.active.allowsSpan w.band w.start (s.wishWidth w) w.cls
  | .auto => !(s.wishSearch w).isEmpty

/-- What the new span is tested against (R35). -/
def State.wishSite (s : State) (w : Wish) : Site :=
  s.site w.band w.cls (s.profile w.profile).edgeGuard (s.wishWidth w)

/-- The result code of a placement that is not legal (R36). -/
def Placed.refusal : Placed → ResultCode
  | .legal => .done
  | .noSpace => .noSpace
  | .guard => .guard
  | .blocked => .blocked

/-- The placement tests of step 13: the start of the new span, or the refusal (R36, R37). -/
def State.wishStart (s : State) (w : Wish) : Except ResultCode Nat :=
  match w.placement with
  | .explicit =>
    match (s.wishSite w).test w.start with
    | .legal => .ok w.start
    | p => .error p.refusal
  | .auto =>
    match (s.wishSite w).search (s.wishSearch w) with
    | some start => .ok start
    | none => .error (if (s.wishSite w).blockedSomewhere (s.wishSearch w) then .blocked else .noSpace)

/-- The lowest-numbered FREE entry (R35). -/
def State.freeEntryNumber (s : State) : Option (Fin 64) := entryNumbers.find? fun i => (s.grant? i).isNone

/-- Step 11: the tenant's count is below its quota; management makes no quota check (R29). -/
def State.quotaLeft (s : State) (r : Req) : Bool :=
  match r.port with
  | .management => true
  | .tenant =>
    match s.directoryEntry r.tenant with
    | none => false
    | some d => s.grantCount r.tenant < d.quota

/-- Steps 9 to 13 of RESERVE: the entry and the start of the new grant, or the refusal. -/
def State.admission (s : State) (r : Req) (w : Wish) : Except ResultCode (Fin 64 × Nat) :=
  if s.table.planFrozen then .error .frozen
  else if s.plan.active.wishFrozen w then .error .frozen
  else if (s.profile w.profile).state ≠ .ready then .error .profileNotReady
  else if (s.profile w.profile).classes.has w.cls = false then .error .profileClass
  else if s.quotaLeft r = false then .error .quota
  else if s.wishRegionOk w = false then .error .region
  else
    match s.freeEntryNumber with
    | none => .error .noSpace
    | some i => (s.wishStart w).map fun start => (i, start)

/-! ### RESERVE: the grant it makes (R38, R48) -/

/-- The lease part of a new record (R48). -/
def newLease (p : Port) (w : Wish) : Option Nat :=
  match p with
  | .tenant => some (if w.lease = 0 then Config.defaultLease else w.lease)
  | .management => if w.hold = .pinned ∨ w.lease = 0 then none else some w.lease

/-- The new record (R38). -/
def newGrant (p : Port) (w : Wish) (start width holdTime : Nat) : Grant where
  state := .reserved
  cls := w.cls
  band := w.band
  start := start
  payload := w.payload
  profile := w.profile
  width := width
  hold := w.hold
  fixed := w.fixed
  level := w.level
  group := w.group
  impairing := 0
  news := false
  lease := newLease p w
  leaseMs := 0
  holdTime := if w.hold = .pinned then none else some holdTime
  holdMs := 0
  phaseTimer := none
  slot := none
  move := none
  counted := 0

/-- Makes the grant: record, occupancy item, counts, and the recompute of the level (R38). A repack that the recompute
auto-starts may slide the new grant in this event, and then sets its news (DESIGN CHOICE, log entry 24). -/
def State.makeGrant (s : State) (r : Req) (w : Wish) (i : Fin 64) (start : Nat) : State :=
  let g := newGrant r.port w start (s.wishWidth w) s.plan.settings.holdTime
  let t := s.setEntry i { s.entry i with tenant := Fin.ofNat 16 r.tenant, lastOutcome := .none, grant := some g }
  let t := t.setOccupancy w.band
    (insertItem { handle := s.handleOf i, start, width := g.width } (t.occupancy w.band))
  let t := t.changeCount r.tenant (· + 1)
  let t := t.changeReferences w.profile (· + 1)
  t.refreshFrag w.band

/-- RESERVE. -/
def reserve : Handler := fun r s =>
  match s.wishOf r with
  | none => refuse s .badParam
  | some w =>
    if payloadOk w.cls w.payload && s.wishFits w then
      if r.port = .tenant ∧ w.plain = false then refuse s .notPermitted
      else
        enabledTenant r s
          (match s.admission r w with
           | .error c => refuse s c
           | .ok (i, start) =>
             answerDone (s.makeGrant r w i start)
               (s.handleBytes i ++ be16 start ++ [byte (s.wishWidth w)]))
    else refuse s .badParam

/-- RESERVE (R31 to R38). -/
def execReserve (s : State) : Host.Outcome State Fault Refusal := .next (s.serve .reserve reserve)

/-! ### LOOKUP (R39, R40) -/

/-- The phase timer part: in TUNING the lock timeout of the attempt on the grant's slot, as the slot pool keeps it
(R21, R109). -/
def State.phaseTimerOf (s : State) (g : Grant) : Option Nat :=
  match g.state with
  | .tuning =>
    match g.slot with
    | none => none
    | some j =>
      match (s.slot j).state with
      | .tuning a => some a.timeout
      | _ => none
  | _ => g.phaseTimer

/-- The value of an optional part; an absent part reads as 0 (R21). -/
def partValue : Option Nat → Nat := fun x => x.getD 0

/-- A slot part as its number within the band (R21). -/
def slotPart : Option SlotId → Nat
  | none => 0
  | some j => slotNumber j

/-- The second slot part of a move context (R22). -/
def Grant.second (g : Grant) : Option SlotId :=
  match g.move with
  | none => none
  | some m => m.second

/-- The presence byte (R40). -/
def State.presence (s : State) (g : Grant) : Nat :=
  g.lease.isSome.toNat + 2 * g.holdTime.isSome.toNat + 4 * (s.phaseTimerOf g).isSome.toNat
    + 8 * g.slot.isSome.toNat + 16 * g.move.isSome.toNat + 32 * g.second.isSome.toNat

/-- The move context in the record: target start, kind, origin, phase (R40). -/
def moveBytes : Option MoveContext → List Byte
  | none => [0, 0, 0, 0, 0]
  | some m => be16 m.target ++ [byte m.kind.code, byte m.origin.code, byte m.phase.code]

/-- The 32-byte grant record (R40). -/
def State.recordOf (s : State) (i : Fin 64) (g : Grant) : List Byte :=
  let e := s.entry i
  [byte i.val, e.generation, byte g.state.code, byte e.tenant.val, byte g.cls.code, byte (bandCode g.band)]
    ++ be16 g.start
    ++ [byte g.payload, byte g.profile.val, byte g.width, byte g.hold.code, flagByte g.fixed, g.level,
        byte g.group.code, byte (s.presence g)]
    ++ be16 (partValue g.lease) ++ be16 (partValue g.holdTime) ++ be16 (partValue (s.phaseTimerOf g))
    ++ [byte (slotPart g.slot)] ++ moveBytes g.move
    ++ [byte (slotPart g.second), byte g.impairing, flagByte g.news, byte e.lastOutcome.code]

/-- LOOKUP: the record; at the tenant port the news flag is then cleared. -/
def lookup : Handler := fun r s =>
  ownHandle r s true fun i g =>
    answerDone (if r.port = .tenant then s.modGrant i fun g => { g with news := false } else s) (s.recordOf i g)

/-- LOOKUP (R39). -/
def execLookup (s : State) : Host.Outcome State Fault Refusal := .next (s.serve .lookup lookup)

/-! ### FIND (R41, R42) -/

/-- The held span of a band that a cell lies in. -/
def State.heldAt (s : State) (b : Band) (c : Nat) : Option Held :=
  (s.heldSpans b).find? fun h => h.start ≤ c && c < h.start + h.width

/-- The region byte of FIND: the index of the present active region holding the cell, else 255. -/
def State.regionByte (s : State) (b : Band) (c : Nat) : Byte :=
  match s.plan.active.regionAt b c with
  | none => 255
  | some x => byte x.1

/-- The grant of an entry is the requester's own: every grant at the management port (R42). -/
def State.isOwn (s : State) (r : Req) (i : Fin 64) : Bool :=
  r.port == .management || (s.entry i).tenant.val == r.tenant

/-- The six bytes of FIND (R42). -/
def State.findPayload (s : State) (r : Req) (b : Band) (c : Nat) : List Byte :=
  match s.heldAt b c with
  | some h =>
    let own := s.isOwn r h.entry
    [0, s.regionByte b c] ++ (if own then s.handleBytes h.entry else [255, 255])
      ++ [flagByte h.isTarget, flagByte own]
  | none =>
    let answer : Nat :=
      if (s.plan.active.regionAt b c).isNone then 3 else if s.blockedCell b c then 2 else 1
    [byte answer, s.regionByte b c, 255, 255, 0, 0]

/-- FIND. -/
def find : Handler := fun r s =>
  match bandOfCode (r.byte 0) with
  | none => refuse s .badParam
  | some b =>
    if cellInBand b (r.word 1) then enabledTenant r s (answerDone s (s.findPayload r b (r.word 1)))
    else refuse s .badParam

/-- FIND (R41). -/
def execFind (s : State) : Host.Outcome State Fault Refusal := .next (s.serve .find find)

/-! ### LIST_OWN and LIST_BAND (R43, R44) -/

/-- A page of a list: its count, whether more remain, and its items. -/
def pagePayload {α : Type} (all : List α) (item : α → List Byte) : List Byte :=
  let page := all.take Config.pageSize
  byte page.length :: flagByte (page.length < all.length) :: page.flatMap item

/-- The entry holds a grant of the requester: of the frame's tenant, which is 0 at the management port (R13, R43). -/
def State.ownEntry (s : State) (r : Req) (i : Fin 64) : Bool :=
  (s.grant? i).isSome && (s.entry i).tenant.val == r.tenant

/-- LIST_OWN. -/
def listOwn : Handler := fun r s =>
  if r.byte 0 < 64 then
    enabledTenant r s
      (answerDone s
        (pagePayload (entryNumbers.filter fun i => r.byte 0 ≤ i.val && s.ownEntry r i) fun i =>
          s.handleBytes i ++ [byte (s.entry i).stateCode]))
  else refuse s .badParam

/-- LIST_OWN (R43). -/
def execListOwn (s : State) : Host.Outcome State Fault Refusal := .next (s.serve .listOwn listOwn)

/-- LIST_BAND. -/
def listBand : Handler := fun r s =>
  match bandOfCode (r.byte 0) with
  | none => refuse s .badParam
  | some b =>
    managementRequest r s (cellInBand b (r.word 1))
      (answerDone s
        (pagePayload ((s.occupancy b).filter fun it => r.word 1 ≤ it.start) fun it =>
          [byte it.handle.entry.val, it.handle.generation] ++ be16 it.start))

/-- LIST_BAND (R44). -/
def execListBand (s : State) : Host.Outcome State Fault Refusal := .next (s.serve .listBand listBand)

end Sys2Proof.Machine
end

