-- ==== Sys2Proof/Machine/LifeCommands.lean ====
section
/-! DEFINITION. The meanings of the requests on the life and the protection of a grant: ACTIVATE (R51, R52), RENEW (R56),
WITHDRAW (R58), REVOKE (R59 to R61), HOLD, UNHOLD, PIN (R78 to R80) and FREEZE_PLAN (R84, R86). -/

namespace Sys2Proof.Machine

/-! ### ACTIVATE (R51, R52) -/

/-- The record of a grant that begins its activation: TUNING on a slot, the hold time removed, the lease beginning to
run (R52). -/
def Grant.activated (g : Grant) (j : SlotId) (byTenant : Bool) : Grant :=
  Grant.withNews
    { g with state := .tuning, holdTime := none, holdMs := 0, leaseMs := 0, phaseTimer := none, slot := some j }
    byTenant

/-- The activation of a grant on a slot: the record, its counted load, and the first attempt (R52). -/
def State.beginActivation (s : State) (i : Fin 64) (g : Grant) (j : SlotId) (byTenant : Bool) : State :=
  ((s.modGrant i (·.activated j byTenant)).recount i).beginAttempt j i .activation false g.start

/-- Steps 6, 10, 14 and 15 of ACTIVATE: the slot of the first attempt, or the refusal (R51). -/
def State.activation (s : State) (g : Grant) : Except Reply SlotId :=
  if g.state ≠ .reserved then .error ⟨.badState, []⟩
  else if (s.profile g.profile).state ≠ .ready then .error ⟨.profileNotReady, []⟩
  else if (s.profile g.profile).classes.has g.cls = false then .error ⟨.profileClass, []⟩
  else
    match s.overBudget (s.loadWith g.band (s.levels.loadOf g)) with
    | some payload => .error ⟨.budget, payload⟩
    | none =>
      match s.selectSlot g.band (s.reserveFor g.band .activation) none with
      | none => .error ⟨.noSlot, []⟩
      | some j => .ok j

/-- ACTIVATE. -/
def activate : Handler := fun r s =>
  ownHandle r s true fun i g =>
    match s.activation g with
    | .error reply => (s, reply)
    | .ok j => answerAccepted (s.beginActivation i g j r.byTenant) [byte (slotNumber j)]

/-- ACTIVATE (R51). -/
def execActivate (s : State) : Host.Outcome State Fault Refusal := .next (s.serve .activate activate)

/-! ### RENEW (R56) -/

/-- The states that RENEW admits. -/
def GrantState.renewable : GrantState → Bool
  | .reserved => true
  | .tuning => true
  | .live => true
  | .impaired => true
  | .moving => true
  | .draining => false
  | .quiet => false

/-- RENEW. -/
def renew : Handler := fun r s =>
  ownHandle r s (r.word 2 != 0) fun i g =>
    if g.state.renewable = false then refuse s .badState
    else if g.hold = .pinned then refuse s .pinned
    else answerDone (s.modGrant i fun g => { g with lease := some (r.word 2), leaseMs := 0 })

/-- RENEW (R56). -/
def execRenew (s : State) : Host.Outcome State Fault Refusal := .next (s.serve .renew renew)

/-! ### WITHDRAW and REVOKE (R58 to R61) -/

/-- The answer to a WITHDRAW or REVOKE that passed: ACCEPTED when the grant is DRAINING after it, else DONE, with the
state after the event (R58, R61). -/
def State.endedReply (s : State) (i : Fin 64) : State × Reply :=
  let code := (s.entry i).stateCode
  if code = GrantState.draining.code then answerAccepted s [byte code] else answerDone s [byte code]

/-- A grant that is DRAINING or QUIET has been given up already (R58). -/
def GrantState.givenUp : GrantState → Bool
  | .draining => true
  | .quiet => true
  | .reserved => false
  | .tuning => false
  | .live => false
  | .impaired => false
  | .moving => false

/-- WITHDRAW. -/
def withdraw : Handler := fun r s =>
  ownHandle r s true fun i g =>
    if g.state.givenUp then refuse s .badState
    else if g.hold = .pinned then refuse s .pinned
    else if g.hold = .held ∧ r.port = .tenant then refuse s .held
    else (s.endGrant i .withdrawn r.byTenant false).endedReply i

/-- WITHDRAW (R58). -/
def execWithdraw (s : State) : Host.Outcome State Fault Refusal := .next (s.serve .withdraw withdraw)

/-- The states that REVOKE refuses: QUIET, and without cut DRAINING (R60, R61). -/
def revokeRefused (cut : Bool) (x : GrantState) : Bool := x == .quiet || (x == .draining && !cut)

/-- REVOKE. -/
def revoke : Handler := fun r s =>
  match yesNoOfCode (r.byte 2) with
  | none => refuse s .badParam
  | some cut =>
    managementHandle r s true fun i g =>
      if revokeRefused cut g.state then refuse s .badState
      else if g.hold = .pinned then refuse s .pinned
      else (s.endGrant i .revoked false cut).endedReply i

/-- REVOKE (R59). -/
def execRevoke (s : State) : Host.Outcome State Fault Refusal := .next (s.serve .revoke revoke)

/-! ### HOLD, UNHOLD and PIN (R78 to R80) -/

/-- The two-byte payload: the hold class before and after (R78). -/
def holdBytes (before after : HoldClass) : List Byte := [byte before.code, byte after.code]

/-- HOLD. -/
def hold : Handler := fun r s =>
  managementHandle r s true fun i g =>
    if g.hold = .pinned then refuse s .pinned
    else answerDone (s.modGrant i fun g => { g with hold := .held }) (holdBytes g.hold .held)

/-- HOLD (R78). -/
def execHold (s : State) : Host.Outcome State Fault Refusal := .next (s.serve .hold hold)

/-- UNHOLD. -/
def unhold : Handler := fun r s =>
  managementHandle r s true fun i g =>
    if g.hold = .pinned then refuse s .pinned
    else answerDone (s.modGrant i fun g => { g with hold := .opened }) (holdBytes g.hold .opened)

/-- UNHOLD (R79). -/
def execUnhold (s : State) : Host.Outcome State Fault Refusal := .next (s.serve .unhold unhold)

/-- The states in which PIN is taken (R80). -/
def GrantState.pinnable : GrantState → Bool
  | .reserved => true
  | .tuning => true
  | .live => true
  | .impaired => true
  | .moving => false
  | .draining => false
  | .quiet => false

/-- The record of a grant that is pinned: no lease and no hold time (R80). -/
def Grant.pinned (g : Grant) : Grant :=
  { g with hold := .pinned, lease := none, leaseMs := 0, holdTime := none, holdMs := 0 }

/-- PIN. On a grant already PINNED, which has neither lease nor hold time, it changes nothing. -/
def pin : Handler := fun r s =>
  managementHandle r s true fun i g =>
    if g.state.pinnable = false then refuse s .badState
    else if g.hold = .pinned then answerDone s (holdBytes .pinned .pinned)
    else answerDone (s.modGrant i Grant.pinned) (holdBytes g.hold .pinned)

/-- PIN (R80). -/
def execPin (s : State) : Host.Outcome State Fault Refusal := .next (s.serve .pin pin)

/-! ### FREEZE_PLAN (R84, R86) -/

def State.setPlanFrozen (s : State) (frozen : Bool) : State := { s with table := { s.table with planFrozen := frozen } }

/-- FREEZE_PLAN: with set, a running repack is stopped in the same event. -/
def freezePlan : Handler := fun r s =>
  match setOrClear (r.byte 0) (r.byte 1) with
  | none => refuse s .badParam
  | some frozen =>
    managementRequest r s true
      (answerDone (if frozen then (s.setPlanFrozen true).stopRepack else s.setPlanFrozen false)
        [flagByte s.table.planFrozen, flagByte (frozen && s.engine.repack.running)])

/-- FREEZE_PLAN (R84). -/
def execFreezePlan (s : State) : Host.Outcome State Fault Refusal := .next (s.serve .freezePlan freezePlan)

end Sys2Proof.Machine
end

