-- ==== Sys2Proof/Machine/MonitorCommands.lean ====
section
/-! DEFINITION. The meanings of the monitor's requests: SET_WATCH, CLEAR_WATCH, READ_WATCH (R166 to R169), SET_SWEEP and
SWEEP (R170, R171), READ_RESULTS, READ_HITS and CLEAR_HITS (R175). -/

namespace Sys2Proof.Machine

/-- A watch position in a parameter byte, 0 to 31. -/
def positionOf (n : Nat) : Option (Fin 32) := if h : n < 32 then some ⟨n, h⟩ else none

/-! ### SET_WATCH (R166, R167) -/

/-- The target of a SET_WATCH: a handle whose entry exists, or a range that is a span of its band (R1, R163). -/
def watchTarget (r : Req) : Option WatchTarget :=
  match r.byte 1 with
  | 0 => (r.entry 2).map fun i => .grant { entry := i, generation := r.generation 3 }
  | 1 =>
    match bandOfCode (r.byte 4) with
    | none => none
    | some b =>
      if spanInBand b (r.word 5) (r.byte 7) && r.byte 7 ≤ Config.maxWidth then
        some (.cells b (r.word 5) (r.byte 7))
      else none
  | _ => none

/-- The action suits the target (R166). -/
def WatchTarget.suits : WatchTarget → WatchAction → Bool
  | .grant _, a => a != .block
  | .cells _ _ _, a => a == .flag || a == .block

/-- A window watch stands at 0 to 15 with its upper limit above its lower limit (R164, R166). -/
def windowOk (n : Fin 32) (mode : CompareMode) (lower upper : Byte) : Bool :=
  !mode.isWindow || (n.val < 16 && lower < upper)

/-- The watch that a SET_WATCH writes, condition FALSE, when its fields are in range. -/
def writtenWatch (r : Req) (n : Fin 32) : Option Watch := do
  let target ← watchTarget r
  let mode ← compareModeOfCode (r.byte 8)
  let disposition ← dispositionOfCode (r.byte 11)
  let action ← watchActionOfCode (r.byte 12)
  let enabled ← yesNoOfCode (r.byte 13)
  if target.suits action && windowOk n mode (r.params.getD 9 0) (r.params.getD 10 0) then
    pure { target, mode, disposition, action, enabled, condition := false }
  else none

/-- The position is PAIRED, or a window watch would pair a position that holds a watch (R166). -/
def Monitor.pairingRefuses (m : Monitor) (n : Fin 32) (w : Watch) : Bool :=
  m.position n == .paired ||
    (w.mode.isWindow &&
      match m.position (upperPosition n) with
      | .watch _ => true
      | .paired => false
      | .empty => false)

/-- The handle of a GRANT watch is not current (R23, R166); the handle, for the STALE payload. -/
def State.staleTarget (s : State) (w : Watch) : Option Handle :=
  match w.target with
  | .cells _ _ _ => none
  | .grant h => if (s.grantOf h).isNone then some h else none

/-- The watch that stands at a position is removed (R167, R168). -/
def State.emptyPosition (s : State) (n : Fin 32) : State :=
  match s.monitor.position n with
  | .watch w => s.removeWatch n w
  | .paired => s
  | .empty => s

/-- Writes a watch and its limits (R167). -/
def State.writeWatch (s : State) (n : Fin 32) (w : Watch) (lower upper : Byte) : State :=
  let t := (s.setPosition n (.watch w)).setThreshold n lower
  if w.mode.isWindow then (t.setPosition (upperPosition n) .paired).setThreshold (upperPosition n) upper else t

/-- A position holds a watch. -/
def Position.holdsWatch : Position → Bool
  | .watch _ => true
  | .paired => false
  | .empty => false

/-- SET_WATCH. In CONTINUOUS mode with no sweep running a sweep then starts (R171). -/
def setWatch : Handler := fun r s =>
  match positionOf (r.byte 0) with
  | none => refuse s .badParam
  | some n =>
    match writtenWatch r n with
    | none => refuse s .badParam
    | some w =>
      managementRequest r s true
        (if s.monitor.pairingRefuses n w then refuse s .positionPaired
         else
           match s.staleTarget w with
           | some h => refuse s .stale (stalePayload r (s.entry h.entry))
           | none =>
             answerDone
               ((s.emptyPosition n).writeWatch n w (r.params.getD 9 0) (r.params.getD 10 0)).sweepIfContinuous
               [flagByte (s.monitor.position n).holdsWatch])

/-- SET_WATCH (R166). -/
def execSetWatch (s : State) : Host.Outcome State Fault Refusal := .next (s.serve .setWatch setWatch)

/-! ### CLEAR_WATCH and READ_WATCH (R168, R169) -/

/-- CLEAR_WATCH. -/
def clearWatch : Handler := fun r s =>
  match positionOf (r.byte 0) with
  | none => refuse s .badParam
  | some n =>
    managementRequest r s true
      (if s.monitor.position n = .paired then refuse s .positionPaired
       else answerDone (s.emptyPosition n) [flagByte (s.monitor.position n).holdsWatch])

/-- CLEAR_WATCH (R168). -/
def execClearWatch (s : State) : Host.Outcome State Fault Refusal := .next (s.serve .clearWatch clearWatch)

/-- Target kind, handle, band, start and width; the fields of the other kind read 0 (R169). -/
def WatchTarget.bytes : WatchTarget → List Byte
  | .grant h => [0, byte h.entry.val, h.generation, 0, 0, 0, 0]
  | .cells b start width => [1, 0, 0, byte (bandCode b)] ++ be16 start ++ [byte width]

/-- The payload of READ_WATCH. The hit flag belongs to the position and is given in every occupancy. -/
def Monitor.watchPayload (m : Monitor) (n : Fin 32) : List Byte :=
  let hit := flagByte (m.hits.getLsbD n.val)
  match m.position n with
  | .empty => List.replicate 15 0 ++ [hit]
  | .paired =>
    [2, 0, 0, 0, 0] ++ be16 (n.val - 16) ++ [0, 0, m.thresholds[n], 0, 0, 0, 0, 0] ++ [hit]
  | .watch w =>
    [1] ++ w.target.bytes
      ++ [byte w.mode.code, m.thresholds[n], if w.mode.isWindow then m.thresholds[upperPosition n] else 0,
          byte w.disposition.code, byte w.action.code, flagByte w.enabled, flagByte w.condition]
      ++ [hit]

/-- READ_WATCH. -/
def readWatch : Handler := fun r s =>
  match positionOf (r.byte 0) with
  | none => refuse s .badParam
  | some n => managementRequest r s true (answerDone s (s.monitor.watchPayload n))

/-- READ_WATCH (R169). -/
def execReadWatch (s : State) : Host.Outcome State Fault Refusal := .next (s.serve .readWatch readWatch)

/-! ### SET_SWEEP and SWEEP (R170, R171) -/

/-- The settings of a SET_SWEEP, when every field is in range (R170). -/
def sweepSettingsOf (r : Req) : Option SweepSettings := do
  let mode ← sweepModeOfCode (r.byte 0)
  let order ← sweepOrderOfCode (r.byte 3)
  let start ← positionOf (r.byte 4)
  let report ← reportOfCode (r.byte 5)
  if 100 ≤ r.word 1 ∧ r.word 1 ≤ 60000 then pure { mode, period := r.word 1, order, start, report } else none

/-- The period timer under a trigger mode: loaded in PERIODIC, stopped otherwise (R170, R181). -/
def SweepSettings.timer (x : SweepSettings) : Option Nat := if x.mode = .periodic then some x.period else none

/-- SET_SWEEP. -/
def setSweep : Handler := fun r s =>
  match sweepSettingsOf r with
  | none => refuse s .badParam
  | some x =>
    managementRequest r s true
      (answerDone (s.withMonitor fun m => { m with settings := x, periodTimer := x.timer }).sweepIfContinuous)

/-- SET_SWEEP (R170). -/
def execSetSweep (s : State) : Host.Outcome State Fault Refusal := .next (s.serve .setSweep setSweep)

/-- SWEEP: the payload is the half that the sweep writes (log entry 14). -/
def sweep : Handler := fun r s =>
  managementRequest r s true
    (if s.monitor.sweep.isSome then refuse s .sweepBusy
     else answerAccepted s.startSweep [byte s.monitor.fill.code])

/-- SWEEP (R171). -/
def execSweep (s : State) : Host.Outcome State Fault Refusal := .next (s.serve .sweep sweep)

/-! ### Results and hits (R175) -/

def ResultEntry.bytes (x : ResultEntry) : List Byte := [x.reading, flagByte x.valid]

/-- The half that is not the fill half, for positions 0 to 31. -/
def Monitor.resultsPayload (m : Monitor) : List Byte :=
  byte m.fill.other.code :: (m.half m.fill.other).toList.flatMap ResultEntry.bytes

/-- READ_RESULTS. -/
def readResults : Handler := fun r s => managementRequest r s true (answerDone s s.monitor.resultsPayload)

/-- READ_RESULTS (R175). -/
def execReadResults (s : State) : Host.Outcome State Fault Refusal := .next (s.serve .readResults readResults)

/-- The condition of a position; that of an EMPTY or PAIRED position reads 0. -/
def Position.condition : Position → Bool
  | .watch w => w.condition
  | .paired => false
  | .empty => false

/-- The 32 conditions as a set of positions. -/
def Monitor.conditions (m : Monitor) : BitVec 32 :=
  (List.finRange 32).foldr (fun n acc => if (m.position n).condition then acc ||| 1#32 <<< n.val else acc) 0

/-- READ_HITS. -/
def readHits : Handler := fun r s =>
  managementRequest r s true (answerDone s (be32 s.monitor.hits ++ be32 s.monitor.conditions))

/-- READ_HITS (R175). -/
def execReadHits (s : State) : Host.Outcome State Fault Refusal := .next (s.serve .readHits readHits)

/-- The set of positions in the four parameter bytes of CLEAR_HITS. -/
def Req.positions (r : Req) : BitVec 32 := BitVec.ofNat 32 (r.word 0 * 65536 + r.word 2)

/-- CLEAR_HITS. -/
def clearHits : Handler := fun r s =>
  managementRequest r s true
    (answerDone (s.withMonitor fun m => { m with hits := m.hits &&& ~~~r.positions }))

/-- CLEAR_HITS (R175). -/
def execClearHits (s : State) : Host.Outcome State Fault Refusal := .next (s.serve .clearHits clearHits)

end Sys2Proof.Machine
end

