-- ==== Sys2Proof/Machine/MoveCommands.lean ====
section
/-! DEFINITION. The meanings of MOVE (R137 to R141), REPACK (R156), STOP_REPACK (R160) and AUTOMATIC_MOVE (R151). -/

namespace Sys2Proof.Machine

/-! ### MOVE -/

/-- How a move of a carrying grant is made: its kind and the slot of its first target attempt (R138). -/
structure MovePlan where
  kind : MoveKind
  slot : SlotId
  deriving DecidableEq, Repr

/-- Step 9 of MOVE (R88); `target` is the explicit target start, if one is given. -/
def State.moveFrozen (s : State) (g : Grant) (target : Option Nat) : Bool :=
  s.table.planFrozen || s.plan.active.frozenAt g.band g.start ||
    match target with
    | some start => s.plan.active.frozenAt g.band start
    | none => s.allCandidatesFrozen g

/-- The AUTO target of a grant: the lowest legal start over its unfrozen candidate regions (R139). -/
def State.autoTarget (s : State) (g : Grant) : Option Nat := (s.moveSite g).search (s.openCandidates g)

/-- Steps 12 and 13 of MOVE: the target start, or the refusal (R139). -/
def State.moveTarget (s : State) (g : Grant) (target : Option Nat) : Except ResultCode Nat :=
  match target with
  | some start =>
    if s.plan.active.allowsSpan g.band start g.width g.cls = false then .error .region
    else
      match (s.moveSite g).test start with
      | .legal => .ok start
      | p => .error p.refusal
  | none =>
    if (s.openCandidates g).any fun x => g.width ≤ x.size then
      match s.autoTarget g with
      | some start => .ok start
      | none => .error .noSpace
    else .error .region

/-- A hard move, on the grant's own slot. A LIVE or IMPAIRED grant always has one (R21). -/
def hardPlan (g : Grant) : Option MovePlan := g.slot.map fun j => { kind := .hard, slot := j }

/-- The move of kind ANY: seamless when the budget and a slot allow it, else hard (R138). -/
def State.anyPlan (s : State) (g : Grant) : Option MovePlan :=
  match s.seamlessSlot g with
  | some j => some { kind := .seamless, slot := j }
  | none => hardPlan g

/-- Steps 14 and 15 of MOVE, by the kind asked; `none` is ANY (R138). -/
def State.movePlan (s : State) (g : Grant) : Option MoveKind → Except Reply MovePlan
  | some .seamless =>
    match s.overBudget (s.loadWith g.band g.counted) with
    | some payload => .error ⟨.budget, payload⟩
    | none =>
      match s.selectSlot g.band 0 none with
      | none => .error ⟨.noSlot, []⟩
      | some j => .ok { kind := .seamless, slot := j }
  | some .hard =>
    match hardPlan g with
    | none => .error ⟨.noSlot, []⟩
    | some p => .ok p
  | none =>
    match s.anyPlan g with
    | none => .error ⟨.noSlot, []⟩
    | some p => .ok p

/-- The states from which a grant can be moved (R137). -/
def GrantState.movable : GrantState → Bool
  | .reserved => true
  | .live => true
  | .impaired => true
  | .tuning => false
  | .moving => false
  | .draining => false
  | .quiet => false

/-- Steps 6 to 13 of MOVE: the target start, or the refusal. -/
def State.moveChecks (s : State) (r : Req) (g : Grant) (target : Option Nat) : Except ResultCode Nat :=
  if g.state.movable = false then .error .badState
  else if g.hold = .pinned then .error .pinned
  else if g.hold = .held ∧ r.port = .tenant then .error .held
  else if s.moveFrozen g target then .error .frozen
  else s.moveTarget g target

/-- The effect of a MOVE that has passed step 13 (R140, R141). A repack that its recompute auto-starts (R154) may slide
the same grant again in this event, and then sets its news (DESIGN CHOICE, log entry 24). -/
def State.carryOutMove (s : State) (r : Req) (i : Fin 64) (g : Grant) (start : Nat) (kind : Option MoveKind) :
    State × Reply :=
  if g.state = .reserved then
    answerDone ((s.moveReserved i start r.byTenant).refreshFrag g.band)
      (byte GrantState.reserved.code :: 255 :: (be16 start ++ [255]))
  else
    match s.movePlan g kind with
    | .error reply => (s, reply)
    | .ok p =>
      answerAccepted ((s.beginMove i start p.kind .request p.slot r.byTenant).refreshFrag g.band)
        (byte GrantState.moving.code :: byte p.kind.code :: (be16 start ++ [byte (slotNumber p.slot)]))

/-- The target a MOVE names: `some (some start)` for EXPLICIT, `some none` for AUTO, whose start is not examined. -/
def moveAsked (r : Req) : Option (Option Nat) :=
  match placementOfCode (r.byte 2) with
  | none => none
  | some .auto => some none
  | some .explicit => if grantable (r.word 3) then some (some (r.word 3)) else none

/-- MOVE. -/
def move : Handler := fun r s =>
  match moveAsked r, moveKindOfCode (r.byte 5) with
  | some target, some kind =>
    ownHandle r s true fun i g =>
      match s.moveChecks r g target with
      | .error c => refuse s c
      | .ok start => s.carryOutMove r i g start kind
  | _, _ => refuse s .badParam

/-- MOVE (R137). -/
def execMove (s : State) : Host.Outcome State Fault Refusal := .next (s.serve .move move)

/-! ### REPACK and STOP_REPACK -/

/-- REPACK. -/
def repack : Handler := fun r s =>
  match bandOfCode (r.byte 0) with
  | none => refuse s .badParam
  | some b =>
    managementRequest r s true
      (if s.table.planFrozen then refuse s .frozen
       else if s.engine.repack.running then refuse s .repackBusy
       else
         let t := s.startRepack b
         answerAccepted t
           (byte (s.engine.frag.get b) :: flagByte t.engine.repack.running :: be16 t.engine.repack.moves))

/-- REPACK (R156). -/
def execRepack (s : State) : Host.Outcome State Fault Refusal := .next (s.serve .repack repack)

/-- STOP_REPACK. -/
def stopRepack : Handler := fun r s =>
  managementRequest r s true
    (let t := s.stopRepack
     answerDone t (flagByte s.engine.repack.running :: be16 t.engine.repack.moves))

/-- STOP_REPACK (R160). -/
def execStopRepack (s : State) : Host.Outcome State Fault Refusal := .next (s.serve .stopRepack stopRepack)

/-! ### AUTOMATIC_MOVE (R151, R152) -/

/-- An ask that starts nothing and writes no outcome: its grant's span has changed, it is not LIVE or IMPAIRED, PINNED or
fixed, or the tests of R88 forbid the move. -/
def State.askForbidden (s : State) (a : Ask) (g : Grant) : Bool :=
  a.spanChanged || !g.carries || g.hold == .pinned || g.fixed || s.moveFrozen g none

/-- The move engine searches an AUTO target for a grant and starts the move, or writes NO_TARGET (R151). -/
def State.autoMove (s : State) (i : Fin 64) (g : Grant) : State :=
  match s.autoTarget g with
  | none => (s.setOutcome i .noTarget).modGrant i fun g => { g with news := true }
  | some start =>
    match s.anyPlan g with
    | none => s
    | some p => (s.beginMove i start p.kind .auto p.slot false).refreshFrag g.band

/-- The move engine takes the oldest pending ask. -/
def State.takeAsk (s : State) : State :=
  match s.engine.asks with
  | [] => s
  | a :: rest =>
    let t := { s with engine := { s.engine with asks := rest } }
    match t.grantOf a.handle with
    | none => t
    | some g => if t.askForbidden a g then t else t.autoMove a.handle.entry g

/-- AUTOMATIC_MOVE (R151). -/
def execAutomaticMove (s : State) : Host.Outcome State Fault Refusal :=
  .next (if s.ports.resetHeld then s else s.takeAsk)

end Sys2Proof.Machine
end

