-- ==== Sys2Proof/WellFormed.lean ====
section
/-! DEFINITION. The checks on a command as a term: a report or a lock timeout names a slot that exists (R103), and
OTHER_COMMAND_BYTE carries a byte that is none of the four known command bytes (R182). Everything else a command
can carry is well formed by its type; the fields of a request frame are checked by the part itself (R183). -/

namespace Sys2Proof

/-- A band has 16 upstream or 32 downstream slots (R103). -/
def slotNumberOk : Band → Nat → Bool
  | .up, n => n < 16
  | .down, n => n < 32

/-- A command byte that none of the four transactions has (R182). -/
def otherCommand (c : Byte) : Bool := spiCommand c == .other

/-- A command that the outside world or the part itself can give. -/
def Instr.wellFormed : Instr → Bool
  | .otherCommandByte _ c _ => otherCommand c
  | .lockTimeout b n => slotNumberOk b n
  | .locked b n => slotNumberOk b n
  | .failed b n => slotNumberOk b n
  | .lost b n => slotNumberOk b n
  | _ => true

end Sys2Proof
end

