-- ==== Sys2Proof/Machine/PortCommands.lean ====
section
/-! DEFINITION. The meanings of the SPI transactions (R182), of the two answers that carry out no request
(BAD_REQUEST_FRAME, NOT_READY_ANSWER), and of the requests of the ports' own chapter: READ_EVENTS, SET_EVENT_MASK,
READ_NEWS and STATUS (R183 to R189). -/

namespace Sys2Proof.Machine

/-! ### Transactions (R182) -/

/-- A transaction of `n` bytes after the status byte that begins while RESET_N is held low: every byte 0 (R192). -/
def State.silent (s : State) (p : Port) (n : Nat) : State :=
  s.setPort p { s.port p with returned := List.replicate (n + 1) 0 }

/-- A transaction that begins on a port: nothing while another is in progress there (log entry 7), zeros while RESET_N is
held low, else what the transaction does. -/
def State.transaction (s : State) (p : Port) (n : Nat) (run : State) : State :=
  if (s.port p).progress.isSome then s else if s.ports.resetHeld then s.silent p n else run

/-- The start of a transaction: the status byte is captured and returned; the command byte has not arrived. -/
def State.select (s : State) (p : Port) : State :=
  s.setPort p { s.port p with progress := some .selected, returned := [s.statusByte p] }

/-- The port returns `n` bytes, each 0, in a transaction that RESET_N held low has abandoned (R192). -/
def State.silentBytes (s : State) (p : Port) (n : Nat) : State :=
  s.setPort p { s.port p with returned := (s.port p).returned ++ List.replicate n 0 }

/-- What a command byte and the `n` bytes that the port then returns do, in a transaction whose command byte has not yet
arrived (log entry 7). -/
def State.afterSelect (s : State) (p : Port) (n : Nat) (run : State) : State :=
  if s.ports.resetHeld then s.silentBytes p n else if (s.port p).progress = some .selected then run else s

/-- The port returns the bytes after the status byte, and the transaction ends. -/
def State.returns (s : State) (p : Port) (later : List Byte) : State :=
  s.setPort p { s.port p with progress := none, returned := (s.port p).returned ++ later }

/-! ### Write transactions -/

/-- What a write transaction claims when its command byte arrives (R182). -/
def State.claimFor (s : State) (p : Port) (priority : Bool) : Progress :=
  if priority ∧ p = .management then if s.ports.priority.isSome then .nothing else .prioritySlot
  else if (s.port p).requests.length < Config.queueDepth then .queuePlace
  else .nothing

/-- The command byte of a write arrives: the claim is made, whatever the status byte showed (R182). -/
def State.startWrite (s : State) (p : Port) (priority : Bool) : State :=
  s.setPort p { s.port p with progress := some (s.claimFor p priority) }

/-- The bytes received become the frame in the claimed place, or are discarded (R182, R184). -/
def State.storeFrame (s : State) (p : Port) (f : Frame) : Progress → State
  | .selected => s
  | .nothing => s
  | .prioritySlot => { s with ports := { s.ports with priority := some f } }
  | .queuePlace =>
    if (s.port p).requests.length < Config.queueDepth then
      s.setPort p { s.port p with requests := (s.port p).requests ++ [f] }
    else s

/-- The end of a transaction by the release of select. One whose command byte has not arrived ends there and has claimed,
placed and removed nothing (log entry 31). A write that has made its claim leaves the bytes received as its frame; what the
port returned during them is free (log entry 1). -/
def State.endWrite (s : State) (p : Port) (f : Frame) : State :=
  match (s.port p).progress with
  | none => s
  | some .selected => s.returns p []
  | some claim =>
    let t := s.setPort p
      { s.port p with progress := none, returned := (s.port p).returned ++ s.freeBytes f.length }
    (t.spendFree f.length).storeFrame p f claim

/-- Select is released on a port after the bytes `f` of a frame; while RESET_N is held low the port has returned zeros for
them (R182, R192). -/
def State.release (s : State) (p : Port) (f : Frame) : State :=
  if s.ports.resetHeld then s.silentBytes p f.length else s.endWrite p f

/-- A write transaction, whole or in its three parts (log entry 2). -/
def State.write (s : State) (p : Port) (priority : Bool) : WritePart → State
  | .whole f => s.transaction p f.length (((s.select p).startWrite p priority).endWrite p f)
  | .select => s.transaction p 0 (s.select p)
  | .command => s.afterSelect p 0 (s.startWrite p priority)
  | .finish f => s.release p f

/-- WRITE_REQUEST (R182). -/
def execWriteRequest (p : Port) (part : WritePart) (s : State) : Host.Outcome State Fault Refusal :=
  .next (s.write p false part)

/-- WRITE_REQUEST_PRIORITY (R182): the tenant port ignores the indication. -/
def execWriteRequestPriority (p : Port) (part : WritePart) (s : State) : Host.Outcome State Fault Refusal :=
  .next (s.write p true part)

/-! ### The other transactions -/

/-- A transaction that is no write, whole or in its two parts, or ended by the release of select before its command byte (log
entries 2 and 31); `run n` is what its command byte and the `n` bytes after the status byte do. -/
def State.read (s : State) (p : Port) (run : Nat → State → State) : ReadPart → State
  | .whole n => s.transaction p n (run n (s.select p))
  | .select => s.transaction p 0 (s.select p)
  | .rest n => s.afterSelect p n (run n s)
  | .release => s.release p []

/-- The oldest response leaves its queue when the command byte arrives, and is shifted out; an empty queue returns zeros
(R182). Bytes clocked after the end of the frame are free (log entry 1). -/
def State.readOldest (p : Port) (clocked : Nat) (s : State) : State :=
  match (s.port p).responses with
  | [] => s.returns p (List.replicate clocked 0)
  | f :: rest =>
    let t := s.returns p (f.take clocked ++ s.freeBytes (clocked - f.length))
    (t.setPort p { t.port p with responses := rest }).spendFree (clocked - f.length)

/-- READ_RESPONSE (R182). -/
def execReadResponse (p : Port) (part : ReadPart) (s : State) : Host.Outcome State Fault Refusal :=
  .next (s.read p (State.readOldest p) part)

/-- The byte of READ_STATUS: the request count in the high four bits, the response count in the low four (R182). -/
def State.countByte (s : State) (p : Port) : Byte :=
  byte (16 * (s.port p).requests.length + (s.port p).responses.length)

/-- The two counts, as they stand when the command byte arrives (log entry 27). Bytes clocked after their one byte are free
(log entry 1). -/
def State.readCounts (p : Port) (clocked : Nat) (s : State) : State :=
  (s.returns p ((s.countByte p :: s.freeBytes (clocked - 1)).take clocked)).spendFree (clocked - 1)

/-- READ_STATUS (R182). -/
def execReadStatus (p : Port) (part : ReadPart) (s : State) : Host.Outcome State Fault Refusal :=
  .next (s.read p (State.readCounts p) part)

/-- OTHER_COMMAND_BYTE (R182): later bytes read 0. A command byte of another row is not this event (log entry 7). -/
def execOtherCommandByte (p : Port) (command : Byte) (part : ReadPart) (s : State) : Host.Outcome State Fault Refusal :=
  .next (if otherCommand command then s.read p (fun n s => s.returns p (List.replicate n 0)) part else s)

/-! ### Frames that carry out no request (R183, R185) -/

/-- BAD_REQUEST_FRAME (R183). -/
def execBadRequestFrame (s : State) : Host.Outcome State Fault Refusal :=
  .next (s.serve .badRequestFrame fun _ s => refuse s .badRequest)

/-- NOT_READY_ANSWER (R185). -/
def execNotReadyAnswer (s : State) : Host.Outcome State Fault Refusal :=
  .next (s.serve .notReadyAnswer fun _ s => refuse s .notReady)

/-! ### Events and the mask (R186) -/

/-- READ_EVENTS: the summary, and every flag it returned as set cleared. -/
def readEvents : Handler := fun r s =>
  managementRequest r s true
    (answerDone { s with ports := { s.ports with summary := 0 } } (be13 s.ports.summary))

/-- READ_EVENTS (R186). -/
def execReadEvents (s : State) : Host.Outcome State Fault Refusal := .next (s.serve .readEvents readEvents)

/-- SET_EVENT_MASK: bits 13 to 15 set are refused. -/
def setEventMask : Handler := fun r s =>
  managementRequest r s (r.word 0 < 8192)
    (answerDone { s with ports := { s.ports with mask := BitVec.ofNat 13 (r.word 0) } })

/-- SET_EVENT_MASK (R186). -/
def execSetEventMask (s : State) : Host.Outcome State Fault Refusal := .next (s.serve .setEventMask setEventMask)

/-! ### READ_NEWS (R188) -/

/-- The entry holds a grant of the tenant whose news flag is set. -/
def State.hasNews (s : State) (t : Nat) (i : Fin 64) : Bool :=
  match s.grant? i with
  | none => false
  | some g => g.news && (s.entry i).tenant.val == t

/-- Clears the news flags of the entries of a list. -/
def State.clearNews (s : State) : List (Fin 64) → State
  | [] => s
  | i :: rest => (s.modGrant i fun g => { g with news := false }).clearNews rest

/-- READ_NEWS: up to 8 of the tenant's grants with news, in ascending entry order. -/
def readNews : Handler := fun r s =>
  if r.port = .management then refuse s .notPermitted
  else
    enabledTenant r s
      (let all := entryNumbers.filter (s.hasNews r.tenant)
       let page := all.take Config.pageSize
       let items := page.flatMap fun i =>
         [byte i.val, (s.entry i).generation, byte (s.entry i).stateCode, byte (s.entry i).lastOutcome.code]
       answerDone (s.clearNews page) (byte page.length :: flagByte (page.length < all.length) :: items))

/-- READ_NEWS (R188). -/
def execReadNews (s : State) : Host.Outcome State Fault Refusal := .next (s.serve .readNews readNews)

/-! ### STATUS (R189) -/

/-- The twelve bytes of a band. -/
def State.bandStatus (s : State) (b : Band) : List Byte :=
  flagByte (s.plan.settings.reserve.get b < s.idleCount b)
    :: (be16 (s.bandLoad b) ++ be16 (s.budget b) ++ be16 (s.freeCells b) ++ be16 (s.largestRun b)
      ++ [byte (s.engine.frag.get b), byte (s.idleCount b), byte (s.retiredCount b)])

/-- The band of the repack status record; 255 for none (R155). -/
def repackBandCode : Option Band → Nat
  | none => 255
  | some b => bandCode b

/-- The 34 bytes of STATUS. -/
def State.statusPayload (s : State) : List Byte :=
  s.bandStatus .up ++ s.bandStatus .down
    ++ [flagByte s.engine.repack.running, byte (repackBandCode s.engine.repack.band)]
    ++ be16 s.engine.repack.moves
    ++ [byte s.engine.repack.reason.code, flagByte s.monitor.sweep.isSome, byte s.monitor.fill.code,
        s.levels.pilot.applied, flagByte s.levels.pilot.clamped, flagByte s.plan.staged.isSome]

/-- STATUS: steps 1 to 3, from either port. -/
def status : Handler := fun r s => enabledTenant r s (answerDone s s.statusPayload)

/-- STATUS (R189). -/
def execStatus (s : State) : Host.Outcome State Fault Refusal := .next (s.serve .status status)

end Sys2Proof.Machine
end

