-- ==== Sys2Proof/Machine/ProfileCommands.lean ====
section
/-! DEFINITION. The meanings of the profile requests (R93 to R97) and of READ_SLOT (R118). -/

namespace Sys2Proof.Machine

/-! ### WRITE_PROFILE (R93, R94) -/

/-- The values that a WRITE_PROFILE gives, when every field is in range (R93). -/
def writtenProfile (r : Req) : Option (ModOrder × Nat × Nat × ClassSet) :=
  match modOrderOfCode (r.byte 1), classSetOfCode (r.byte 4) with
  | some order, some classes =>
    if (r.byte 2 == 1 || r.byte 2 == 2) && r.byte 3 ≤ 4 && classes != 0 then
      some (order, r.byte 2, r.byte 3, classes)
    else none
  | _, _ => none

/-- WRITE_PROFILE: the record is replaced and settles from 10 ms. -/
def writeProfile : Handler := fun r s =>
  match indexOf (r.byte 0), writtenProfile r with
  | some k, some (order, expansion, edgeGuard, classes) =>
    let p := s.profile k
    managementRequest r s true
      (if p.references ≠ 0 then refuse s .inUse [byte p.references]
       else
         answerDone
           (s.setProfile k
             { state := .settling, order, expansion, edgeGuard, classes, references := p.references,
               settle := some Config.settleTime, settleDue := false })
           [byte p.state.code])
  | _, _ => refuse s .badParam

/-- WRITE_PROFILE (R94). -/
def execWriteProfile (s : State) : Host.Outcome State Fault Refusal := .next (s.serve .writeProfile writeProfile)

/-! ### CLEAR_PROFILE and READ_PROFILE (R96, R97) -/

/-- CLEAR_PROFILE. -/
def clearProfile : Handler := fun r s =>
  match indexOf (r.byte 0) with
  | none => refuse s .badParam
  | some k =>
    let p := s.profile k
    managementRequest r s true
      (if p.references ≠ 0 then refuse s .inUse [byte p.references]
       else answerDone (s.setProfile k Profile.cleared) [byte p.state.code])

/-- CLEAR_PROFILE (R96). -/
def execClearProfile (s : State) : Host.Outcome State Fault Refusal := .next (s.serve .clearProfile clearProfile)

/-- The seven bytes of READ_PROFILE: an UNDEFINED profile's fields read as zero. -/
def Profile.payload (p : Profile) : List Byte :=
  [byte p.state.code]
    ++ (if p.state = .undefined then [0, 0, 0, 0]
        else [byte p.order.code, byte p.expansion, byte p.edgeGuard, byte p.classes.toNat])
    ++ [byte p.references, byte (p.settle.getD 0)]

/-- READ_PROFILE. -/
def readProfile : Handler := fun r s =>
  match indexOf (r.byte 0) with
  | none => refuse s .badParam
  | some k => managementRequest r s true (answerDone s (s.profile k).payload)

/-- READ_PROFILE (R97). -/
def execReadProfile (s : State) : Host.Outcome State Fault Refusal := .next (s.serve .readProfile readProfile)

/-! ### READ_SLOT (R118) -/

/-- Caller, attempt number and lock timeout: 255, 0, 0 with no attempt. -/
def SlotState.attemptBytes : SlotState → List Byte
  | .tuning a => [byte a.caller.code, if a.second then 2 else 1, byte a.timeout]
  | .idle => [255, 0, 0]
  | .carrying => [255, 0, 0]
  | .ramping => [255, 0, 0]
  | .retired => [255, 0, 0]

/-- The holder's handle; 255 and 255 when there is none. -/
def holderBytes : Option Handle → List Byte
  | none => [255, 255]
  | some h => [byte h.entry.val, h.generation]

/-- The eight bytes of READ_SLOT. -/
def Slot.payload (x : Slot) : List Byte :=
  [byte x.state.code, byte x.fails] ++ holderBytes x.holder ++ x.state.attemptBytes ++ [0]

/-- READ_SLOT. -/
def readSlot : Handler := fun r s =>
  match (bandOfCode (r.byte 0)).bind (slotOf · (r.byte 1)) with
  | none => refuse s .badParam
  | some j => managementRequest r s true (answerDone s (s.slot j).payload)

/-- READ_SLOT (R118). -/
def execReadSlot (s : State) : Host.Outcome State Fault Refusal := .next (s.serve .readSlot readSlot)

end Sys2Proof.Machine
end

