-- ==== Sys2Proof/Machine/Restart.lean ====
section
/-! DEFINITION. The meaning of RESTART: the warm restart of every block in one event (R8, R45, R75, R102, R119, R136,
R153, R161, R162, R181, R190, R191). Log entry 16 gives the order of its parts. -/

namespace Sys2Proof.Machine

/-! ### The move engine (R161, R162) -/

/-- A running repack is stopped; its move in flight goes with its grant. The REPACK_END raised there is cleared with
the summary by the same restart. -/
def RepackRecord.restarted (r : RepackRecord) : RepackRecord :=
  if r.running then { r with running := false, reason := .stopped } else r

/-- The repack is stopped and every pending ask is dropped (R151, R161). -/
def State.restartEngine (s : State) : State :=
  { s with engine := { s.engine with repack := s.engine.repack.restarted, asks := [] } }

/-! ### The grant table and the slot pool (R45, R75, R119) -/

/-- One entry at a warm restart: a grant that is not PINNED is freed with its slots halted; a PINNED one loses its news
flag only. -/
def State.restartEntry (s : State) (i : Fin 64) : State :=
  match s.grant? i with
  | none => s
  | some g =>
    if g.hold = .pinned then s.modGrant i fun g => { g with news := false }
    else
      let t := (s.haltPart g.slot).haltPart (g.move.bind (·.second))
      (t.setOutcome i .revoked).freeEntry i

/-- Every entry of a list in turn. -/
def State.restartEntries (s : State) : List (Fin 64) → State
  | [] => s
  | i :: rest => (s.restartEntry i).restartEntries rest

/-! ### The plan store (R8) -/

/-- Every grant that remains lies in a region of a plan that allows its class. -/
def State.planHolds (s : State) (p : Plan) : Bool :=
  entryNumbers.all fun i =>
    match s.grant? i with
    | none => true
    | some g => p.allowsSpan g.band g.start g.width g.cls

/-- The decision on the staged plan. -/
inductive PlanDecision where
  | noStaged
  | applied
  | rejected
  deriving DecidableEq, Repr

def State.decidePlan (s : State) : PlanDecision :=
  match s.plan.staged with
  | none => .noStaged
  | some p => if s.planHolds p then .applied else .rejected

/-- The plan store after its decision; the staged plan is absent in every outcome. -/
def PlanStore.decided (p : PlanStore) : PlanDecision → PlanStore
  | .applied => { p with active := p.staged.getD p.active, staged := none }
  | .rejected => { p with staged := none }
  | .noStaged => { p with staged := none }

/-- The payload byte of the response (R191). -/
def PlanDecision.code : PlanDecision → Nat
  | .noStaged => 0
  | .applied => 1
  | .rejected => 2

/-- The flag raised (R8). -/
def PlanDecision.event : PlanDecision → Event
  | .noStaged => .planApplied
  | .applied => .planApplied
  | .rejected => .planRejected

/-! ### The ingress monitor (R181) -/

/-- A watch at a warm restart: its condition is FALSE, but for an enabled IMPAIR or IMPAIR_AND_MOVE watch that names a
grant that remains. -/
def State.restartWatch (s : State) (w : Watch) : Watch :=
  match w.target with
  | .cells _ _ _ => { w with condition := false }
  | .grant h =>
    if w.enabled && w.action.impairs && (s.grantOf h).isSome then w else { w with condition := false }

/-- The monitor after the restart, before a sweep starts. -/
def State.restartMonitor (s : State) : Monitor :=
  let m := s.monitor.mapWatches s.restartWatch
  { m with
    sweep := none
    inFlight := none
    hits := 0
    halfA := invalidated m.halfA
    halfB := invalidated m.halfB
    fill := .a
    periodTimer := m.settings.timer }

/-! ### The ports (R191) -/

/-- A transaction in progress across a warm restart: a frame still being written is discarded, and one whose command byte
has not arrived goes on against the emptied queues. -/
def Progress.restarted : Progress → Progress
  | .selected => .selected
  | .queuePlace => .nothing
  | .prioritySlot => .nothing
  | .nothing => .nothing

/-- A port at a warm restart: empty queues. -/
def PortState.restarted (x : PortState) : PortState :=
  { x with requests := [], responses := [], progress := x.progress.map Progress.restarted }

/-- The ports: queues and slot empty, the pointer naming management, the summary clear, the mask kept. -/
def Ports.restarted (x : Ports) : Ports :=
  { x with
    management := x.management.restarted
    tenant := x.tenant.restarted
    priority := none
    pointer := .management
    summary := 0 }

/-! ### The restart -/

/-- Both fragmentation levels are set from the spans and the plan that remain; nothing is raised or started (R153). -/
def State.resetFrag (s : State) : State := (s.setFrag .up (s.fragOf .up)).setFrag .down (s.fragOf .down)

/-- The blocks at a warm restart: the move engine, the grant table with the slot pool, the plan store, the level unit,
the fragmentation levels. -/
def State.restartBlocks (s : State) : State :=
  let t := s.restartEngine.restartEntries entryNumbers
  let t := noteLoad s t
  ({ t with plan := t.plan.decided t.decidePlan }).resetFrag

/-- A warm restart with the decision on the plan. -/
def State.warmRestart (s : State) : State × PlanDecision :=
  let decision := (s.restartEngine.restartEntries entryNumbers).decidePlan
  let t := s.restartBlocks
  let t := { t with monitor := t.restartMonitor, ports := t.ports.restarted }
  ((t.raise decision.event).sweepIfContinuous, decision)

/-- RESTART. -/
def restart : Handler := fun r s =>
  managementRequest r s true (answerDone s.warmRestart.1 [byte s.warmRestart.2.code])

/-- RESTART (R190). -/
def execRestart (s : State) : Host.Outcome State Fault Refusal := .next (s.serve .restart restart)

end Sys2Proof.Machine
end

