-- ==== Sys2Proof/Machine/Arrivals.lean ====
section
/-! DEFINITION. The meanings of what arrives from outside beside the ports: reports on the carrier link (R106, R110,
R111, R114), readings on the sense link (R174), pilot samples (R133), and the RESET_N pin (R192). While RESET_N is held
low nothing else has an effect (R105, R192; log entry 15). -/

namespace Sys2Proof.Machine

/-- An event that the part takes while RESET_N is not held low. -/
def State.whileRunning (s : State) (run : State) : State := if s.ports.resetHeld then s else run

/-! ### Reports on the carrier link (R106) -/

/-- An event on the slot that a band and a number name; a slot that does not exist has none (log entry 7). -/
def State.onSlot (s : State) (b : Band) (n : Nat) (run : SlotId → State) : State :=
  match slotOf b n with
  | none => s
  | some j => s.whileRunning (run j)

/-- LOCKED on a slot: the success of the attempt in flight, else ignored. -/
def State.lockedOn (s : State) (j : SlotId) : State :=
  match (s.slot j).state with
  | .tuning a => s.attemptLocks j a
  | .idle => s
  | .carrying => s
  | .ramping => s
  | .retired => s

/-- FAILED on a slot: the failure of the attempt in flight, else ignored. -/
def State.failedOn (s : State) (j : SlotId) : State :=
  match (s.slot j).state with
  | .tuning a => s.attemptFails j a
  | .idle => s
  | .carrying => s
  | .ramping => s
  | .retired => s

/-- LOST on a slot: the failure of the attempt in flight, a loss of lock on a CARRYING slot, else ignored. -/
def State.lostOn (s : State) (j : SlotId) : State :=
  match (s.slot j).state with
  | .tuning a => s.attemptFails j a
  | .carrying => s.lossOfLock j
  | .idle => s
  | .ramping => s
  | .retired => s

/-- LOCKED (R110). -/
def execLocked (b : Band) (n : Nat) (s : State) : Host.Outcome State Fault Refusal := .next (s.onSlot b n s.lockedOn)

/-- FAILED (R111). -/
def execFailed (b : Band) (n : Nat) (s : State) : Host.Outcome State Fault Refusal := .next (s.onSlot b n s.failedOn)

/-- LOST (R111, R114). -/
def execLost (b : Band) (n : Nat) (s : State) : Host.Outcome State Fault Refusal := .next (s.onSlot b n s.lostOn)

/-! ### Readings on the sense link (R174) -/

/-- A reading whose tag matches the measurement in flight ends it; a void one is discarded. The sweep goes on. -/
def State.takeReading (s : State) (tag value : Byte) : State :=
  match s.monitor.inFlight with
  | none => s
  | some x =>
    if x.tag = tag then
      let t := s.withMonitor fun m => { m with inFlight := none }
      (if x.void then t else t.actOn x.position value).continueSweep
    else s

/-- READING (R174). -/
def execReading (tag value : Byte) (s : State) : Host.Outcome State Fault Refusal :=
  .next (s.whileRunning (s.takeReading tag value))

/-! ### Pilot samples (R133) -/

def State.setReading (s : State) (p : Byte) : State :=
  { s with levels := { s.levels with pilot := { s.levels.pilot with reading := p } } }

/-- A pilot reading: the trim that fits, and PILOT_CLAMP when it is below the reading. -/
def State.takePilot (s : State) (p : Byte) : State :=
  let t := (s.setReading p).trackPilot
  t.raiseIf t.levels.pilot.clamped .pilotClamp

/-- PILOT_READING (R133). -/
def execPilotReading (p : Byte) (s : State) : Host.Outcome State Fault Refusal := .next (s.whileRunning (s.takePilot p))

/-! ### RESET_N (R192) -/

/-- A port whose transaction in progress is abandoned. -/
def PortState.abandoned (x : PortState) : PortState := { x with progress := none }

/-- COLD_RESET (R192): RESET_N is held low from here on; the blocks take their cold reset values at its release. -/
def execColdReset (s : State) : Host.Outcome State Fault Refusal :=
  .next
    { s with
      ports :=
        { s.ports with
          resetHeld := true, management := s.ports.management.abandoned, tenant := s.ports.tenant.abandoned } }

/-- The machine at the release of RESET_N: every block at its cold reset values; the queue of commands and the counter
of free values are the model's own and stay. -/
def State.coldStart (s : State) : State := { State.reset with pending := s.pending, freeCount := s.freeCount }

/-- RESET_N_RELEASE (R192): an event only while RESET_N is held low (log entry 7). -/
def execResetNRelease (s : State) : Host.Outcome State Fault Refusal :=
  .next (if s.ports.resetHeld then s.coldStart else s)

end Sys2Proof.Machine
end

