-- ==== Sys2Proof/Machine/Timers.lean ====
section
/-! DEFINITION. The meanings of the timer expiries, and the passing of one millisecond. An expiry command says that its
timer has reached 0; it acts whenever that timer runs (log entries 6, 7). -/

namespace Sys2Proof.Machine

/-! ### Expiries on grants -/

/-- An event on the grant of an entry, while RESET_N is not held low. -/
def State.onGrant (s : State) (i : Fin 64) (run : Grant → State) : State :=
  match s.grant? i with
  | none => s
  | some g => s.whileRunning (run g)

/-- The hold timer runs (R49). -/
def Grant.holdRuns (g : Grant) : Bool := g.state == .reserved && g.holdTime.isSome

/-- HOLD_TIMER_EXPIRY (R50): the reservation lapses. -/
def execHoldTimerExpiry (i : Fin 64) (s : State) : Host.Outcome State Fault Refusal :=
  .next (s.onGrant i fun g => if g.holdRuns then (s.setOutcome i .lapsed).freeByTimer i g else s)

/-- The states in which a lease runs (R53). -/
def GrantState.leaseRuns : GrantState → Bool
  | .tuning => true
  | .live => true
  | .impaired => true
  | .moving => true
  | .reserved => false
  | .draining => false
  | .quiet => false

/-- The lease of the grant runs. -/
def Grant.leaseRuns (g : Grant) : Bool := g.state.leaseRuns && g.lease.isSome

/-- LEASE_EXPIRY (R57). -/
def execLeaseExpiry (i : Fin 64) (s : State) : Host.Outcome State Fault Refusal :=
  .next (s.onGrant i fun g => if g.leaseRuns then (s.endGrant i .expired false false).raise .leaseExpired else s)

/-- DRAIN_TIMER_EXPIRY (R64). -/
def execDrainTimerExpiry (i : Fin 64) (s : State) : Host.Outcome State Fault Refusal :=
  .next (s.onGrant i fun g => if g.state = .draining then s.endDrain i g else s)

/-- QUIET_TIMER_EXPIRY (R66). -/
def execQuietTimerExpiry (i : Fin 64) (s : State) : Host.Outcome State Fault Refusal :=
  .next (s.onGrant i fun g => if g.state = .quiet then s.freeByTimer i g else s)

/-! ### Expiries on slots, profiles and the monitor -/

/-- LOCK_TIMEOUT (R111, R117): as FAILED. -/
def execLockTimeout (b : Band) (n : Nat) (s : State) : Host.Outcome State Fault Refusal :=
  .next (s.onSlot b n s.failedOn)

/-- A profile whose settle timer has run out (R95). -/
def Profile.settled (p : Profile) : Profile := { p with state := .ready, settle := none, settleDue := false }

/-- SETTLE_TIMER_EXPIRY (R95). -/
def execSettleTimerExpiry (k : Fin 8) (s : State) : Host.Outcome State Fault Refusal :=
  .next (s.whileRunning
    (if (s.profile k).state = .settling then s.setProfile k (s.profile k).settled else s))

/-- A period expiry: the timer is reloaded, and a sweep starts or the expiry is skipped (R171). -/
def State.periodElapsed (s : State) : State :=
  match s.monitor.periodTimer with
  | none => s
  | some _ =>
    let t := s.withMonitor fun m => { m with periodTimer := some m.settings.period }
    if s.monitor.sweep.isSome then t.raise .sweepOverrun else t.startSweep

/-- PERIOD_TIMER_EXPIRY (R171). -/
def execPeriodTimerExpiry (s : State) : Host.Outcome State Fault Refusal := .next (s.whileRunning s.periodElapsed)

/-- The sense timeout of the measurement in flight: missed, unless it is void, and the sweep goes on (R173). -/
def State.senseElapsed (s : State) : State :=
  match s.monitor.inFlight with
  | none => s
  | some x =>
    ((s.withMonitor fun m => { m with inFlight := none }).raiseIf (!x.void) .measureMissed).continueSweep

/-- SENSE_TIMEOUT (R173). -/
def execSenseTimeout (s : State) : Host.Outcome State Fault Refusal := .next (s.whileRunning s.senseElapsed)

/-! ### One millisecond (log entries 4, 6) -/

/-- A timer in seconds after one millisecond more, with the milliseconds gone of its second: the last second is kept
until its expiry is taken. -/
def secondsTick (secs gone : Nat) : Nat × Nat :=
  if gone + 1 < Config.msPerSecond then (secs, gone + 1)
  else if 1 < secs then (secs - 1, 0)
  else (secs, Config.msPerSecond)

/-- A grant's lease and hold time after one millisecond. -/
def Grant.tick (g : Grant) : Grant :=
  let g :=
    match g.lease with
    | some n =>
      if g.leaseRuns then { g with lease := some (secondsTick n g.leaseMs).1, leaseMs := (secondsTick n g.leaseMs).2 }
      else g
    | none => g
  let g :=
    match g.holdTime with
    | some n =>
      if g.holdRuns then { g with holdTime := some (secondsTick n g.holdMs).1, holdMs := (secondsTick n g.holdMs).2 }
      else g
    | none => g
  { g with phaseTimer := g.phaseTimer.map (· - 1) }

def Entry.tick (e : Entry) : Entry := { e with grant := e.grant.map Grant.tick }

def Slot.tick (x : Slot) : Slot :=
  match x.state with
  | .tuning a => { x with state := .tuning { a with timeout := a.timeout - 1 } }
  | _ => x

/-- A profile after one millisecond: the last millisecond of its settle time is kept until its expiry is taken (R90). -/
def Profile.tick (p : Profile) : Profile :=
  match p.settle with
  | none => p
  | some n => if 1 < n then { p with settle := some (n - 1) } else { p with settleDue := true }

def Monitor.tick (m : Monitor) : Monitor :=
  { m with
    periodTimer := m.periodTimer.map (· - 1)
    inFlight := m.inFlight.map fun x => { x with timeout := x.timeout - 1 } }

/-- One millisecond passes on every running timer. -/
def State.tick (s : State) : State :=
  { s with
    table := { s.table with entries := Vector.ofFn fun i => (s.entry i).tick }
    pool := { s.pool with slots := Vector.ofFn fun j => (s.slot j).tick }
    profiles := Vector.ofFn fun k => (s.profile k).tick
    monitor := s.monitor.tick }

/-! ### Timers that have run out, in the order in which the idle step takes them (log entry 6) -/

/-- The expiry that is due on the grant of an entry. -/
def State.dueOnGrant (s : State) (i : Fin 64) : Option Instr :=
  match s.grant? i with
  | none => none
  | some g =>
    if g.holdRuns && g.holdMs == Config.msPerSecond then some (.holdTimerExpiry i)
    else if g.leaseRuns && g.leaseMs == Config.msPerSecond then some (.leaseExpiry i)
    else if g.state == .draining && g.phaseTimer == some 0 then some (.drainTimerExpiry i)
    else if g.state == .quiet && g.phaseTimer == some 0 then some (.quietTimerExpiry i)
    else none

/-- The lock timeout that is due on a slot. -/
def State.dueOnSlot (s : State) (j : SlotId) : Option Instr :=
  match (s.slot j).state with
  | .tuning a => if a.timeout = 0 then some (.lockTimeout (slotBand j) (slotNumber j)) else none
  | _ => none

/-- The settle expiry that is due on a profile. -/
def State.dueOnProfile (s : State) (k : Fin 8) : Option Instr :=
  if (s.profile k).state = .settling ∧ (s.profile k).settleDue = true then some (.settleTimerExpiry k) else none

/-- The expiry that is due in the monitor. -/
def Monitor.due (m : Monitor) : Option Instr :=
  if m.periodTimer = some 0 then some .periodTimerExpiry
  else if m.inFlight.any fun x => x.timeout == 0 then some .senseTimeout
  else none

/-- The first expiry that is due: by entry, by slot, by profile, then the monitor's. -/
def State.dueExpiry (s : State) : Option Instr :=
  (entryNumbers.findSome? s.dueOnGrant)
    <|> (slotIds.findSome? s.dueOnSlot)
    <|> ((List.finRange 8).findSome? s.dueOnProfile)
    <|> s.monitor.due

end Sys2Proof.Machine
end

