-- ==== Sys2Proof/Machine/Dispatch.lean ====
section
/-! DEFINITION. The meaning of every command: one arm per row of the table, in the table's order. -/

namespace Sys2Proof.Machine

/-- The command's effect on everything but the queue of waiting commands. -/
def exec (i : Instr) (s : State) : Host.Outcome State Fault Refusal :=
  match i with
  | .writeRequest port part => Sys2Proof.Machine.execWriteRequest port part s
  | .writeRequestPriority port part => Sys2Proof.Machine.execWriteRequestPriority port part s
  | .readResponse port part => Sys2Proof.Machine.execReadResponse port part s
  | .readStatus port part => Sys2Proof.Machine.execReadStatus port part s
  | .otherCommandByte port command part => Sys2Proof.Machine.execOtherCommandByte port command part s
  | .badRequestFrame => Sys2Proof.Machine.execBadRequestFrame s
  | .notReadyAnswer => Sys2Proof.Machine.execNotReadyAnswer s
  | .stageRegion => Sys2Proof.Machine.execStageRegion s
  | .discardStaged => Sys2Proof.Machine.execDiscardStaged s
  | .freezeRegion => Sys2Proof.Machine.execFreezeRegion s
  | .readRegion => Sys2Proof.Machine.execReadRegion s
  | .setGuard => Sys2Proof.Machine.execSetGuard s
  | .setTenant => Sys2Proof.Machine.execSetTenant s
  | .readTenant => Sys2Proof.Machine.execReadTenant s
  | .setPlanSettings => Sys2Proof.Machine.execSetPlanSettings s
  | .readSettings => Sys2Proof.Machine.execReadSettings s
  | .reserve => Sys2Proof.Machine.execReserve s
  | .lookup => Sys2Proof.Machine.execLookup s
  | .find => Sys2Proof.Machine.execFind s
  | .listOwn => Sys2Proof.Machine.execListOwn s
  | .listBand => Sys2Proof.Machine.execListBand s
  | .activate => Sys2Proof.Machine.execActivate s
  | .renew => Sys2Proof.Machine.execRenew s
  | .withdraw => Sys2Proof.Machine.execWithdraw s
  | .revoke => Sys2Proof.Machine.execRevoke s
  | .hold => Sys2Proof.Machine.execHold s
  | .unhold => Sys2Proof.Machine.execUnhold s
  | .pin => Sys2Proof.Machine.execPin s
  | .freezePlan => Sys2Proof.Machine.execFreezePlan s
  | .writeProfile => Sys2Proof.Machine.execWriteProfile s
  | .clearProfile => Sys2Proof.Machine.execClearProfile s
  | .readProfile => Sys2Proof.Machine.execReadProfile s
  | .readSlot => Sys2Proof.Machine.execReadSlot s
  | .setLevel => Sys2Proof.Machine.execSetLevel s
  | .assignGroup => Sys2Proof.Machine.execAssignGroup s
  | .setGroup => Sys2Proof.Machine.execSetGroup s
  | .setBudget => Sys2Proof.Machine.execSetBudget s
  | .readLevels => Sys2Proof.Machine.execReadLevels s
  | .move => Sys2Proof.Machine.execMove s
  | .repack => Sys2Proof.Machine.execRepack s
  | .stopRepack => Sys2Proof.Machine.execStopRepack s
  | .setWatch => Sys2Proof.Machine.execSetWatch s
  | .clearWatch => Sys2Proof.Machine.execClearWatch s
  | .readWatch => Sys2Proof.Machine.execReadWatch s
  | .setSweep => Sys2Proof.Machine.execSetSweep s
  | .sweep => Sys2Proof.Machine.execSweep s
  | .readResults => Sys2Proof.Machine.execReadResults s
  | .readHits => Sys2Proof.Machine.execReadHits s
  | .clearHits => Sys2Proof.Machine.execClearHits s
  | .readEvents => Sys2Proof.Machine.execReadEvents s
  | .setEventMask => Sys2Proof.Machine.execSetEventMask s
  | .readNews => Sys2Proof.Machine.execReadNews s
  | .status => Sys2Proof.Machine.execStatus s
  | .restart => Sys2Proof.Machine.execRestart s
  | .holdTimerExpiry entry => Sys2Proof.Machine.execHoldTimerExpiry entry s
  | .leaseExpiry entry => Sys2Proof.Machine.execLeaseExpiry entry s
  | .drainTimerExpiry entry => Sys2Proof.Machine.execDrainTimerExpiry entry s
  | .quietTimerExpiry entry => Sys2Proof.Machine.execQuietTimerExpiry entry s
  | .lockTimeout band number => Sys2Proof.Machine.execLockTimeout band number s
  | .settleTimerExpiry profile => Sys2Proof.Machine.execSettleTimerExpiry profile s
  | .periodTimerExpiry => Sys2Proof.Machine.execPeriodTimerExpiry s
  | .senseTimeout => Sys2Proof.Machine.execSenseTimeout s
  | .pilotReading value => Sys2Proof.Machine.execPilotReading value s
  | .locked band number => Sys2Proof.Machine.execLocked band number s
  | .failed band number => Sys2Proof.Machine.execFailed band number s
  | .lost band number => Sys2Proof.Machine.execLost band number s
  | .reading tag value => Sys2Proof.Machine.execReading tag value s
  | .automaticMove => Sys2Proof.Machine.execAutomaticMove s
  | .coldReset => Sys2Proof.Machine.execColdReset s
  | .resetNRelease => Sys2Proof.Machine.execResetNRelease s

end Sys2Proof.Machine
end

