-- ==== Sys2Proof/Machine/Idle.lean ====
section
/-! DEFINITION. What the part does of its own accord when no command waits (log entry 5): an expiry that is due, else the
taking of a frame, else the taking of an ask, else one millisecond passes. -/

namespace Sys2Proof.Machine

/-- The event that the part itself brings about next, as a row of the table; none while RESET_N is held low (R192). -/
def State.ownEvent (s : State) : Option Instr :=
  if s.ports.resetHeld then none
  else
    match s.dueExpiry with
    | some c => some c
    | none =>
      match s.nextFrame with
      | some (src, f) => some (s.rowOf src f)
      | none => if s.engine.asks.isEmpty then none else some .automaticMove

/-- The step on an empty queue: the part's own event is put in the queue, or one millisecond passes. -/
def State.idle (s : State) : State :=
  match s.ownEvent with
  | some c => { s with pending := [c] }
  | none => if s.ports.resetHeld then s else s.tick

end Sys2Proof.Machine
end

