-- ==== Sys2Proof/Safety.lean ====
section
/-! DEFINITION. The vocabulary of the statements: what it is for the request unit to take a frame of a request and to
answer it, for a request to name a grant, and the laws that every step keeps (R26, R27, R29, R82, R92, R103, R113, R124,
R176, R184). -/

namespace Sys2Proof.Machine

/-! ### Frames taken and answered -/

/-- After start-up the request unit next takes this frame from this source, and the frame carries a request of this row
in good form (R183, R185). -/
structure Takes (s : State) (src : Source) (f : Frame) (row : Instr) : Prop where
  frame : s.nextFrame = some (src, f)
  ready : s.pool.startUp = false
  form : goodForm src.port f = some row

/-- The state `t` with the response to the frame placed in its port's queue (R183 to R185). -/
def State.answered (s : State) (src : Source) (f : Frame) (t : State) (code : ResultCode) (payload : List Byte) : State :=
  t.place src.port (responseFrame f ⟨code, payload⟩ (s.trailer src))

/-- Carrying out the row at `s` ends in the state `t` with the response placed, and in nothing else. -/
def Does (row : Instr) (s : State) (src : Source) (f : Frame) (t : State) (code : ResultCode) (payload : List Byte) :
    Prop :=
  exec row s = .next (s.answered src f t code payload)

/-- The first two parameters name the grant of an entry by a current handle (R23). -/
structure Names (r : Req) (s : State) (i : Fin 64) (g : Grant) : Prop where
  entry : r.byte 0 = i.val
  generation : r.generation 1 = (s.entry i).generation
  grant : s.grant? i = some g

/-- The sender may act on the grant of an entry: management on every grant, an enabled tenant on its own (R13, R24). -/
def MayAct (r : Req) (s : State) (i : Fin 64) : Prop :=
  r.port = .management ∨ (s.tenantEnabled r.tenant = true ∧ (s.entry i).tenant.val = r.tenant)

/-! ### What is left as it was -/

/-- Every entry but those of a list is as it was. -/
def EntriesKept (s t : State) (but : List (Fin 64)) : Prop := ∀ i, i ∉ but → t.entry i = s.entry i

/-- Every slot but those of a list is as it was, and was sent nothing. -/
def SlotsKept (s t : State) (but : List SlotId) : Prop :=
  ∀ j, j ∉ but → t.slot j = s.slot j ∧ t.pool.sent[j] = s.pool.sent[j]

/-- A slot that was sent one message: its record, and the message after all that went before. -/
def SlotSent (s t : State) (j : SlotId) (x : Slot) (m : CarrierMsg) : Prop :=
  t.slot j = x ∧ t.pool.sent[j] = s.pool.sent[j] ++ [m]

/-- All that stands around the entries, the slots and the messages to them, as it was: the ports but for the summary, the
plan store, the occupancy lists, the grant counts, the plan freeze, the profiles, the group and pilot records and the
budgets, the move engine, the monitor, start-up, the queue of commands and the counter of free values. -/
structure SurroundingsKept (s t : State) : Prop where
  ports : t.ports = { s.ports with summary := t.ports.summary }
  plan : t.plan = s.plan
  occupancy : t.table.occupancy = s.table.occupancy
  counts : t.table.counts = s.table.counts
  frozen : t.table.planFrozen = s.table.planFrozen
  profiles : t.profiles = s.profiles
  levels : t.levels = s.levels
  engine : t.engine = s.engine
  monitor : t.monitor = s.monitor
  startUp : t.pool.startUp = s.pool.startUp
  pending : t.pending = s.pending
  freeCount : t.freeCount = s.freeCount

/-- How `v` differs from `u` when the level unit has become `levels` and each grant has become `ask` of itself: counted
loads follow, and LEVEL goes to each slot in TUNING or CARRYING whose holder's effective level changed (R121, R123,
R128). -/
structure Releveled (u : State) (levels : LevelUnit) (ask : Fin 64 → Grant → Grant) (v : State) : Prop where
  grants : ∀ i g, u.grant? i = some g →
    let g' := ask i g
    v.entry i =
      { u.entry i with
        grant := some
          { g' with
            counted :=
              if levels.effective g' ≠ u.levels.effective g ∧ g'.state.follows = true then
                g'.copies * (g'.width * weight (levels.effective g'))
              else g'.counted } }
  free : ∀ i, u.grant? i = none → v.entry i = u.entry i
  slots : v.pool.slots = u.pool.slots
  told : ∀ (j : SlotId) h g, (u.slot j).holder = some h → u.grantOf h = some g →
    let level := levels.effective (ask h.entry g)
    let listens := (u.slot j).state = .carrying ∨ ∃ a, (u.slot j).state = .tuning a
    (level ≠ u.levels.effective g → listens → v.pool.sent[j] = u.pool.sent[j] ++ [.level level]) ∧
    (level = u.levels.effective g ∨ ¬listens → v.pool.sent[j] = u.pool.sent[j])
  untold : ∀ j : SlotId, (∀ h g, (u.slot j).holder = some h → u.grantOf h ≠ some g) → v.pool.sent[j] = u.pool.sent[j]
  levels : v.levels = levels
  rest : v.ports = u.ports ∧ v.plan = u.plan ∧ v.profiles = u.profiles ∧ v.engine = u.engine ∧ v.monitor = u.monitor ∧
    v.table.occupancy = u.table.occupancy ∧ v.table.counts = u.table.counts

/-! ### Spans changed and moves begun (R26, R140, R141, R149) -/

/-- What becomes of the monitor and of the pending asks when the span of the grant that a handle names has changed: the
conditions of its watches are FALSE, its measurement in flight is void, its asks are marked and start nothing (R149, R152;
the mark: log entry 12). -/
structure SpanHandedOver (u v : State) (h : Handle) : Prop where
  watches : ∀ n w, u.monitor.position n = .watch w →
    v.monitor.position n = .watch (if w.target = .grant h then { w with condition := false } else w)
  others : ∀ n, (∀ w, u.monitor.position n ≠ .watch w) → v.monitor.position n = u.monitor.position n
  inFlight : v.monitor.inFlight =
    u.monitor.inFlight.map fun x => if x.handle = some h then { x with void := true } else x
  monitor : v.monitor = { u.monitor with positions := v.monitor.positions, inFlight := v.monitor.inFlight }
  asks : v.engine =
    { u.engine with asks := u.engine.asks.map fun a => if a.handle = h then { a with spanChanged := true } else a }

/-- How `v` differs from `u` when a RESERVED grant has been moved at once to a start (R140): its record, its item, the
hand-over to the monitor. -/
structure MovedAtOnce (u v : State) (i : Fin 64) (g : Grant) (start : Nat) (news : Bool) : Prop where
  entry : v.entry i =
    { u.entry i with
      lastOutcome := .moved, grant := some { g with start, impairing := 0, news := g.news || news } }
  item : v.occupancy g.band =
    insertItem { handle := u.handleOf i, start, width := g.width } (removeItem i (u.occupancy g.band))
  otherBand : ∀ b, b ≠ g.band → v.occupancy b = u.occupancy b
  span : SpanHandedOver u v (u.handleOf i)
  others : EntriesKept u v [i]
  rest : v.pool = u.pool ∧ v.levels = u.levels ∧ v.plan = u.plan ∧ v.profiles = u.profiles ∧ v.ports = u.ports ∧
    v.table.counts = u.table.counts ∧ v.table.planFrozen = u.table.planFrozen

/-- The state after a move of a carrying grant has started on slot `j`, before the fragmentation level is recomputed. -/
structure MoveStarted (u v : State) (i : Fin 64) (g : Grant) (m : MoveContext) (j : SlotId) (news : Bool) : Prop where
  entry : v.entry i =
    { u.entry i with
      grant := some
        { g with
          state := .moving, move := some m, news := g.news || news,
          counted := (if m.kind = .seamless then 2 else 1) * (g.width * weight (u.levels.effective g)) } }
  slot : SlotSent u v j
    { u.slot j with
      state := .tuning { caller := .moveTarget, second := false, timeout := 20 }, holder := some (u.handleOf i) }
    (.tune g.band m.target g.width (u.profile g.profile).order (u.levels.effective g))
  entries : EntriesKept u v [i]
  slots : SlotsKept u v [j]
  around : SurroundingsKept u v
  rest : v.ports = u.ports ∧ v.levels = u.levels ∧ v.engine = u.engine ∧ v.monitor = u.monitor

/-! ### Laws -/

/-- Every queue holds at most 4 frames (R184). -/
def State.QueuesBounded (s : State) : Prop :=
  ∀ p, (s.port p).requests.length ≤ 4 ∧ (s.port p).responses.length ≤ 4

/-- A slot's fail count is 0 to 3, it is RETIRED exactly at 3, and an IDLE or RETIRED slot has no holder (R103, R104,
R113). -/
structure Slot.Lawful (x : Slot) : Prop where
  bounded : x.fails ≤ 3
  retired : x.state = .retired ↔ x.fails = 3
  free : x.state = .idle ∨ x.state = .retired → x.holder = none

/-- Every slot is lawful. -/
def State.SlotsLawful (s : State) : Prop := ∀ j, (s.slot j).Lawful

/-- A grant has a move context exactly while it is MOVING (R21, R22). -/
def State.MovesLawful (s : State) : Prop := ∀ i g, s.grant? i = some g → (g.state = .moving ↔ g.move.isSome = true)

/-- A PINNED grant is RESERVED, TUNING, LIVE or IMPAIRED and has neither lease nor hold time (R75, R80). -/
def State.PinsLawful (s : State) : Prop :=
  ∀ i g, s.grant? i = some g → g.hold = .pinned →
    g.state.pinnable = true ∧ g.lease = none ∧ g.holdTime = none

/-- What stays fixed of a pinned grant (R82): class, band, span, payload, profile, and that it is PINNED. -/
structure Grant.SameFixture (g g' : Grant) : Prop where
  hold : g'.hold = g.hold
  cls : g'.cls = g.cls
  band : g'.band = g.band
  start : g'.start = g.start
  width : g'.width = g.width
  payload : g'.payload = g.payload
  profile : g'.profile = g.profile

/-- Two held spans share no cell and keep their required gap (R11, R27). -/
def Held.Clear (m : GuardMatrix) (x y : Held) : Prop :=
  sharesCell x.start x.width y.start y.width = false ∧
    requiredGap m x.cls x.edge y ≤ gapBetween x.start x.width y.start y.width

/-- What the grant table and the profile table keep of each other: one item in the band's occupancy list for each grant, in
ascending order of start (R26); held spans apart (R27); the tenants' grant counts (R29); reference counts, and every grant
naming a READY profile (R92); a settle time of 1 to 10 ms in SETTLING and in no other state (R90). -/
structure State.TableLawful (s : State) : Prop where
  items : ∀ b it, it ∈ s.occupancy b ↔
    ∃ g, s.grant? it.handle.entry = some g ∧ g.band = b ∧
      it = { handle := s.handleOf it.handle.entry, start := g.start, width := g.width }
  ordered : ∀ b, (s.occupancy b).Pairwise fun x y => x.start < y.start
  spans : ∀ b, (s.heldSpans b).Pairwise (Held.Clear s.plan.guards)
  widths : ∀ i g, s.grant? i = some g → 1 ≤ g.width
  counts : ∀ k : Fin 15, s.table.counts[k] =
    entryNumbers.countP fun i => (s.grant? i).isSome && decide ((s.entry i).tenant.val = k.val + 1)
  references : ∀ k, (s.profile k).references = entryNumbers.countP fun i => (s.grant? i).any fun g => g.profile == k
  ready : ∀ i g, s.grant? i = some g → (s.profile g.profile).state = .ready
  expansions : ∀ k, (s.profile k).state ≠ .undefined → 1 ≤ (s.profile k).expansion
  settling : ∀ k, (s.profile k).state = .settling ↔ (s.profile k).settle.isSome = true
  settle : ∀ k n, (s.profile k).settle = some n → 1 ≤ n ∧ n ≤ 10

/-- The present records of a plan are good, each with its cells in its band and a class it allows, and no two of one band
overlap (R2, R5). -/
structure Plan.Lawful (p : Plan) : Prop where
  good : ∀ (k : Fin 8) (x : Region), p[k] = some x →
    bandFirst x.band ≤ x.first ∧ x.first ≤ x.last ∧ x.last ≤ bandLast x.band ∧ x.classes ≠ 0
  apart : ∀ (j k : Fin 8) (x y : Region), j ≠ k → p[j] = some x → p[k] = some y → x.band = y.band →
    x.last < y.first ∨ y.last < x.first

/-- What the plan store and the grant table keep of each other: both plans lawful (R2), and every current span and every
target span within one present region of the active plan whose class set holds the grant's class (R3). -/
structure State.RegionsLawful (s : State) : Prop where
  active : s.plan.active.Lawful
  staged : ∀ q, s.plan.staged = some q → Plan.Lawful q
  current : ∀ i g, s.grant? i = some g → s.plan.active.allowsSpan g.band g.start g.width g.cls = true
  target : ∀ i g m, s.grant? i = some g → g.move = some m →
    s.plan.active.allowsSpan g.band m.target g.width g.cls = true

/-- What the level unit keeps: the counted load of a grant in a state whose load follows its level, none in RESERVED and
QUIET (R123); every band's load within its budget (R124); the applied trim at most the last reading, and the clamped flag
set exactly when it is below it (R120, R133). -/
structure State.LoadsLawful (s : State) : Prop where
  follows : ∀ i g, s.grant? i = some g → g.state.follows = true →
    g.counted = g.copies * (g.width * weight (s.levels.effective g))
  silent : ∀ i g, s.grant? i = some g → g.state = .reserved ∨ g.state = .quiet → g.counted = 0
  budget : ∀ b, s.bandLoad b ≤ s.budget b
  applied : s.levels.pilot.applied ≤ s.levels.pilot.reading
  clamped : s.levels.pilot.clamped = true ↔ s.levels.pilot.applied < s.levels.pilot.reading

/-- A position holds an enabled impairing watch on a handle whose condition is TRUE (R176). -/
def State.impairsAt (s : State) (h : Handle) (n : Fin 32) : Bool :=
  match s.monitor.position n with
  | .watch w => w.names h && w.enabled && w.condition && w.action.impairs
  | .paired => false
  | .empty => false

/-- What the ingress monitor and the grant table keep of each other: a grant's impairing count is the number of enabled
TRUE impairing watches on it (R176), 0 when it is LIVE and above 0 when it is IMPAIRED (R47); an enabled watch names a
current grant (R179); a position is PAIRED exactly when the window watch 16 below it stands (R164). -/
structure State.MonitorLawful (s : State) : Prop where
  counts : ∀ i g, s.grant? i = some g → g.impairing = (List.finRange 32).countP (s.impairsAt (s.handleOf i))
  live : ∀ i g, s.grant? i = some g → g.state = .live → g.impairing = 0
  impaired : ∀ i g, s.grant? i = some g → g.state = .impaired → 0 < g.impairing
  current : ∀ n w h, s.monitor.position n = .watch w → w.target = .grant h → w.enabled = true →
    (s.grantOf h).isSome = true
  windows : ∀ n w, s.monitor.position n = .watch w → w.mode.isWindow = true → n.val < 16
  pairs : ∀ n : Fin 32, s.monitor.position n = .paired ↔
    16 ≤ n.val ∧ ∃ w, s.monitor.position (n - 16) = .watch w ∧ w.mode.isWindow = true

end Sys2Proof.Machine
end

