-- ==== Sys2Proof/Certificates/Slice0/Obligations.lean ====
section
/-! DEFINITION. The statements about the model, by chapter of the manual. In a statement about a request, `s` is the state
in which the request unit takes the frame `f` from the source `src`; `s.taken src` is the state in which the request is
checked and carried out (the frame gone from its place, a running repack stopped for a priority frame, R185); and
`Does row s src f t code payload` says that carrying out the row at `s` ends in `t` with the response placed, so that
whatever `t` does not change stays as it was. -/

open Sys2Proof Sys2Proof.Machine

/-! ### The step and resets -/

/-- A step carries out the command at the front of the queue on the state with the rest of the queue. -/
def Obligations.StepRunsFrontCommand : Prop :=
  ∀ (c : Instr) (rest : List Instr) (s : State), s.pending = c :: rest → step s = exec c { s with pending := rest }

/-- The expiry that is due on the grant of an entry: its timer runs and has reached its end. -/
def DueOnGrant (s : State) (i : Fin 64) (c : Instr) : Prop :=
  ∃ g, s.grant? i = some g ∧
    ((g.state = .reserved ∧ g.holdTime.isSome = true ∧ g.holdMs = 1000 ∧ c = .holdTimerExpiry i) ∨
      ((g.state = .tuning ∨ g.state = .live ∨ g.state = .impaired ∨ g.state = .moving) ∧ g.lease.isSome = true ∧
        g.leaseMs = 1000 ∧ c = .leaseExpiry i) ∨
      (g.state = .draining ∧ g.phaseTimer = some 0 ∧ c = .drainTimerExpiry i) ∨
      (g.state = .quiet ∧ g.phaseTimer = some 0 ∧ c = .quietTimerExpiry i))

/-- One millisecond takes one from every running lock timeout, phase timer, settle timer, period timer and sense timeout,
and goes to the second that a running lease or hold timer counts; the last millisecond of its last second makes its expiry
due (DESIGN CHOICE, log entries 4 and 6). -/
def TickCountsEveryTimerDown (s : State) : Prop :=
  (∀ j a, (s.slot j).state = .tuning a → (s.tick.slot j).state = .tuning { a with timeout := a.timeout - 1 }) ∧
  (∀ i g n, s.grant? i = some g → g.phaseTimer = some n →
    ∃ g', s.tick.grant? i = some g' ∧ g'.phaseTimer = some (n - 1) ∧ g'.state = g.state) ∧
  (∀ i g n, s.grant? i = some g → g.lease = some n →
    g.state = .tuning ∨ g.state = .live ∨ g.state = .impaired ∨ g.state = .moving →
    ∃ g', s.tick.grant? i = some g' ∧ g'.state = g.state ∧
      (g.leaseMs < 999 → g'.lease = some n ∧ g'.leaseMs = g.leaseMs + 1) ∧
      (999 ≤ g.leaseMs → 1 < n → g'.lease = some (n - 1) ∧ g'.leaseMs = 0) ∧
      (999 ≤ g.leaseMs → n ≤ 1 → g'.lease = some n ∧ DueOnGrant s.tick i (.leaseExpiry i))) ∧
  (∀ i g n, s.grant? i = some g → g.holdTime = some n → g.state = .reserved →
    ∃ g', s.tick.grant? i = some g' ∧ g'.state = g.state ∧
      (g.holdMs < 999 → g'.holdTime = some n ∧ g'.holdMs = g.holdMs + 1) ∧
      (999 ≤ g.holdMs → 1 < n → g'.holdTime = some (n - 1) ∧ g'.holdMs = 0) ∧
      (999 ≤ g.holdMs → n ≤ 1 → g'.holdTime = some n ∧ DueOnGrant s.tick i (.holdTimerExpiry i))) ∧
  (∀ k n, (s.profile k).settle = some n →
    (1 < n → s.tick.profile k = { s.profile k with settle := some (n - 1) }) ∧
    (n ≤ 1 → s.tick.profile k = { s.profile k with settleDue := true })) ∧
  (∀ n, s.monitor.periodTimer = some n → s.tick.monitor.periodTimer = some (n - 1)) ∧
  (∀ x, s.monitor.inFlight = some x → s.tick.monitor.inFlight = some { x with timeout := x.timeout - 1 }) ∧
  s.tick.ports = s.ports ∧ s.tick.plan = s.plan ∧ s.tick.levels = s.levels ∧ s.tick.engine = s.engine

/-- The lock timeout of the attempt in flight on a slot is due. -/
def DueOnSlot (s : State) (j : SlotId) : Prop := ∃ a, (s.slot j).state = .tuning a ∧ a.timeout = 0

/-- The settle expiry of a profile is due. -/
def DueOnProfile (s : State) (k : Fin 8) : Prop := (s.profile k).state = .settling ∧ (s.profile k).settleDue = true

/-- The part's own next event: the first expiry that is due, by entry, by slot, by profile, then the period timer and the
sense timeout; else the taking of the next frame; else the taking of the oldest ask; none while RESET_N is held low
(DESIGN CHOICE, log entries 5 and 6). -/
def OwnEventInOrder (s : State) : Prop :=
  (s.ports.resetHeld = true → s.ownEvent = none) ∧
  (s.ports.resetHeld = false →
    (∀ i c, DueOnGrant s i c → (∀ k, k < i → ∀ c', ¬DueOnGrant s k c') → s.ownEvent = some c) ∧
    ((∀ i c, ¬DueOnGrant s i c) →
      (∀ j, DueOnSlot s j → (∀ k, k < j → ¬DueOnSlot s k) →
        s.ownEvent = some (.lockTimeout (slotBand j) (slotNumber j))) ∧
      ((∀ j, ¬DueOnSlot s j) →
        (∀ k, DueOnProfile s k → (∀ k', k' < k → ¬DueOnProfile s k') → s.ownEvent = some (.settleTimerExpiry k)) ∧
        ((∀ k, ¬DueOnProfile s k) →
          (s.monitor.periodTimer = some 0 → s.ownEvent = some .periodTimerExpiry) ∧
          (s.monitor.periodTimer ≠ some 0 →
            (∀ x, s.monitor.inFlight = some x → x.timeout = 0 → s.ownEvent = some .senseTimeout) ∧
            ((∀ x, s.monitor.inFlight = some x → x.timeout ≠ 0) →
              (∀ src f, s.nextFrame = some (src, f) →
                s.ownEvent =
                  some (if s.pool.startUp = true then .notReadyAnswer
                    else (goodForm src.port f).getD .badRequestFrame)) ∧
              (s.nextFrame = none → s.engine.asks ≠ [] → s.ownEvent = some .automaticMove) ∧
              (s.nextFrame = none → s.engine.asks = [] → s.ownEvent = none)))))))

/-- On an empty queue the part puts its own next event in the queue, or a millisecond passes on every running
timer (DESIGN CHOICE, log entry 5). -/
def Obligations.EmptyQueueStepActsOrTicks : Prop :=
  ∀ s : State, OwnEventInOrder s ∧ (s.pending = [] →
    (∀ c, s.ownEvent = some c → step s = .next { s with pending := [c] }) ∧
    (s.ownEvent = none → s.ports.resetHeld = false → step s = .next s.tick) ∧
    (s.ports.resetHeld = true → step s = .next s)) ∧ TickCountsEveryTimerDown s

/-- The values that cold reset leaves in the plan store and the grant table. -/
def PlanAndTableAtReset : Prop :=
  State.reset.plan.active[0] =
      some { band := .up, first := 10, last := 407, classes := 0b101#3, frozen := false } ∧
    State.reset.plan.active[1] =
      some { band := .down, first := 516, last := 2435, classes := 0b111#3, frozen := false } ∧
    (∀ k : Fin 8, 2 ≤ k.val → State.reset.plan.active[k] = none) ∧
    State.reset.plan.staged = none ∧
    State.reset.plan.guards.values = [0, 2, 1, 0, 2, 0] ∧
    (∀ k : Fin 15, State.reset.plan.directory[k] = { enabled := false, cls := .data, quota := 8 }) ∧
    State.reset.plan.settings =
      { quietInterval := 1000, holdTime := 30, reserve := { up := 1, down := 1 },
        autoRepack := { up := false, down := false } } ∧
    (∀ i, State.reset.entry i = { generation := 0, tenant := 0, lastOutcome := .none, grant := none }) ∧
    (∀ b, State.reset.occupancy b = []) ∧
    (∀ k : Fin 15, State.reset.table.counts[k] = 0) ∧
    State.reset.table.planFrozen = false

/-- The values that cold reset leaves in the profile table, the slot pool, the level unit and the move engine. (That the
attempt of a start-up test is number 1: log entry 28.) -/
def BlocksAtReset : Prop :=
  State.reset.profile 0 =
      { state := .ready, order := .qam256, expansion := 1, edgeGuard := 0, classes := 0b111#3, references := 0,
        settle := none, settleDue := false } ∧
    (∀ k : Fin 8, k ≠ 0 → (State.reset.profile k).state = .undefined ∧ (State.reset.profile k).references = 0) ∧
    (∀ j, State.reset.slot j =
      { state := .tuning { caller := .test, second := false, timeout := 20 }, fails := 0, holder := none }) ∧
    (∀ j : SlotId, State.reset.pool.sent[j] = [.test]) ∧
    State.reset.pool.startUp = true ∧
    State.reset.levels.g1 = { trim := 255, mode := .ratio } ∧
    State.reset.levels.g2 = { trim := 255, mode := .ratio } ∧
    State.reset.levels.g3 = { trim := 255, mode := .ratio } ∧
    State.reset.levels.pilot = { reading := 255, applied := 255, clamped := false } ∧
    State.reset.budget .up = 1200 ∧ State.reset.budget .down = 6000 ∧
    (∀ b, State.reset.bandLoad b = 0) ∧
    State.reset.engine.repack = { running := false, band := none, moves := 0, reason := .none } ∧
    (∀ b, State.reset.engine.frag.get b = 0) ∧
    State.reset.engine.asks = []

/-- The values that cold reset leaves in the ingress monitor and the ports. -/
def MonitorAndPortsAtReset : Prop :=
  (∀ n : Fin 32, State.reset.monitor.position n = .empty ∧ State.reset.monitor.thresholds[n] = 0) ∧
    State.reset.monitor.hits = 0 ∧
    (∀ n : Fin 32, State.reset.monitor.halfA[n].valid = false ∧ State.reset.monitor.halfB[n].valid = false) ∧
    State.reset.monitor.fill = .a ∧
    State.reset.monitor.settings =
      { mode := .off, period := 1000, order := .sequential, start := 0, report := .none } ∧
    State.reset.monitor.sweep = none ∧ State.reset.monitor.inFlight = none ∧
    State.reset.monitor.periodTimer = none ∧ State.reset.monitor.tagCounter = 0 ∧
    (∀ p, (State.reset.port p).requests = [] ∧ (State.reset.port p).responses = []) ∧
    State.reset.ports.priority = none ∧ State.reset.ports.pointer = .management ∧
    State.reset.ports.summary = 0 ∧ State.reset.ports.mask = 0 ∧
    (∀ p, State.reset.irq p = false)

/-- The values that cold reset leaves in every block. -/
def Obligations.ResetValues : Prop := PlanAndTableAtReset ∧ BlocksAtReset ∧ MonitorAndPortsAtReset

/-- COLD_RESET abandons every transaction in progress and holds the part; RESET_N_RELEASE then gives every block its cold
reset values and sends the start-up TESTs. -/
def ColdResetAndRelease : Prop :=
  (∀ s : State, ∃ t, exec .coldReset s = .next t ∧ t.ports.resetHeld = true ∧
      (∀ p, (t.port p).progress = none) ∧ t.nextFrame = none ∧ t.pending = s.pending) ∧
    (∀ s : State, s.ports.resetHeld = true →
      exec .resetNRelease s = .next { State.reset with pending := s.pending, freeCount := s.freeCount })

/-- The command that begins a transaction of any of the five kinds on a port, its command byte to come (log entry 2). -/
def Begins (p : Port) (c : Instr) : Prop :=
  c = .writeRequest p .select ∨ c = .writeRequestPriority p .select ∨ c = .readResponse p .select ∨
    c = .readStatus p .select ∨ ∃ x, otherCommand x = true ∧ c = .otherCommandByte p x .select

/-- The command that stands for the rest of a read transaction on a port, of `n` bytes after the status byte. -/
def GoesOn (p : Port) (n : Nat) (c : Instr) : Prop :=
  c = .readResponse p (.rest n) ∨ c = .readStatus p (.rest n) ∨
    ∃ x, otherCommand x = true ∧ c = .otherCommandByte p x (.rest n)

/-- The command that stands for the release of select on a port with no byte after what came before (log entries 2 and
31). -/
def Releases (p : Port) (c : Instr) : Prop :=
  c = .writeRequest p (.finish []) ∨ c = .writeRequestPriority p (.finish []) ∨ c = .readResponse p .release ∨
    c = .readStatus p .release ∨ ∃ x, otherCommand x = true ∧ c = .otherCommandByte p x .release

/-- While RESET_N is held low a transaction returns 0 for every byte, the status byte included, and changes no queue, be it
whole or in its parts, begun before or while RESET_N is held low. -/
def HeldResetReturnsZeros : Prop :=
  ∀ (s : State) (p : Port), s.ports.resetHeld = true → (s.port p).progress = none →
    let zeros := fun n : Nat => s.setPort p { s.port p with returned := List.replicate (n + 1) 0 }
    let more := fun n : Nat => s.setPort p { s.port p with returned := (s.port p).returned ++ List.replicate n 0 }
    (∀ n, exec (.readResponse p (.whole n)) s = .next (zeros n)) ∧
    (∀ n, exec (.readStatus p (.whole n)) s = .next (zeros n)) ∧
    (∀ c n, otherCommand c = true → exec (.otherCommandByte p c (.whole n)) s = .next (zeros n)) ∧
    (∀ f, exec (.writeRequest p (.whole f)) s = .next (zeros f.length)) ∧
    (∀ f, exec (.writeRequestPriority p (.whole f)) s = .next (zeros f.length)) ∧
    (∀ c, Begins p c → exec c s = .next (zeros 0)) ∧ (∀ n c, GoesOn p n c → exec c s = .next (more n)) ∧
    (∀ c, Releases p c → exec c s = .next s) ∧
    exec (.writeRequest p .command) s = .next s ∧ exec (.writeRequestPriority p .command) s = .next s ∧
    (∀ f, exec (.writeRequest p (.finish f)) s = .next (more f.length)) ∧
    (∀ f, exec (.writeRequestPriority p (.finish f)) s = .next (more f.length))

/-- COLD_RESET, the time RESET_N is held low, and RESET_N_RELEASE. -/
def Obligations.ColdResetHoldsAndReleases : Prop := ColdResetAndRelease ∧ HeldResetReturnsZeros

/-! ### Transactions (R182, R184) -/

/-- A WRITE_REQUEST adds its bytes to the request queue as one frame, or is discarded when the queue holds 4; so does a
priority write on the tenant port. The port returns the status byte of the start, then bytes that are free (log entry 1), and
nothing else changes. -/
def WriteJoinsQueue : Prop :=
  ∀ (s : State) (p : Port) (f : Frame) (c : Instr),
    s.ports.resetHeld = false → (s.port p).progress = none →
    (c = .writeRequest p (.whole f) ∨ (c = .writeRequestPriority p (.whole f) ∧ p = .tenant)) →
    ∃ later : List Byte, later.length = f.length ∧
      exec c s = .next ((s.setPort p
        { s.port p with
          requests := if (s.port p).requests.length < 4 then (s.port p).requests ++ [f] else (s.port p).requests
          returned := s.statusByte p :: later }).spendFree f.length)

/-- A priority write on the management port fills the priority slot, or is discarded when the slot is occupied; the
request queue is not touched. -/
def PriorityWriteFillsSlot : Prop :=
  ∀ (s : State) (f : Frame), s.ports.resetHeld = false → s.ports.management.progress = none →
    ∃ t, exec (.writeRequestPriority .management (.whole f)) s = .next t ∧
      t.ports.priority = (if s.ports.priority.isSome then s.ports.priority else some f) ∧
      t.ports.management.requests = s.ports.management.requests ∧
      t.ports.management.responses = s.ports.management.responses ∧
      t.ports.tenant = s.ports.tenant ∧ t.ports.summary = s.ports.summary ∧ t.ports.pointer = s.ports.pointer ∧
      t.plan = s.plan ∧ t.table = s.table ∧ t.profiles = s.profiles ∧ t.pool = s.pool ∧ t.levels = s.levels ∧
      t.engine = s.engine ∧ t.monitor = s.monitor

/-- A write transaction in three parts with nothing between them is the whole transaction (log entry 2). -/
def WriteInThreeParts : Prop :=
  ∀ (s : State) (p : Port) (f : Frame), s.ports.resetHeld = false → (s.port p).progress = none →
    (∃ t v, exec (.writeRequest p .select) s = .next t ∧ exec (.writeRequest p .command) t = .next v ∧
      exec (.writeRequest p (.finish f)) v = exec (.writeRequest p (.whole f)) s) ∧
    (∃ t v, exec (.writeRequestPriority p .select) s = .next t ∧ exec (.writeRequestPriority p .command) t = .next v ∧
      exec (.writeRequestPriority p (.finish f)) v = exec (.writeRequestPriority p (.whole f)) s)

/-- What each part of a transaction does, whatever has come between it and the part before: the start captures the status
byte; the command byte of a write claims what is free then, also after a status byte that showed a full queue; the end
stores the frame in the claimed place, or discards it. The bytes returned meanwhile are free (log entry 1). -/
def WritePartsAct : Prop :=
  ∀ (s : State) (p : Port), s.ports.resetHeld = false →
    let claims := fun x : Progress => s.setPort p { s.port p with progress := some x }
    let place : Progress := if (s.port p).requests.length < 4 then .queuePlace else .nothing
    (∀ c, (s.port p).progress = none → Begins p c →
      exec c s = .next (s.setPort p { s.port p with progress := some .selected, returned := [s.statusByte p] })) ∧
    ((s.port p).progress = some .selected →
      exec (.writeRequest p .command) s = .next (claims place) ∧
      (p = .tenant → exec (.writeRequestPriority p .command) s = .next (claims place)) ∧
      (p = .management →
        exec (.writeRequestPriority p .command) s =
          .next (claims (if s.ports.priority = none then .prioritySlot else .nothing)))) ∧
    (∀ (f : Frame) (c : Instr), c = .writeRequest p (.finish f) ∨ c = .writeRequestPriority p (.finish f) →
      ∃ later : List Byte, later.length = f.length ∧
        let ended : PortState := { s.port p with progress := none, returned := (s.port p).returned ++ later }
        ((s.port p).progress = some .queuePlace → (s.port p).requests.length < 4 →
          exec c s = .next ((s.setPort p { ended with requests := (s.port p).requests ++ [f] }).spendFree f.length)) ∧
        ((s.port p).progress = some .prioritySlot →
          exec c s = .next
            ({ s.setPort p ended with ports := { (s.setPort p ended).ports with priority := some f } }.spendFree
              f.length)) ∧
        ((s.port p).progress = some .nothing → exec c s = .next ((s.setPort p ended).spendFree f.length)))

/-- A transaction of any kind ends when select is released: before its command byte it has claimed, placed and removed
nothing, and the port is free for the next one (log entry 31; bytes given with that end are no frame: log entry 7); a write
that has made its claim gets the empty frame. Without a transaction in progress nothing changes. -/
def ReleaseEndsTransaction : Prop :=
  ∀ (s : State) (p : Port), s.ports.resetHeld = false →
    let ended := s.setPort p { s.port p with progress := none }
    (∀ c, Releases p c →
      ((s.port p).progress = none → exec c s = .next s) ∧
      ((s.port p).progress = some .selected → exec c s = .next ended) ∧
      exec c s = exec (.writeRequest p (.finish [])) s) ∧
    ((s.port p).progress = some .selected → ∀ f : Frame,
      exec (.writeRequest p (.finish f)) s = .next ended ∧ exec (.writeRequestPriority p (.finish f)) s = .next ended)

/-- Write transactions: what a frame joins, what it fills, the parts of one, and the release of select (the parts: log entry
2; a release before the command byte: log entry 31; the bytes returned while the frame is received: log entry 1). -/
def Obligations.WriteTransactions : Prop :=
  WriteJoinsQueue ∧ PriorityWriteFillsSlot ∧ WriteInThreeParts ∧ WritePartsAct ∧ ReleaseEndsTransaction

/-- READ_RESPONSE removes the oldest response and shifts it out, as far as it is clocked; on an empty queue every byte
after the status byte is 0. In two parts, the removal falls at the command byte, whatever the status byte showed (the parts:
log entry 2). Bytes clocked after the end of the frame are free (log entry 1). -/
def Obligations.ReadResponseShiftsOldestOut : Prop :=
  ∀ (s : State) (p : Port) (n : Nat), s.ports.resetHeld = false →
    (∀ f rest, (s.port p).responses = f :: rest →
      ∃ later : List Byte, later.length = n - f.length ∧
        ((s.port p).progress = none →
          exec (.readResponse p (.whole n)) s = .next ((s.setPort p
            { s.port p with responses := rest, returned := s.statusByte p :: (f.take n ++ later) }).spendFree
              (n - f.length))) ∧
        ((s.port p).progress = some .selected →
          exec (.readResponse p (.rest n)) s = .next ((s.setPort p
            { s.port p with
              responses := rest, progress := none
              returned := (s.port p).returned ++ (f.take n ++ later) }).spendFree (n - f.length)))) ∧
    ((s.port p).responses = [] →
      ((s.port p).progress = none →
        exec (.readResponse p (.whole n)) s = .next (s.setPort p
          { s.port p with returned := s.statusByte p :: List.replicate n 0 })) ∧
      ((s.port p).progress = some .selected →
        exec (.readResponse p (.rest n)) s = .next (s.setPort p
          { s.port p with progress := none, returned := (s.port p).returned ++ List.replicate n 0 }))) ∧
    ((s.port p).progress = none →
      ∃ t, exec (.readResponse p .select) s = .next t ∧
        exec (.readResponse p (.rest n)) t = exec (.readResponse p (.whole n)) s)

/-- READ_STATUS returns the request count in the high four bits and the response count in the low four; any other
command byte ends the transaction after the status byte. Bytes clocked after the one of READ_STATUS are free (log entry
1). -/
def ReadStatusReturns : Prop :=
  ∀ (s : State) (p : Port) (n : Nat), s.ports.resetHeld = false → (s.port p).progress = none →
    exec (.readStatus p (.whole 0)) s = .next (s.setPort p { s.port p with returned := [s.statusByte p] }) ∧
    (∃ later : List Byte, later.length = n ∧
      exec (.readStatus p (.whole (n + 1))) s = .next ((s.setPort p
        { s.port p with
          returned := s.statusByte p
            :: BitVec.ofNat 8 (16 * (s.port p).requests.length + (s.port p).responses.length) :: later }).spendFree
              n)) ∧
    (∀ c, otherCommand c = true →
      exec (.otherCommandByte p c (.whole n)) s = .next (s.setPort p
        { s.port p with returned := s.statusByte p :: List.replicate n 0 }))

/-- The same two transactions in two parts: what their command byte does, whatever has come since the start (the counts as
they stand then: log entry 27), and that the parts with nothing between them are the whole (log entry 2). -/
def ReadStatusInParts : Prop :=
  ∀ (s : State) (p : Port) (n : Nat), s.ports.resetHeld = false →
    ((s.port p).progress = some .selected →
      (∃ later : List Byte, later.length = n ∧
        exec (.readStatus p (.rest (n + 1))) s = .next ((s.setPort p
          { s.port p with
            progress := none
            returned := (s.port p).returned ++
              BitVec.ofNat 8 (16 * (s.port p).requests.length + (s.port p).responses.length) :: later }).spendFree
                n)) ∧
      (∀ c, otherCommand c = true →
        exec (.otherCommandByte p c (.rest n)) s = .next (s.setPort p
          { s.port p with progress := none, returned := (s.port p).returned ++ List.replicate n 0 }))) ∧
    ((s.port p).progress = none →
      (∃ t, exec (.readStatus p .select) s = .next t ∧
        exec (.readStatus p (.rest n)) t = exec (.readStatus p (.whole n)) s) ∧
      (∀ c, otherCommand c = true →
        ∃ t, exec (.otherCommandByte p c .select) s = .next t ∧
          exec (.otherCommandByte p c (.rest n)) t = exec (.otherCommandByte p c (.whole n)) s))

/-- The bits of the link status byte. -/
def StatusByteBits : Prop :=
  ∀ (s : State) (p : Port),
    (s.statusByte p).getLsbD 0 = !s.pool.startUp ∧
    (s.statusByte p).getLsbD 1 = decide ((s.port p).requests.length = 4) ∧
    (s.statusByte p).getLsbD 2 = !(s.port p).responses.isEmpty ∧
    (s.statusByte p).getLsbD 3 = (decide (p = .management) && s.ports.priority.isSome) ∧
    (s.statusByte p).getLsbD 4 = s.irq p ∧
    (∀ k, 5 ≤ k → (s.statusByte p).getLsbD k = false)

/-- When each IRQ line is asserted (R187). -/
def IrqLines : Prop :=
  ∀ s : State,
    (s.irq .management = true ↔
      s.ports.management.responses ≠ [] ∨ ∃ e : Event, s.flagged e = true ∧ s.ports.mask.getLsbD e.bit = false) ∧
    (s.irq .tenant = true ↔
      s.ports.tenant.responses ≠ [] ∨
        ∃ i g, s.grant? i = some g ∧ g.news = true ∧ s.tenantEnabled (s.entry i).tenant.val = true)

/-- The command bytes (R182): 1 is WRITE_REQUEST, 129 the same with priority indication, 2 READ_RESPONSE, 3 READ_STATUS, and
any other byte none of these; of a whole transaction with the bytes sent after it, and of the command byte of one that has
started (the parts: log entry 2). -/
def CommandBytes : Prop :=
  ∀ (p : Port) (later : List Byte) (n : Nat),
    let whole := Instr.ofTransaction p
    let part := Instr.ofCommandByte p
    whole 1 later = .writeRequest p (.whole later) ∧ whole 129 later = .writeRequestPriority p (.whole later) ∧
    whole 2 later = .readResponse p (.whole later.length) ∧ whole 3 later = .readStatus p (.whole later.length) ∧
    part 1 n = .writeRequest p .command ∧ part 129 n = .writeRequestPriority p .command ∧
    part 2 n = .readResponse p (.rest n) ∧ part 3 n = .readStatus p (.rest n) ∧
    ∀ c : Byte,
      (otherCommand c = true ↔ c ≠ 1 ∧ c ≠ 129 ∧ c ≠ 2 ∧ c ≠ 3) ∧
      (otherCommand c = true →
        whole c later = .otherCommandByte p c (.whole later.length) ∧ part c n = .otherCommandByte p c (.rest n))

/-- READ_STATUS, any other command byte, the link status byte that every transaction begins with, the IRQ lines, and the
command bytes. -/
def Obligations.StatusTransactions : Prop :=
  ReadStatusReturns ∧ StatusByteBits ∧ IrqLines ∧ ReadStatusInParts ∧ CommandBytes

/-! ### The request unit (R183 to R185) -/

/-- A port from which the request unit may take a frame: its request queue holds a frame and its response queue has a
free place. -/
def Eligible (s : State) (p : Port) : Prop := (s.port p).requests ≠ [] ∧ (s.port p).responses.length < 4

/-- A frame taken from a request queue leaves it and the pointer names the other port; one taken from the priority slot
empties it and leaves the pointer. -/
def TakenFrameLeavesItsPlace (s : State) : Prop :=
  (∀ p, ((s.removeFrame (.queue p)).port p).requests = (s.port p).requests.tail ∧
    (s.removeFrame (.queue p)).port (otherPort p) = s.port (otherPort p) ∧
    ((s.removeFrame (.queue p)).port p).responses = (s.port p).responses ∧
    (s.removeFrame (.queue p)).ports.pointer = otherPort p) ∧
  (s.removeFrame .priority).ports.priority = none ∧
  (s.removeFrame .priority).ports.pointer = s.ports.pointer ∧
  (∀ p, (s.removeFrame .priority).port p = s.port p)

/-- Which frame the request unit takes: the priority slot's; else the eligible port's oldest, the pointer deciding between
two eligible ports; else none. The frame taken leaves its place. -/
def Obligations.RequestUnitChoosesFrame : Prop :=
  ∀ s : State, TakenFrameLeavesItsPlace s ∧ (s.ports.resetHeld = false →
    (∀ f, s.ports.priority = some f → s.ports.management.responses.length < 4 →
      s.nextFrame = some (.priority, f)) ∧
    (s.ports.priority = none ∨ 4 ≤ s.ports.management.responses.length →
      (∀ f, Eligible s .management → Eligible s .tenant → (s.port s.ports.pointer).requests.head? = some f →
        s.nextFrame = some (.queue s.ports.pointer, f)) ∧
      (∀ p f, Eligible s p → ¬Eligible s (otherPort p) → (s.port p).requests.head? = some f →
        s.nextFrame = some (.queue p, f)) ∧
      (¬Eligible s .management → ¬Eligible s .tenant → s.nextFrame = none)))

/-- The request index (R183): the code of each request, its row, and its length in parameter bytes. -/
def requestTable : List (Nat × Instr × Nat) :=
  [(1, .stageRegion, 9), (2, .discardStaged, 0), (3, .freezeRegion, 3), (4, .readRegion, 2), (5, .setGuard, 6),
    (6, .setTenant, 4), (7, .readTenant, 1), (8, .setPlanSettings, 8), (9, .readSettings, 0), (16, .reserve, 14),
    (17, .lookup, 2), (18, .find, 3), (19, .listOwn, 1), (20, .listBand, 3), (24, .activate, 2), (25, .renew, 4),
    (26, .withdraw, 2), (27, .revoke, 3), (32, .hold, 2), (33, .unhold, 2), (34, .pin, 2), (35, .freezePlan, 2),
    (40, .writeProfile, 5), (41, .clearProfile, 1), (42, .readProfile, 1), (48, .readSlot, 2), (56, .setLevel, 3),
    (57, .assignGroup, 3), (58, .setGroup, 3), (59, .setBudget, 3), (60, .readLevels, 0), (64, .move, 6),
    (65, .repack, 1), (66, .stopRepack, 0), (72, .setWatch, 14), (73, .clearWatch, 1), (74, .readWatch, 1),
    (75, .setSweep, 6), (76, .sweep, 0), (77, .readResults, 0), (78, .readHits, 0), (79, .clearHits, 4),
    (88, .readEvents, 0), (89, .setEventMask, 2), (90, .readNews, 0), (91, .status, 0), (92, .restart, 0)]

/-- The frames that are refused BAD_REQUEST, and the row of any other frame: that of its code in the request index. -/
def BadFrames : Prop :=
  ∀ (p : Port) (f : Frame),
    let code := (headerByte f 0).toNat
    (goodForm p f = none ↔
      (f.length < 4 ∨ (∀ row n, (code, row, n) ∉ requestTable) ∨
        (∃ row n, (code, row, n) ∈ requestTable ∧ ((headerByte f 3).toNat ≠ n ∨ f.length < 4 + n)) ∨
        (p = .management ∧ headerByte f 2 ≠ 0) ∨
        (p = .tenant ∧ (headerByte f 2 = 0 ∨ 15 < (headerByte f 2).toNat)))) ∧
    (∀ row, goodForm p f = some row → ∃ n, (code, row, n) ∈ requestTable)

/-- How a frame is read: its header, a missing byte counting as 0, and its parameters as far as the stated length; fields of
two bytes with the most significant byte first (R183). -/
def FramesRead : Prop :=
  ∀ (p : Port) (f : Frame),
    (∀ k, headerByte f k = f.getD k 0) ∧
    requestOf p f =
      { port := p, tenant := (headerByte f 2).toNat, params := (f.drop 4).take (headerByte f 3).toNat } ∧
    (∀ (r : Req) (k : Nat),
      r.byte k = (r.params.getD k 0).toNat ∧ r.word k = 256 * (r.params.getD k 0).toNat + (r.params.getD (k + 1) 0).toNat ∧
        r.generation k = r.params.getD k 0) ∧
    (∀ n : Nat, byte n = BitVec.ofNat 8 n)

/-- The frames that are refused BAD_REQUEST, by the request index, and how a frame is read. -/
def Obligations.BadFormIsExactlyTheFiveCases : Prop := BadFrames ∧ FramesRead

/-- A frame of bad form is answered BAD_REQUEST with an empty payload (or the trailer alone) and has no other effect;
during start-up every frame is answered NOT_READY in the same way. -/
def Obligations.BadFramesAndStartUpFramesAnswered : Prop :=
  ∀ (s : State) (src : Source) (f : Frame), s.nextFrame = some (src, f) →
    (s.pool.startUp = false → goodForm src.port f = none →
      Does .badRequestFrame s src f (s.taken src) .badRequest []) ∧
    (s.pool.startUp = true → Does .notReadyAnswer s src f (s.taken src) .notReady [])

/-- The fields of a RESERVE in its parameter bytes (R31). -/
structure Wishes (r : Req) (s : State) (w : Wish) : Prop where
  band : r.byte 0 = bandCode w.band
  payload : r.byte 1 = w.payload
  profile : r.byte 2 = w.profile.val
  placement : (r.byte 3 = 0 ∧ w.placement = .explicit ∧ w.region = none) ∨
    (r.byte 3 = 1 ∧ w.placement = .auto ∧
      ((r.byte 6 = 255 ∧ w.region = none) ∨ ∃ k : Fin 8, r.byte 6 = k.val ∧ w.region = some k))
  start : r.word 4 = w.start
  cls : (r.port = .management ∧ r.byte 7 = w.cls.code) ∨
    (r.port = .tenant ∧ (s.directoryEntry r.tenant).map (·.cls) = some w.cls)
  hold : r.byte 8 = w.hold.code
  fixed : r.byte 9 = w.fixed.toNat
  level : r.params.getD 10 0 = w.level
  group : r.byte 11 = w.group.code
  lease : r.word 12 = w.lease

/-- The fields of a RESERVE beyond their codes are in range (R31): the payload for its class, and with a profile that is not
UNDEFINED the width and the span it gives. (A start with an UNDEFINED profile is still a cell of the band: log entry 13.) -/
def WishInRange (u : State) (w : Wish) : Prop :=
  let profile := u.profile w.profile
  let width := w.payload * profile.expansion
  let most : Nat :=
    match w.cls with
    | .voice => 4
    | .video => 16
    | .data => 192
  1 ≤ w.payload ∧ w.payload ≤ most ∧
    (profile.state = .undefined → w.placement = .explicit → bandFirst w.band ≤ w.start ∧ w.start ≤ bandLast w.band) ∧
    (profile.state ≠ .undefined →
      width ≤ 192 ∧
        (w.placement = .explicit → 1 ≤ width ∧ bandFirst w.band ≤ w.start ∧ w.start + width ≤ bandLast w.band + 1))

/-- A watch of a window mode, with a lower and an upper limit (R164). -/
abbrev Window (w : Watch) : Prop := w.mode = .inside ∨ w.mode = .outside

/-- The fields of a SET_WATCH in its parameter bytes. -/
structure WatchFields (r : Req) (n : Fin 32) (w : Watch) : Prop where
  position : r.byte 0 = n.val
  target : (r.byte 1 = 0 ∧ ∃ i : Fin 64, r.byte 2 = i.val ∧ w.target = .grant ⟨i, r.generation 3⟩) ∨
    (r.byte 1 = 1 ∧ ∃ b, r.byte 4 = bandCode b ∧ w.target = .cells b (r.word 5) (r.byte 7) ∧ 1 ≤ r.byte 7 ∧
      r.byte 7 ≤ 192 ∧ bandFirst b ≤ r.word 5 ∧ r.word 5 + r.byte 7 ≤ bandLast b + 1)
  mode : r.byte 8 = w.mode.code
  disposition : r.byte 11 = w.disposition.code
  action : r.byte 12 = w.action.code
  enabled : r.byte 13 = w.enabled.toNat
  condition : w.condition = false
  suits : (∀ h, w.target = .grant h → w.action ≠ .block) ∧
    (∀ b start width, w.target = .cells b start width → w.action = .flag ∨ w.action = .block)
  window : Window w → n.val < 16 ∧ r.byte 9 < r.byte 10

/-- The region of an index is present in the active plan or in a staged plan (R7). -/
def RegionKnown (u : State) (k : Fin 8) : Prop :=
  u.plan.active[k].isSome = true ∨ ∃ q, u.plan.staged = some q ∧ q[k].isSome = true

/-- The fields of a request of a row are in range: step 1 of the refusal order, row by row (log entries 11 and 13). -/
def InRange (r : Req) (u : State) : Instr → Prop
  | .stageRegion =>
    r.byte 0 < 8 ∧
      (r.byte 1 = 0 ∨
        (r.byte 1 = 1 ∧ r.byte 8 ≤ 1 ∧ 1 ≤ r.byte 7 ∧ r.byte 7 ≤ 7 ∧
          ∃ b, r.byte 2 = bandCode b ∧ bandFirst b ≤ r.word 3 ∧ r.word 3 ≤ r.word 5 ∧ r.word 5 ≤ bandLast b))
  | .freezeRegion => r.byte 1 + r.byte 2 = 1 ∧ ∃ k : Fin 8, r.byte 0 = k.val ∧ RegionKnown u k
  | .readRegion => r.byte 0 < 8 ∧ r.byte 1 ≤ 1
  | .setGuard => ∀ k < 6, r.byte k ≤ 16
  | .setTenant => 1 ≤ r.byte 0 ∧ r.byte 0 ≤ 15 ∧ r.byte 1 ≤ 1 ∧ r.byte 2 ≤ 2 ∧ r.byte 3 ≤ 64
  | .readTenant => 1 ≤ r.byte 0 ∧ r.byte 0 ≤ 15
  | .setPlanSettings =>
    r.word 0 ≤ 10000 ∧ 1 ≤ r.word 2 ∧ r.word 2 ≤ 600 ∧ r.byte 4 ≤ 4 ∧ r.byte 5 ≤ 4 ∧ r.byte 6 ≤ 1 ∧ r.byte 7 ≤ 1
  | .reserve => ∃ w, Wishes r u w ∧ WishInRange u w
  | .lookup => r.byte 0 < 64
  | .find => ∃ b, r.byte 0 = bandCode b ∧ bandFirst b ≤ r.word 1 ∧ r.word 1 ≤ bandLast b
  | .listOwn => r.byte 0 < 64
  | .listBand => ∃ b, r.byte 0 = bandCode b ∧ bandFirst b ≤ r.word 1 ∧ r.word 1 ≤ bandLast b
  | .activate => r.byte 0 < 64
  | .renew => r.byte 0 < 64 ∧ r.word 2 ≠ 0
  | .withdraw => r.byte 0 < 64
  | .revoke => r.byte 0 < 64 ∧ r.byte 2 ≤ 1
  | .hold => r.byte 0 < 64
  | .unhold => r.byte 0 < 64
  | .pin => r.byte 0 < 64
  | .freezePlan => r.byte 0 + r.byte 1 = 1
  | .writeProfile =>
    r.byte 0 < 8 ∧ r.byte 1 ≤ 5 ∧ 1 ≤ r.byte 2 ∧ r.byte 2 ≤ 2 ∧ r.byte 3 ≤ 4 ∧ 1 ≤ r.byte 4 ∧ r.byte 4 ≤ 7
  | .clearProfile => r.byte 0 < 8
  | .readProfile => r.byte 0 < 8
  | .readSlot => ∃ j, r.byte 0 = bandCode (slotBand j) ∧ r.byte 1 = slotNumber j
  | .setLevel => r.byte 0 < 64
  | .assignGroup => r.byte 0 < 64 ∧ r.byte 2 ≤ 4
  | .setGroup => 1 ≤ r.byte 0 ∧ r.byte 0 ≤ 3 ∧ r.byte 2 ≤ 1
  | .setBudget => r.byte 0 ≤ 1
  | .move => r.byte 0 < 64 ∧ (r.byte 2 = 1 ∨ (r.byte 2 = 0 ∧ grantable (r.word 3) = true)) ∧ r.byte 5 ≤ 2
  | .repack => r.byte 0 ≤ 1
  | .setWatch => ∃ n w, WatchFields r n w
  | .clearWatch => r.byte 0 < 32
  | .readWatch => r.byte 0 < 32
  | .setSweep =>
    r.byte 0 ≤ 2 ∧ 100 ≤ r.word 1 ∧ r.word 1 ≤ 60000 ∧ r.byte 3 ≤ 1 ∧ r.byte 4 < 32 ∧ r.byte 5 ≤ 3
  | .setEventMask => r.word 0 < 8192
  | _ => True

/-- The requests that management alone may send. -/
def managementRows : List Instr :=
  [.stageRegion, .discardStaged, .freezeRegion, .readRegion, .setGuard, .setTenant, .readTenant, .setPlanSettings,
    .readSettings, .listBand, .revoke, .hold, .unhold, .pin, .freezePlan, .writeProfile, .clearProfile, .readProfile,
    .readSlot, .assignGroup, .setGroup, .setBudget, .readLevels, .repack, .stopRepack, .setWatch, .clearWatch,
    .readWatch, .setSweep, .sweep, .readResults, .readHits, .clearHits, .readEvents, .setEventMask, .restart]

/-- The requests that a tenant may send, but for RESERVE, whose own steps stand at its statement. -/
def tenantRows : List Instr :=
  [.lookup, .find, .listOwn, .activate, .renew, .withdraw, .setLevel, .move, .readNews, .status]

/-- The requests whose first two parameters are the handle of a grant. -/
def handleRows : List Instr :=
  [.lookup, .activate, .renew, .withdraw, .revoke, .hold, .unhold, .pin, .setLevel, .assignGroup, .move]

/-- Steps 1 to 3 of the refusal order, for every request: fields, port authority, tenant enabled. -/
def FieldPortTenantRefuse : Prop :=
  ∀ (s : State) (src : Source) (f : Frame) (row : Instr), Takes s src f row →
    let u := s.taken src
    let r := requestOf src.port f
    (¬InRange r u row → Does row s src f u .badParam []) ∧
    (InRange r u row →
      (row ∈ managementRows → src.port = .tenant → Does row s src f u .notPermitted []) ∧
      (row = .readNews → src.port = .management → Does row s src f u .notPermitted []) ∧
      (row ∈ tenantRows → src.port = .tenant → u.tenantEnabled r.tenant = false → Does row s src f u .notEnabled []))

/-- Steps 4 and 5 of the refusal order, for every request that names a grant by its first two parameters: the handle is
current, else STALE with its payload; the grant is the sender's. -/
def HandleChecksRefuse : Prop :=
  ∀ (s : State) (src : Source) (f : Frame) (row : Instr), Takes s src f row → row ∈ handleRows →
    let u := s.taken src
    let r := requestOf src.port f
    InRange r u row → (src.port = .management ∨ (row ∈ tenantRows ∧ u.tenantEnabled r.tenant = true)) →
    ∀ i : Fin 64, r.byte 0 = i.val →
      (u.grant? i = none ∨ r.generation 1 ≠ (u.entry i).generation →
        Does row s src f u .stale
          [(u.entry i).generation, byte (u.entry i).stateCode,
            if (u.entry i).grant = none ∧ (src.port = .management ∨ (u.entry i).tenant.val = r.tenant) then
              byte (u.entry i).lastOutcome.code else 0]) ∧
      (∀ g, Names r u i g → src.port = .tenant → (u.entry i).tenant.val ≠ r.tenant →
        Does row s src f u .notPermitted [])

/-- The cells that a request may name (R1). -/
def CellGrid : Prop :=
  bandFirst .up = 10 ∧ bandLast .up = 407 ∧ bandFirst .down = 516 ∧ bandLast .down = 2435 ∧
    ∀ c : Nat, grantable c = true ↔ ∃ b, bandFirst b ≤ c ∧ c ≤ bandLast b

/-- The grant that a handle names: that of its entry, when the entry has its generation (R23). -/
def CurrentHandles : Prop :=
  ∀ (s : State) (h : Handle) (g : Grant),
    s.grantOf h = some g ↔ (s.entry h.entry).generation = h.generation ∧ s.grant? h.entry = some g

/-- The shared checks of requests refuse in the order of R30: fields, port, tenant, handle, owner; the cells that are in
range, and the grant that a handle names. -/
def Obligations.SharedChecksRefuse : Prop := FieldPortTenantRefuse ∧ HandleChecksRefuse ∧ CellGrid ∧ CurrentHandles

/-- What the response to a frame from a source holds: the request's code and tag, the result code, the payload length, the
payload and, for a priority frame, the trailer: whether the taking at `s` stopped a repack, and the moves completed after
the stop (R183, R185). -/
def responseTo (s : State) (src : Source) (f : Frame) (code : ResultCode) (payload : List Byte) : Frame :=
  let moves := (s.taken src).engine.repack.moves
  let all :=
    match src with
    | .queue _ => payload
    | .priority => payload ++ [if s.engine.repack.running then 1 else 0, byte (moves / 256), byte moves]
  headerByte f 0 :: headerByte f 1 :: byte code.code :: byte all.length :: all

/-- Every frame taken is answered by exactly one response, which echoes its code and tag, whatever the request does;
RESTART alone also empties the queue before. -/
def OneResponsePlaced : Prop :=
  ∀ (s : State) (src : Source) (f : Frame), s.nextFrame = some (src, f) → s.rowOf src f ≠ .restart →
    ∃ t code payload, exec (s.rowOf src f) s = .next t ∧
      (t.port src.port).responses = (s.port src.port).responses ++ [responseTo s src f code payload] ∧
      (t.port (otherPort src.port)).responses = (s.port (otherPort src.port)).responses ∧
      (∀ p, (t.port p).requests = ((s.removeFrame src).port p).requests)

/-- What the words of a statement `Does row s src f t code payload` stand for: the state in which a request is checked, a
running repack stopped first for a priority frame, and the response placed (R161, R183, R185). (A load decrease of that
stop is re-evaluated before the request's own: log entry 29.) -/
def TakenAndAnswered : Prop :=
  ∀ (s : State) (src : Source) (f : Frame) (t : State) (code : ResultCode) (payload : List Byte),
    s.rowOf src f =
      (if s.pool.startUp = true then .notReadyAnswer else (goodForm src.port f).getD .badRequestFrame) ∧
    (∀ p, s.taken (.queue p) = s.removeFrame (.queue p)) ∧
    s.taken .priority = (s.removeFrame .priority).stopRepack ∧
    s.answered src f t code payload =
      t.setPort src.port
        { t.port src.port with
          responses := (t.port src.port).responses ++ [responseTo s src f code payload] }

/-- The result codes on the wire are 0 to 26 in the order of R183. -/
def ResultCodesOnTheWire : Prop :=
  ([.done, .accepted, .notReady, .badRequest, .badParam, .notPermitted, .notEnabled, .stale, .badState, .pinned, .held,
    .frozen, .profileNotReady, .profileClass, .quota, .region, .guard, .noSpace, .blocked, .budget, .noSlot, .inUse,
    .overlap, .guardConflict, .positionPaired, .sweepBusy, .repackBusy] : List ResultCode).map ResultCode.code =
      List.range 27

/-- Every frame taken is answered by exactly one response; how a frame is taken and what its response holds. -/
def Obligations.OneResponsePerFrameTaken : Prop := OneResponsePlaced ∧ TakenAndAnswered ∧ ResultCodesOnTheWire

/-- Every step keeps the bound of 4 frames on every queue. -/
def Obligations.QueuesNeverOverflow : Prop :=
  ∀ s t : State, s.QueuesBounded → step s = .next t → t.QueuesBounded

/-! ### Events and news (R186, R188) -/

/-- READ_EVENTS returns the summary and clears every flag; SET_EVENT_MASK replaces the mask, bits 13 to 15 being
refused. -/
def EventsReadAndMasked : Prop :=
  ∀ (s : State) (src : Source) (f : Frame), src.port = .management →
    let u := s.taken src
    let r := requestOf src.port f
    (Takes s src f .readEvents →
      Does .readEvents s src f { u with ports := { u.ports with summary := 0 } } .done
        [BitVec.ofNat 8 (u.ports.summary.toNat / 256), BitVec.ofNat 8 u.ports.summary.toNat]) ∧
    (Takes s src f .setEventMask →
      (r.word 0 < 8192 →
        Does .setEventMask s src f { u with ports := { u.ports with mask := BitVec.ofNat 13 (r.word 0) } } .done []) ∧
      (8192 ≤ r.word 0 → Does .setEventMask s src f u .badParam []))

/-- The entry holds a grant of the tenant with its news flag set. -/
def WithNews (s : State) (tenant : Nat) (i : Fin 64) : Bool :=
  match s.grant? i with
  | none => false
  | some g => g.news && decide ((s.entry i).tenant.val = tenant)

/-- READ_NEWS returns up to 8 grants of its tenant with news, in ascending entry order, and clears their flags and
nothing else. -/
def ReadNewsReturnsAndClears : Prop :=
  ∀ (s : State) (src : Source) (f : Frame), Takes s src f .readNews → src.port = .tenant →
    let u := s.taken src
    let r := requestOf src.port f
    u.tenantEnabled r.tenant = true →
    let all := entryNumbers.filter (WithNews u r.tenant)
    let page := all.take 8
    ∃ t, Does .readNews s src f t .done
        (BitVec.ofNat 8 page.length :: (if 8 < all.length then 1 else 0)
          :: page.flatMap fun i =>
            [BitVec.ofNat 8 i.val, (u.entry i).generation, byte (u.entry i).stateCode,
              byte (u.entry i).lastOutcome.code]) ∧
      (∀ i ∈ page, t.entry i = { u.entry i with grant := (u.grant? i).map fun g => { g with news := false } }) ∧
      EntriesKept u t page ∧
      t = { u with table := { u.table with entries := t.table.entries } }

/-- The bits of the event flags, and what it is for one to be set and to be raised (R186). -/
def EventBits : Prop :=
  ([.ready, .planApplied, .planRejected, .slotRetired, .carrierLost, .pilotClamp, .fragUrgent, .repackEnd, .sweepDone,
    .watchHit, .sweepOverrun, .measureMissed, .leaseExpired] : List Event).map Event.bit = List.range 13 ∧
  ∀ (s : State) (e e' : Event),
    (s.flagged e = true ↔ s.ports.summary.getLsbD e.bit = true) ∧
    ((s.raise e).flagged e' = true ↔ e' = e ∨ s.flagged e' = true) ∧
    s.raise e = { s with ports := { s.ports with summary := (s.raise e).ports.summary } }

/-- READ_EVENTS, SET_EVENT_MASK and READ_NEWS, and the bits of the flags. -/
def Obligations.EventsAndNewsRead : Prop := EventsReadAndMasked ∧ ReadNewsReturnsAndClears ∧ EventBits

/-! ### The plan store (R4 to R18) -/

/-- STAGE_REGION writes one whole record into the staged plan, which first becomes a copy of the active plan when it is
absent; a present record that shares a cell with another is refused OVERLAP. -/
def Obligations.StageRegionWritesOneRecord : Prop :=
  ∀ (s : State) (src : Source) (f : Frame), Takes s src f .stageRegion → src.port = .management →
    let u := s.taken src
    let r := requestOf src.port f
    let base := u.plan.staged.getD u.plan.active
    ∀ k : Fin 8, r.byte 0 = k.val →
      (r.byte 1 = 0 →
        Does .stageRegion s src f { u with plan := { u.plan with staged := some (base.set k none) } } .done []) ∧
      (∀ (b : Band) (frozen : Bool), r.byte 1 = 1 → r.byte 2 = bandCode b → r.byte 8 = frozen.toNat →
        bandFirst b ≤ r.word 3 → r.word 3 ≤ r.word 5 → r.word 5 ≤ bandLast b → 1 ≤ r.byte 7 → r.byte 7 ≤ 7 →
        let x : Region :=
          { band := b, first := r.word 3, last := r.word 5, classes := BitVec.ofNat 3 (r.byte 7), frozen }
        ((∀ (k' : Fin 8) y, k' ≠ k → base[k'] = some y → y.band = b → y.last < x.first ∨ x.last < y.first) →
          Does .stageRegion s src f { u with plan := { u.plan with staged := some (base.set k (some x)) } } .done []) ∧
        (∀ (k' : Fin 8) y, k' ≠ k → base[k'] = some y → y.band = b → x.first ≤ y.last → y.first ≤ x.last →
          Does .stageRegion s src f u .overlap []))

/-- DISCARD_STAGED makes the staged plan absent and tells whether one was present. -/
def Obligations.DiscardStagedMakesPlanAbsent : Prop :=
  ∀ (s : State) (src : Source) (f : Frame), Takes s src f .discardStaged → src.port = .management →
    let u := s.taken src
    let t := { u with plan := { u.plan with staged := none } }
    Does .discardStaged s src f t .done [if u.plan.staged.isSome then 1 else 0] ∧
      (u.plan.staged = none → t = u) ∧ t.plan.base = t.plan.active

/-- FREEZE_REGION sets or clears the frozen flag of the active record and of the staged record of its index; a region
present in neither plan, and a request that indicates both or neither, are refused BAD_PARAM. -/
def FreezeRegionChangesFlags : Prop :=
  ∀ (s : State) (src : Source) (f : Frame), Takes s src f .freezeRegion → src.port = .management →
    let u := s.taken src
    let r := requestOf src.port f
    ∀ k : Fin 8, r.byte 0 = k.val →
      (∀ frozen : Bool, r.byte 1 = frozen.toNat → r.byte 2 = (!frozen).toNat →
        let flagged : Option Region → Option Region := Option.map fun x => { x with frozen }
        ((u.plan.active[k].isSome ∨ ∃ q, u.plan.staged = some q ∧ q[k].isSome) →
          Does .freezeRegion s src f
            { u with
              plan :=
                { u.plan with
                  active := u.plan.active.set k (flagged u.plan.active[k])
                  staged := u.plan.staged.map fun q => q.set k (flagged q[k]) } }
            .done []) ∧
        (u.plan.active[k] = none → (∀ q, u.plan.staged = some q → q[k] = none) →
          Does .freezeRegion s src f u .badParam [])) ∧
      (r.byte 1 = r.byte 2 → Does .freezeRegion s src f u .badParam [])

/-- READ_REGION returns the record of the plan asked for, the active one when STAGED is asked and none is present. -/
def ReadRegionReturnsRecord : Prop :=
  ∀ (s : State) (src : Source) (f : Frame), Takes s src f .readRegion → src.port = .management →
    let u := s.taken src
    let r := requestOf src.port f
    ∀ k : Fin 8, r.byte 0 = k.val → r.byte 1 < 2 →
      let p := if r.byte 1 = 1 then u.plan.staged.getD u.plan.active else u.plan.active
      Does .readRegion s src f u .done
        ((if u.plan.staged.isSome then 1 else 0) ::
          match p[k] with
          | none => [0, 0, 0, 0, 0, 0, 0, 0]
          | some x =>
            [1, byte (bandCode x.band), byte (x.first / 256), byte x.first, byte (x.last / 256), byte x.last,
              byte x.classes.toNat, if x.frozen then 1 else 0])

/-- FREEZE_REGION and READ_REGION. -/
def Obligations.RegionsFrozenAndRead : Prop := FreezeRegionChangesFlags ∧ ReadRegionReturnsRecord

/-- The first pair of an ordered list that a relation does not hold of, by the lower item and then by the upper. -/
def FirstOffending (kept : Held → Held → Prop) (l : List Held) (x y : Held) : Prop :=
  ∃ i j : Nat, i < j ∧ l[i]? = some x ∧ l[j]? = some y ∧ ¬kept x y ∧
    ∀ (i' j' : Nat) x' y', i' < j' → i' < i ∨ (i' = i ∧ j' < j) → l[i']? = some x' → l[j']? = some y' → kept x' y'

/-- SET_GUARD replaces the matrix when every pair of held spans of each band keeps its required gap under it; otherwise it
is refused GUARD_CONFLICT with the two handles of the first offending pair, the upstream band before the downstream, each
in ascending order of the lower span and then of the upper. -/
def Obligations.SetGuardChecksEveryPair : Prop :=
  ∀ (s : State) (src : Source) (f : Frame), Takes s src f .setGuard → src.port = .management →
    let u := s.taken src
    let r := requestOf src.port f
    let m : GuardMatrix :=
      { dataData := r.byte 0, dataVideo := r.byte 1, dataVoice := r.byte 2, videoVideo := r.byte 3,
        videoVoice := r.byte 4, voiceVoice := r.byte 5 }
    (∀ k < 6, r.byte k ≤ 16) →
    let kept := fun x y : Held => m.entry x.cls y.cls + max x.edge y.edge ≤ gapBetween x.start x.width y.start y.width
    let spans := fun b : Band => sortHeld (u.heldSpans b)
    (∀ b, (spans b).Perm (u.heldSpans b) ∧ (spans b).Pairwise fun x y => x.start ≤ y.start) ∧
    ((∀ b, (spans b).Pairwise kept) →
      Does .setGuard s src f { u with plan := { u.plan with guards := m } } .done []) ∧
    (∀ b x y, FirstOffending kept (spans b) x y → (b = .down → (spans .up).Pairwise kept) →
      Does .setGuard s src f u .guardConflict
        [byte x.entry.val, (u.entry x.entry).generation, byte y.entry.val, (u.entry y.entry).generation])

/-- SET_TENANT replaces one directory entry, and is refused IN_USE when the class would change while the tenant's grant
count is above 0. READ_TENANT returns the entry and the count. -/
def TenantWrittenAndRead : Prop :=
  ∀ (s : State) (src : Source) (f : Frame), src.port = .management →
    let u := s.taken src
    let r := requestOf src.port f
    ∀ k : Fin 15, r.byte 0 = k.val + 1 →
      (Takes s src f .setTenant →
        ∀ (enabled : Bool) (c : Cls), r.byte 1 = enabled.toNat → r.byte 2 = c.code → r.byte 3 ≤ 64 →
          (u.plan.directory[k].cls = c ∨ u.table.counts[k] = 0 →
            Does .setTenant s src f
              { u with
                plan :=
                  { u.plan with
                    directory := u.plan.directory.set k { enabled, cls := c, quota := r.byte 3 } } }
              .done []) ∧
          (u.plan.directory[k].cls ≠ c → u.table.counts[k] ≠ 0 → Does .setTenant s src f u .inUse [])) ∧
      (Takes s src f .readTenant →
        Does .readTenant s src f u .done
          [if u.plan.directory[k].enabled then 1 else 0, byte u.plan.directory[k].cls.code,
            byte u.plan.directory[k].quota, byte u.table.counts[k]])

/-- The directory entry and the grant count of a tenant id: those of tenants 1 to 15; any other id has none (R13, R29). -/
def TenantsNamed : Prop :=
  ∀ (s : State) (t : Nat),
    (∀ k : Fin 15, t = k.val + 1 →
      s.directoryEntry t = some s.plan.directory[k] ∧ s.tenantEnabled t = s.plan.directory[k].enabled ∧
        s.grantCount t = s.table.counts[k]) ∧
    (t = 0 ∨ 15 < t → s.directoryEntry t = none ∧ s.tenantEnabled t = false ∧ s.grantCount t = 0)

/-- SET_TENANT, READ_TENANT, and what belongs to a tenant id. -/
def Obligations.TenantEntryWrittenAndRead : Prop := TenantWrittenAndRead ∧ TenantsNamed

/-- SET_PLAN_SETTINGS replaces all six settings; a band whose switch goes from off to on at level 3 starts a repack when
none runs and the plan is not frozen, the upstream band first (log entry 10). -/
def Obligations.SetPlanSettingsReplacesAllSix : Prop :=
  ∀ (s : State) (src : Source) (f : Frame), Takes s src f .setPlanSettings → src.port = .management →
    let u := s.taken src
    let r := requestOf src.port f
    ∀ up down : Bool, r.word 0 ≤ 10000 → 1 ≤ r.word 2 → r.word 2 ≤ 600 → r.byte 4 ≤ 4 → r.byte 5 ≤ 4 →
      r.byte 6 = up.toNat → r.byte 7 = down.toNat →
      let v : State :=
        { u with
          plan :=
            { u.plan with
              settings :=
                { quietInterval := r.word 0, holdTime := r.word 2, reserve := { up := r.byte 4, down := r.byte 5 },
                  autoRepack := { up, down } } } }
      let turned := fun (old new : Bool) (b : Band) (t : State) =>
        old = false ∧ new = true ∧ t.engine.frag.get b = 3 ∧ t.engine.repack.running = false ∧
          t.table.planFrozen = false
      let w := if turned u.plan.settings.autoRepack.up up .up v then v.startRepack .up else v
      let t := if turned u.plan.settings.autoRepack.down down .down w then w.startRepack .down else w
      Does .setPlanSettings s src f t .done [] ∧ t.plan = v.plan

/-- READ_SETTINGS returns the guard matrix and the six settings. -/
def Obligations.ReadSettingsReturnsAll : Prop :=
  ∀ (s : State) (src : Source) (f : Frame), Takes s src f .readSettings → src.port = .management →
    let u := s.taken src
    Does .readSettings s src f u .done
      [byte u.plan.guards.dataData, byte u.plan.guards.dataVideo, byte u.plan.guards.dataVoice,
        byte u.plan.guards.videoVideo, byte u.plan.guards.videoVoice, byte u.plan.guards.voiceVoice,
        byte (u.plan.settings.quietInterval / 256), byte u.plan.settings.quietInterval,
        byte (u.plan.settings.holdTime / 256), byte u.plan.settings.holdTime,
        byte u.plan.settings.reserve.up, byte u.plan.settings.reserve.down,
        if u.plan.settings.autoRepack.up then 1 else 0, if u.plan.settings.autoRepack.down then 1 else 0]

/-! ### Placement and the grant table (R31 to R44) -/

/-- The three stages of a placement, in their order. -/
def PlacementStages (x : Site) : Prop :=
  ∀ start : Nat,
    let overlaps := ∃ h ∈ x.held, sharesCell start x.width h.start h.width = true
    let close := ∃ h ∈ x.held, gapBetween start x.width h.start h.width < x.guards.entry x.cls h.cls + max x.edge h.edge
    let blocked := ∃ y ∈ x.blocked, sharesCell start x.width y.1 y.2 = true
    (overlaps → x.test start = .noSpace) ∧
    (¬overlaps → close → x.test start = .guard) ∧
    (¬overlaps → ¬close → blocked → x.test start = .blocked) ∧
    (¬overlaps → ¬close → ¬blocked → x.test start = .legal)

/-- A start of a span of the site's width lies in one of the regions. -/
def StartsIn (x : Site) (regions : List Region) (n : Nat) : Prop :=
  ∃ r ∈ regions, r.first ≤ n ∧ n + x.width ≤ r.last + 1

/-- An AUTO search gives the lowest legal start over all its regions together. -/
def StagesAndSearch : Prop :=
  ∀ (x : Site) (regions : List Region), PlacementStages x ∧ (1 ≤ x.width →
    (∀ n, x.search regions = some n ↔
      (StartsIn x regions n ∧ x.test n = .legal ∧ ∀ m, m < n → StartsIn x regions m → x.test m ≠ .legal)) ∧
    (x.search regions = none ↔ ∀ m, StartsIn x regions m → x.test m ≠ .legal) ∧
    (x.blockedSomewhere regions = true ↔ ∃ m, StartsIn x regions m ∧ x.test m = .blocked))

/-- The held spans of a band: the current span of every item of its occupancy list, and the target span of its grant while
that has a move context, each with the class and the edge guard of the grant (R27). -/
def HeldSpansOfBand : Prop :=
  ∀ (s : State) (b : Band) (h : Held), h ∈ s.heldSpans b ↔
    ∃ it g, it ∈ s.occupancy b ∧ s.grant? it.handle.entry = some g ∧ h.entry = it.handle.entry ∧ h.cls = g.cls ∧
      h.edge = (s.profile g.profile).edgeGuard ∧
      ((h.isTarget = false ∧ h.start = it.start ∧ h.width = it.width) ∨
        ∃ m, g.move = some m ∧ h.isTarget = true ∧ h.start = m.target ∧ h.width = g.width)

/-- An enabled BLOCK watch whose condition is TRUE stands on this range of cells of a band (R178). -/
def BlockStands (s : State) (b : Band) (start width : Nat) : Prop :=
  ∃ n w, s.monitor.position n = .watch w ∧ w.target = .cells b start width ∧ w.enabled = true ∧ w.condition = true ∧
    w.action = .block

/-- The blocked cells of a band: those that such a range covers (R178). -/
def BlockedCellsOfBand : Prop :=
  ∀ (s : State) (b : Band),
    (∀ y, y ∈ s.blockedRanges b ↔ BlockStands s b y.1 y.2) ∧
    (∀ c, s.blockedCell b c = true ↔ ∃ start width, BlockStands s b start width ∧ start ≤ c ∧ c < start + width)

/-- What a new span, and the target of a move, are tested against: the held spans and blocked cells of the band as they
stand, the guard matrix, and the class, edge guard and width of the span (R35, R139). -/
def SitesOfSpans : Prop :=
  ∀ s : State,
    (∀ w, s.wishSite w =
      { held := s.heldSpans w.band, blocked := s.blockedRanges w.band, guards := s.plan.guards, cls := w.cls,
        edge := (s.profile w.profile).edgeGuard, width := w.payload * (s.profile w.profile).expansion }) ∧
    (∀ g : Grant, s.moveSite g =
      { held := s.heldSpans g.band, blocked := s.blockedRanges g.band, guards := s.plan.guards, cls := g.cls,
        edge := (s.profile g.profile).edgeGuard, width := g.width })

/-- When two spans share a cell, the gap between two that share none, and the guard matrix entry of two classes in either
order (R10, R11). -/
def DistancesOfSpans : Prop :=
  (∀ a w a' w' : Nat,
    (sharesCell a w a' w' = true ↔ a < a' + w' ∧ a' < a + w) ∧
    (a + w ≤ a' → gapBetween a w a' w' = a' - (a + w)) ∧ (a' + w' ≤ a → gapBetween a w a' w' = a - (a' + w'))) ∧
  ∀ m : GuardMatrix,
    m.entry .data .data = m.dataData ∧ m.entry .video .video = m.videoVideo ∧ m.entry .voice .voice = m.voiceVoice ∧
      m.entry .data .video = m.dataVideo ∧ m.entry .data .voice = m.dataVoice ∧ m.entry .video .voice = m.videoVoice ∧
      ∀ c c' : Cls, m.entry c c' = m.entry c' c

/-- A placement goes through three stages in their order, an AUTO search gives the lowest legal start over all its regions
together, and what both are made against: held spans and blocked cells. -/
def Obligations.SearchGivesLowestLegalStart : Prop :=
  StagesAndSearch ∧ HeldSpansOfBand ∧ BlockedCellsOfBand ∧ SitesOfSpans ∧ DistancesOfSpans

/-- A RESERVE whose fields are in range makes its grant in the entry and at the start that steps 9 to 13 give, or is
refused with their code; before them a tenant is refused NOT_PERMITTED when it asks for more than an OPEN grant, not fixed,
in no group, and NOT_ENABLED when it is disabled (R32). -/
def ReserveAnswered : Prop :=
  ∀ (s : State) (src : Source) (f : Frame), Takes s src f .reserve →
    let u := s.taken src
    let r := requestOf src.port f
    ∀ w, Wishes r u w → WishInRange u w →
      let plain := w.hold = .opened ∧ w.fixed = false ∧ w.group = .none
      (src.port = .tenant → ¬plain → Does .reserve s src f u .notPermitted []) ∧
      (src.port = .tenant → plain → u.tenantEnabled r.tenant = false → Does .reserve s src f u .notEnabled []) ∧
      (src.port = .management ∨ (u.tenantEnabled r.tenant = true ∧ plain) →
        (∀ i start, u.admission r w = .ok (i, start) →
          Does .reserve s src f (u.makeGrant r w i start) .done
            [byte i.val, (u.entry i).generation, byte (start / 256), byte start,
              byte (w.payload * (u.profile w.profile).expansion)]) ∧
        (∀ c, u.admission r w = .error c → Does .reserve s src f u c []))

/-- A region that an AUTO placement may look at, by its region index or ANY: present, in the band, allowing the class
(R33, R34). -/
def Candidate (s : State) (w : Wish) (x : Region) : Prop :=
  (∃ k : Fin 8, s.plan.active[k] = some x ∧ (w.region = none ∨ w.region = some k)) ∧
    x.band = w.band ∧ x.classes.has w.cls = true

/-- Step 9 of RESERVE finds something frozen (R33). -/
def AdmissionFrozen (s : State) (w : Wish) : Prop :=
  s.table.planFrozen = true ∨
    (w.placement = .explicit ∧ s.plan.active.frozenAt w.band w.start = true) ∨
    (w.placement = .auto ∧
      ((∃ k x, w.region = some k ∧ s.plan.active[k] = some x ∧ x.frozen = true) ∨
        (w.region = none ∧ (∃ x, Candidate s w x) ∧ ∀ x, Candidate s w x → x.frozen = true)))

/-- Step 11 of RESERVE leaves room: management has no quota; a tenant's grant count is below its own (R29). -/
def QuotaLeft (s : State) (r : Req) : Prop :=
  r.port = .management ∨ ∃ d, s.directoryEntry r.tenant = some d ∧ s.grantCount r.tenant < d.quota

/-- A region that an AUTO placement of a width searches: a candidate that is not frozen and is large enough (R34). -/
def Searched (s : State) (w : Wish) (width : Nat) (x : Region) : Prop :=
  Candidate s w x ∧ x.frozen = false ∧ x.first + width ≤ x.last + 1

/-- Steps 9 to 13 of RESERVE in their order, for both placements: the code of the first that fails, or the lowest FREE
entry with the start named (EXPLICIT) or the lowest legal start of the regions searched (AUTO). A RESERVE that names an
UNDEFINED profile has no width, and steps 9 and 10 decide on it. -/
def AdmissionDecides : Prop :=
  ∀ (s : State) (r : Req) (w : Wish),
    let profile := s.profile w.profile
    let width := w.payload * profile.expansion
    let inRegion :=
      if w.placement = .explicit then s.plan.active.allowsSpan w.band w.start width w.cls = true
      else ∃ x, Searched s w width x
    let test := (s.wishSite w).test
    let inSearch := fun n : Nat => ∃ x, Searched s w width x ∧ x.first ≤ n ∧ n + width ≤ x.last + 1
    (AdmissionFrozen s w → s.admission r w = .error .frozen) ∧
    (¬AdmissionFrozen s w →
      (profile.state ≠ .ready → s.admission r w = .error .profileNotReady) ∧
      (profile.state = .ready → profile.classes.has w.cls = false → s.admission r w = .error .profileClass) ∧
      (profile.state = .ready → profile.classes.has w.cls = true →
        (¬QuotaLeft s r → s.admission r w = .error .quota) ∧
        (QuotaLeft s r → 1 ≤ width → ¬inRegion → s.admission r w = .error .region) ∧
        (QuotaLeft s r → 1 ≤ width → inRegion →
          ((∀ i, s.grant? i ≠ none) → s.admission r w = .error .noSpace) ∧
          (∀ i, s.grant? i = none → (∀ k, k < i → s.grant? k ≠ none) →
            (w.placement = .explicit →
              (test w.start = .noSpace → s.admission r w = .error .noSpace) ∧
              (test w.start = .guard → s.admission r w = .error .guard) ∧
              (test w.start = .blocked → s.admission r w = .error .blocked) ∧
              (test w.start = .legal → s.admission r w = .ok (i, w.start))) ∧
            (w.placement = .auto →
              (∀ n, inSearch n → test n = .legal → (∀ m, m < n → inSearch m → test m ≠ .legal) →
                s.admission r w = .ok (i, n)) ∧
              ((∀ n, inSearch n → test n ≠ .legal) →
                ((∃ n, inSearch n ∧ test n = .blocked) → s.admission r w = .error .blocked) ∧
                ((∀ n, inSearch n → test n ≠ .blocked) → s.admission r w = .error .noSpace)))))))

/-- RESERVE: its own refusals, the grant it makes or the code of steps 9 to 13, and what those steps decide. -/
def Obligations.ReserveMakesTheGrantAdmitted : Prop := ReserveAnswered ∧ AdmissionDecides

/-- Steps 9 to 13 of an EXPLICIT RESERVE: it is admitted exactly when the plan and the region of its first cell are not
frozen, the profile is READY and allows the class, the quota leaves room, the span lies in a region allowing the class,
an entry is FREE and the span passes the three stages; it takes the lowest FREE entry and the start it names. -/
def Obligations.ExplicitReserveAdmission : Prop :=
  ∀ (s : State) (r : Req) (w : Wish) (i : Fin 64) (start : Nat), w.placement = .explicit →
    (s.admission r w = .ok (i, start) ↔
      (s.table.planFrozen = false ∧ s.plan.active.frozenAt w.band w.start = false ∧
        (s.profile w.profile).state = .ready ∧ (s.profile w.profile).classes.has w.cls = true ∧
        QuotaLeft s r ∧
        s.plan.active.allowsSpan w.band w.start (w.payload * (s.profile w.profile).expansion) w.cls = true ∧
        (s.grant? i = none ∧ ∀ k, k < i → s.grant? k ≠ none) ∧
        (s.wishSite w).test w.start = .legal ∧ start = w.start))

/-- How `t` differs from `s` when RESERVE has made its grant in an entry, but for the move engine: the record, with the
milliseconds of its two timers at 0 (log entry 4), the occupancy item, the tenant's count, the reference count. -/
structure GrantMade (s t : State) (r : Req) (w : Wish) (i : Fin 64) (start : Nat) : Prop where
  generation : (t.entry i).generation = (s.entry i).generation
  tenant : (t.entry i).tenant.val = r.tenant
  outcome : (t.entry i).lastOutcome = .none
  grant : t.grant? i = some
    { state := .reserved, cls := w.cls, band := w.band, start, payload := w.payload, profile := w.profile,
      width := w.payload * (s.profile w.profile).expansion, hold := w.hold, fixed := w.fixed, level := w.level,
      group := w.group, impairing := 0, news := false,
      lease :=
        match r.port with
        | .tenant => if w.lease = 0 then some 3600 else some w.lease
        | .management => if w.hold = .pinned ∨ w.lease = 0 then none else some w.lease
      leaseMs := 0
      holdTime := if w.hold = .pinned then none else some s.plan.settings.holdTime
      holdMs := 0, phaseTimer := none, slot := none, move := none, counted := 0 }
  item : t.occupancy w.band =
    insertItem { handle := ⟨i, (s.entry i).generation⟩, start, width := w.payload * (s.profile w.profile).expansion }
      (s.occupancy w.band)
  otherBand : ∀ b, b ≠ w.band → t.occupancy b = s.occupancy b
  counts : ∀ k : Fin 15, t.table.counts[k] =
    if r.tenant = k.val + 1 then s.table.counts[k] + 1 else s.table.counts[k]
  references : ∀ k, t.profile k =
    if k = w.profile then { s.profile k with references := (s.profile k).references + 1 } else s.profile k
  others : EntriesKept s t [i]
  slots : SlotsKept s t []
  rest : t.plan = s.plan ∧ t.levels = s.levels ∧ t.monitor = s.monitor ∧ t.table.planFrozen = s.table.planFrozen

/-- What RESERVE makes: the grant with its records, then the recompute of the band's fragmentation level, which can start a
repack only where the band's auto-repack switch is on. (The milliseconds of the timers: log entry 4; the news of a grant
that such a repack slides at once: log entry 24.) -/
def GrantIsMade : Prop :=
  ∀ (s : State) (r : Req) (w : Wish) (i : Fin 64) (start : Nat), r.tenant < 16 →
    let t := s.makeGrant r w i start
    (∃ v : State, t = v.refreshFrag w.band ∧ GrantMade s v r w i start ∧ v.engine = s.engine ∧ v.ports = s.ports) ∧
    (s.plan.settings.autoRepack.get w.band = false →
      GrantMade s t r w i start ∧ t.engine.frag.get w.band = t.fragOf w.band ∧
        t.grantCount r.tenant = (if 1 ≤ r.tenant then s.grantCount r.tenant + 1 else 0))

/-- How an item joins an occupancy list and leaves it: nothing else is gained or lost, and the list stays in ascending order
of start (R26). -/
def ItemsJoinAndLeave : Prop :=
  ∀ (x : OccItem) (l : List OccItem) (i : Fin 64),
    (insertItem x l).Perm (x :: l) ∧
    (l.Pairwise (fun y z => y.start < z.start) → (∀ y ∈ l, y.start ≠ x.start) →
      (insertItem x l).Pairwise fun y z => y.start < z.start) ∧
    removeItem i l = l.filter fun it => it.handle.entry != i

/-- The grant that RESERVE makes, and how items join and leave the occupancy lists. (The milliseconds of the timers: log
entry 4; the news of a grant that a repack slides at once: log entry 24.) -/
def Obligations.ReservedGrantRecord : Prop := GrantIsMade ∧ ItemsJoinAndLeave

/-- The parts that LOOKUP gives in a form of their own: the phase timer, which in TUNING is the lock timeout of the attempt on
the grant's slot (R21; log entry 18); the presence byte (R40); the second slot; a slot part as its number in the band. -/
def OptionalPartsOnTheWire : Prop :=
  ∀ (s : State) (g : Grant),
    (g.state ≠ .tuning → s.phaseTimerOf g = g.phaseTimer) ∧
    (g.state = .tuning →
      (∀ j a, g.slot = some j → (s.slot j).state = .tuning a → s.phaseTimerOf g = some a.timeout) ∧
      ((∀ j a, g.slot = some j → (s.slot j).state ≠ .tuning a) → s.phaseTimerOf g = none)) ∧
    (let presence := byte (s.presence g)
     presence.getLsbD 0 = g.lease.isSome ∧ presence.getLsbD 1 = g.holdTime.isSome ∧
      presence.getLsbD 2 = (s.phaseTimerOf g).isSome ∧ presence.getLsbD 3 = g.slot.isSome ∧
      presence.getLsbD 4 = g.move.isSome ∧ presence.getLsbD 5 = g.second.isSome ∧
      ∀ k, 6 ≤ k → presence.getLsbD k = false) ∧
    g.second = g.move.bind (·.second) ∧ slotPart none = 0 ∧
    (∀ j : SlotId, slotPart (some j) = if j.val < 16 then j.val else j.val - 16)

/-- LOOKUP returns the 32-byte record laid out as R40 gives it, and at the tenant port clears the news flag; it changes
nothing else. -/
def LookupReturns : Prop :=
  ∀ (s : State) (src : Source) (f : Frame), Takes s src f .lookup →
    let u := s.taken src
    let r := requestOf src.port f
    ∀ i g, Names r u i g → MayAct r u i →
      let lease := g.lease.getD 0
      let holdTime := g.holdTime.getD 0
      let phase := (u.phaseTimerOf g).getD 0
      let e := u.entry i
      Does .lookup s src f
        (if src.port = .tenant then u.setEntry i { e with grant := some { g with news := false } } else u) .done
        [byte i.val, e.generation, byte g.state.code, byte e.tenant.val, byte g.cls.code, byte (bandCode g.band),
          byte (g.start / 256), byte g.start, byte g.payload, byte g.profile.val, byte g.width, byte g.hold.code,
          if g.fixed then 1 else 0, g.level, byte g.group.code, byte (u.presence g), byte (lease / 256), byte lease,
          byte (holdTime / 256), byte holdTime, byte (phase / 256), byte phase, byte (slotPart g.slot),
          byte ((g.move.elim 0 (·.target)) / 256), byte (g.move.elim 0 (·.target)),
          byte (g.move.elim 0 (·.kind.code)), byte (g.move.elim 0 (·.origin.code)),
          byte (g.move.elim 0 (·.phase.code)), byte (slotPart g.second), byte g.impairing, if g.news then 1 else 0,
          byte e.lastOutcome.code]

/-- The coded fields of a grant on the wire, each code in the order of R40; 0 is the state code of a FREE entry; the bits of a
class set. -/
def CodesOnTheWire : Prop :=
  bandCode .up = 0 ∧ bandCode .down = 1 ∧
  ([.data, .video, .voice] : List Cls).map Cls.code = [0, 1, 2] ∧
  ([.reserved, .tuning, .live, .impaired, .moving, .draining, .quiet] : List GrantState).map GrantState.code =
    [1, 2, 3, 4, 5, 6, 7] ∧
  (∀ e : Entry, (e.grant = none → e.stateCode = 0) ∧ ∀ g, e.grant = some g → e.stateCode = g.state.code) ∧
  ([.opened, .held, .pinned] : List HoldClass).map HoldClass.code = [0, 1, 2] ∧
  ([.none, .g1, .g2, .g3, .pilot] : List Group).map Group.code = [0, 1, 2, 3, 4] ∧
  ([.seamless, .hard] : List MoveKind).map MoveKind.code = [0, 1] ∧
  ([.request, .auto, .repack] : List MoveOrigin).map MoveOrigin.code = [0, 1, 2] ∧
  ([.targetTuning, .fallbackTuning] : List MovePhase).map MovePhase.code = [0, 1] ∧
  ([.none, .activated, .activateFailed, .lapsed, .expired, .withdrawn, .revoked, .moved, .moveFailed, .moveAbandoned,
    .noTarget, .lost] : List LastOutcome).map LastOutcome.code = List.range 12 ∧
  ∀ set : ClassSet, set.has .data = set.getLsbD 0 ∧ set.has .video = set.getLsbD 1 ∧ set.has .voice = set.getLsbD 2

/-- The record of LOOKUP, its optional parts and its codes. (The phase timer of a TUNING grant: log entry 18.) -/
def Obligations.LookupReturnsRecord : Prop := LookupReturns ∧ OptionalPartsOnTheWire ∧ CodesOnTheWire

/-- A held span of a band covers a cell. -/
def Covers (h : Held) (c : Nat) : Prop := h.start ≤ c ∧ c < h.start + h.width

/-- FIND answers GRANT for a held cell, then NO_REGION, BLOCKED and FREE in that order, hides the handle of another's
grant, and changes nothing. -/
def FindAnswers : Prop :=
  ∀ (s : State) (src : Source) (f : Frame), Takes s src f .find →
    let u := s.taken src
    let r := requestOf src.port f
    ∀ b : Band, r.byte 0 = bandCode b → bandFirst b ≤ r.word 1 → r.word 1 ≤ bandLast b →
      (src.port = .management ∨ u.tenantEnabled r.tenant = true) →
      ((∃ h ∈ u.heldSpans b, Covers h (r.word 1)) →
        ∃ h ∈ u.heldSpans b, Covers h (r.word 1) ∧
          let own := src.port = .management ∨ (u.entry h.entry).tenant.val = r.tenant
          Does .find s src f u .done
            [0, (u.plan.active.regionAt b (r.word 1)).elim 255 fun x => byte x.1, if own then byte h.entry.val else 255,
              if own then (u.entry h.entry).generation else 255, if h.isTarget then 1 else 0, if own then 1 else 0]) ∧
      ((∀ h ∈ u.heldSpans b, ¬Covers h (r.word 1)) →
        (u.plan.active.regionAt b (r.word 1) = none → Does .find s src f u .done [3, 255, 255, 255, 0, 0]) ∧
        (∀ x, u.plan.active.regionAt b (r.word 1) = some x →
          Does .find s src f u .done
            [if u.blockedCell b (r.word 1) then 2 else 1, byte x.1, 255, 255, 0, 0]))

/-- What a plan says of a cell and of a span: the region that holds a cell, by its index; whether a span lies in one region
whose class set holds a class (R2, R3); whether a cell lies in a frozen region (R88); the regions a search may look at. -/
def PlanAnswers : Prop :=
  ∀ (p : Plan) (b : Band) (c : Nat),
    let holds := fun x : Region => x.band = b ∧ x.first ≤ c ∧ c ≤ x.last
    (p.regionAt b c = none ↔ ∀ (k : Fin 8) x, p[k] = some x → ¬holds x) ∧
    (∀ y, p.regionAt b c = some y →
      ∃ k : Fin 8, y.1 = k.val ∧ p[k] = some y.2 ∧ holds y.2 ∧
        ∀ k' x, k' < k → p[k'] = some x → ¬holds x) ∧
    (p.frozenAt b c = true ↔ ∃ y, p.regionAt b c = some y ∧ y.2.frozen = true) ∧
    (∀ (width : Nat) (cls : Cls), p.allowsSpan b c width cls = true ↔
      ∃ (k : Fin 8) (x : Region), p[k] = some x ∧ x.band = b ∧ x.first ≤ c ∧ c + width ≤ x.last + 1 ∧
        x.classes.has cls = true) ∧
    (∀ (cls : Cls) (x : Region), x ∈ p.candidates b cls ↔
      ∃ k : Fin 8, p[k] = some x ∧ x.band = b ∧ x.classes.has cls = true)

/-- FIND, and what the plan says of a cell and of a span. (Held spans and blocked cells are written out beside the search
for a start.) -/
def Obligations.FindDecidesInOrder : Prop := FindAnswers ∧ PlanAnswers

/-- LIST_OWN returns the requester's grants from an entry on, LIST_BAND the items of a band from a cell on: a count up to
8, whether more remain, and the items; they change nothing. -/
def Obligations.ListsReturnPages : Prop :=
  ∀ (s : State) (src : Source) (f : Frame),
    let u := s.taken src
    let r := requestOf src.port f
    (Takes s src f .listOwn → r.byte 0 ≤ 63 → (src.port = .management ∨ u.tenantEnabled r.tenant = true) →
      let all := entryNumbers.filter fun i =>
        decide (r.byte 0 ≤ i.val) && ((u.grant? i).isSome && decide ((u.entry i).tenant.val = r.tenant))
      Does .listOwn s src f u .done
        (byte (min 8 all.length) :: (if 8 < all.length then 1 else 0)
          :: (all.take 8).flatMap fun i =>
            [byte i.val, (u.entry i).generation, byte (u.entry i).stateCode])) ∧
    (∀ b : Band, Takes s src f .listBand → src.port = .management → r.byte 0 = bandCode b →
      bandFirst b ≤ r.word 1 → r.word 1 ≤ bandLast b →
      let all := (u.occupancy b).filter fun it => decide (r.word 1 ≤ it.start)
      Does .listBand s src f u .done
        (byte (min 8 all.length) :: (if 8 < all.length then 1 else 0)
          :: (all.take 8).flatMap fun it =>
            [byte it.handle.entry.val, it.handle.generation, byte (it.start / 256), byte it.start]))

/-! ### The life of a grant (R51 to R66) -/

/-- Both bands' proposed loads are within their budgets. -/
def WithinBudget (s : State) (load : Band → Nat) : Prop := ∀ b, load b ≤ s.budget b

/-- The payload of a BUDGET refusal: the first band that fails, UP before DOWN, its proposed load and its budget. -/
def BudgetRefusal (s : State) (load : Band → Nat) (payload : List Byte) : Prop :=
  ∃ b, s.budget b < load b ∧ (b = .down → load .up ≤ s.budget .up) ∧
    payload = [byte (bandCode b), byte (load b / 256), byte (load b), byte (s.budget b / 256), byte (s.budget b)]

/-- ACTIVATE of a RESERVED grant, with its profile, the budget and a slot allowing it, puts the grant in TUNING on the
selected slot, its hold time removed, and sends TUNE; else it is refused in the order of R30. The phase timer part of a
TUNING grant is the lock timeout of its slot's attempt, not a field of the record (log entry 18), and the milliseconds of
its timers are 0 (log entry 4). -/
def Obligations.ActivateStartsTuning : Prop :=
  ∀ (s : State) (src : Source) (f : Frame), Takes s src f .activate →
    let u := s.taken src
    let r := requestOf src.port f
    ∀ i g, Names r u i g → MayAct r u i → (g.state = .reserved → g.move = none) →
      let load := g.width * weight (u.levels.effective g)
      let profile := u.profile g.profile
      (g.state ≠ .reserved → Does .activate s src f u .badState []) ∧
      (g.state = .reserved → profile.state ≠ .ready → Does .activate s src f u .profileNotReady []) ∧
      (g.state = .reserved → profile.state = .ready → profile.classes.has g.cls = false →
        Does .activate s src f u .profileClass []) ∧
      (g.state = .reserved → profile.state = .ready → profile.classes.has g.cls = true →
        (∀ payload, BudgetRefusal u (u.loadWith g.band load) payload → Does .activate s src f u .budget payload) ∧
        (WithinBudget u (u.loadWith g.band load) →
          let selected := u.selectSlot g.band (u.plan.settings.reserve.get g.band) none
          (selected = none → Does .activate s src f u .noSlot []) ∧
          (∀ j, selected = some j →
            ∃ t, Does .activate s src f t .accepted [byte (slotNumber j)] ∧
              t.entry i =
                { u.entry i with
                  grant := some
                    { g with
                      state := .tuning, holdTime := none, holdMs := 0, leaseMs := 0, phaseTimer := none,
                      slot := some j, news := g.news || decide (src.port = .management), counted := load } } ∧
              t.slot j =
                { u.slot j with
                  state := .tuning { caller := .activation, second := false, timeout := 20 }
                  holder := some (u.handleOf i) } ∧
              t.pool.sent[j] =
                u.pool.sent[j] ++ [.tune g.band g.start g.width profile.order (u.levels.effective g)] ∧
              EntriesKept u t [i] ∧ SlotsKept u t [j] ∧ SurroundingsKept u t ∧ t.ports = u.ports ∧
              t.levels = u.levels ∧ t.engine = u.engine ∧ t.monitor = u.monitor)))

/-- RENEW, HOLD, UNHOLD and PIN each change the record of the one grant named, or are refused. (The milliseconds of a lease
or a hold time that is set or taken away: log entry 4.) -/
def Obligations.RenewHoldUnholdPinChangeOneRecord : Prop :=
  ∀ (s : State) (src : Source) (f : Frame),
    let u := s.taken src
    let r := requestOf src.port f
    ∀ i g, Names r u i g →
      let became := fun g' : Grant => u.setEntry i { u.entry i with grant := some g' }
      (Takes s src f .renew → MayAct r u i → r.word 2 ≠ 0 →
        let given := g.state = .draining ∨ g.state = .quiet
        (given → Does .renew s src f u .badState []) ∧
        (¬given → g.hold = .pinned → Does .renew s src f u .pinned []) ∧
        (¬given → g.hold ≠ .pinned →
          Does .renew s src f (became { g with lease := some (r.word 2), leaseMs := 0 }) .done [])) ∧
      (Takes s src f .hold → src.port = .management →
        (g.hold = .pinned → Does .hold s src f u .pinned []) ∧
        (g.hold ≠ .pinned → Does .hold s src f (became { g with hold := .held }) .done [byte g.hold.code, 1])) ∧
      (Takes s src f .unhold → src.port = .management →
        (g.hold = .pinned → Does .unhold s src f u .pinned []) ∧
        (g.hold ≠ .pinned → Does .unhold s src f (became { g with hold := .opened }) .done [byte g.hold.code, 0])) ∧
      (Takes s src f .pin → src.port = .management →
        let refused := g.state = .moving ∨ g.state = .draining ∨ g.state = .quiet
        (refused → Does .pin s src f u .badState []) ∧
        (¬refused → g.hold = .pinned → Does .pin s src f u .done [2, 2]) ∧
        (¬refused → g.hold ≠ .pinned →
          Does .pin s src f
            (became { g with hold := .pinned, lease := none, leaseMs := 0, holdTime := none, holdMs := 0 }) .done
            [byte g.hold.code, 2]))

/-- The grant is given up by a drain: it transmits on its own slot and no cut is asked. -/
def Drains (g : Grant) (cut : Bool) : Prop :=
  cut = false ∧ (g.state = .live ∨ g.state = .impaired ∨ (g.state = .moving ∧ ∃ m, g.move = some m ∧ m.kind = .seamless))

/-- The grant is given up by a HALT and the quiet interval. -/
def Halts (g : Grant) (cut : Bool) : Prop :=
  g.state = .tuning ∨ (g.state = .moving ∧ ∃ m, g.move = some m ∧ m.kind = .hard) ∨
    (cut = true ∧ (g.state = .live ∨ g.state = .impaired ∨ g.state = .moving ∨ g.state = .draining))

/-- The slot part of the grant is halted in `t`: IDLE, no holder, its fail count as it was, HALT sent. -/
def OwnSlotHalted (s t : State) (g : Grant) : Prop :=
  ∀ j, g.slot = some j → (s.slot j).state ≠ .retired →
    SlotSent s t j { s.slot j with state := .idle, holder := none } .halt

/-- The slots of a grant: its own, and the second slot of its move. -/
def slotsOf (g : Grant) : List SlotId := g.slot.toList ++ (g.move.bind (·.second)).toList

/-- The second slot of the grant's move, if it has one, is not its own slot. -/
def SlotsDiffer (g : Grant) : Prop := ∀ m k, g.move = some m → m.second = some k → g.slot ≠ some k

/-- The record of an entry whose grant has just become FREE (R25). -/
def freedEntry (e : Entry) (o : LastOutcome) : Entry :=
  { e with generation := e.generation + 1, lastOutcome := o, grant := none }

/-- The record of an entry whose grant has left its slot for the quiet interval `q`: QUIET, or FREE at once when `q` is
0 (R66). -/
def silencedEntry (e : Entry) (g : Grant) (o : LastOutcome) (q : Nat) (news : Bool) : Entry :=
  if q = 0 then freedEntry e o
  else
    { e with
      lastOutcome := o
      grant := some
        { g with
          state := .quiet, lease := none, leaseMs := 0, holdTime := none, holdMs := 0, phaseTimer := some q,
          slot := none, move := none, counted := 0, news := g.news || news } }

/-- The drain interval of a class, in ms (R63). -/
def drainTime : Cls → Nat
  | .voice => 40
  | .data => 100
  | .video => 400

/-- The record of an entry whose grant has begun to drain; after a seamless move its load counts once again (R62, R63). -/
def drainingEntry (s : State) (e : Entry) (g : Grant) (o : LastOutcome) (news : Bool) : Entry :=
  { e with
    lastOutcome := o
    grant := some
      { g with
        state := .draining, lease := none, leaseMs := 0, phaseTimer := some (drainTime g.cls), move := none,
        counted := if g.state = .moving then g.width * weight (s.levels.effective g) else g.counted,
        news := g.news || news } }

/-- The records about an entry whose grant has been given up: those of the entry becoming FREE when it holds no grant any
more (R25), else as they were. -/
def RecordsAfter (s v : State) (i : Fin 64) : Prop :=
  let w := if v.grant? i = none then s.freeEntry i else s
  v.table.occupancy = w.table.occupancy ∧ v.table.counts = w.table.counts ∧ v.profiles = w.profiles ∧
    v.monitor = w.monitor ∧ v.table.planFrozen = s.table.planFrozen ∧ v.pool.startUp = s.pool.startUp

/-- How `v` differs from `s` when the grant of an entry has been given up (R57 to R66): by its state. -/
structure GivenUp (s v : State) (i : Fin 64) (g : Grant) (o : LastOutcome) (news cut : Bool) : Prop where
  reserved : g.state = .reserved → v.entry i = freedEntry (s.entry i) o ∧ SlotsKept s v []
  halted : Halts g cut →
    v.entry i = silencedEntry (s.entry i) g o s.plan.settings.quietInterval news ∧
      (SlotsDiffer g → OwnSlotHalted s v g ∧ SlotsKept s v (slotsOf g))
  drained : Drains g cut →
    v.entry i = drainingEntry s (s.entry i) g o news ∧
      (SlotsDiffer g →
        (∀ j, g.slot = some j → (s.slot j).state ≠ .retired →
          SlotSent s v j { s.slot j with state := .ramping } (.ramp (drainTime g.cls))) ∧
        SlotsKept s v (slotsOf g))
  second : Halts g cut ∨ Drains g cut → SlotsDiffer g →
    ∀ m k, g.move = some m → m.kind = .seamless → m.second = some k → (s.slot k).state ≠ .retired →
      SlotSent s v k { s.slot k with state := .idle, holder := none } .halt
  others : EntriesKept s v [i]
  records : RecordsAfter s v i
  plan : v.plan = s.plan
  levels : v.levels = s.levels
  engine : v.engine = s.engine
  summary : v.ports = s.ports

/-- What follows in the event in which a grant was given up: the load decrease, the fragmentation level when a held span
went, and the repack whose move was left (R126, R154, R159). -/
def aftermath (s v : State) (i : Fin 64) (g : Grant) : State :=
  let t := noteLoad s v
  let t := if g.move.isSome ∨ t.grant? i = none then t.refreshFrag g.band else t
  match g.move with
  | none => t
  | some m => t.repackAfter m.origin .left

/-- WITHDRAW and REVOKE give the named grant up: by its state it is FREE at once, halted into QUIET, or drained, and the
answer tells which; the protections refuse them first. What follows in the event follows in the order of log entry 8, and
the milliseconds of a lease that ends are dropped (log entry 4). A seamless mover's
second counting and what the drain or the cut then does to its load are one load decrease: the clamp is re-evaluated once,
after both, and a member of P that drains keeps the load of the trim that stood (log entry 26); for a priority frame,
besides the re-evaluation that the stop of a repack made before (log entry 29). -/
def Obligations.WithdrawAndRevokeGiveUp : Prop :=
  ∀ (s : State) (src : Source) (f : Frame),
    let u := s.taken src
    let r := requestOf src.port f
    ∀ i g, Names r u i g → u.MovesLawful →
      let givesUp := fun (row : Instr) (o : LastOutcome) (news cut : Bool) =>
        ∃ v, GivenUp u v i g o news cut ∧
          (Drains g cut → Does row s src f (aftermath u v i g) .accepted [6]) ∧
          (Halts g cut →
            Does row s src f (aftermath u v i g) .done [if u.plan.settings.quietInterval = 0 then 0 else 7]) ∧
          (g.state = .reserved → Does row s src f (aftermath u v i g) .done [0])
      (Takes s src f .withdraw → MayAct r u i →
        let gone := g.state = .draining ∨ g.state = .quiet
        (gone → Does .withdraw s src f u .badState []) ∧
        (¬gone → g.hold = .pinned → Does .withdraw s src f u .pinned []) ∧
        (¬gone → g.hold = .held → src.port = .tenant → Does .withdraw s src f u .held []) ∧
        (¬gone → g.hold ≠ .pinned → ¬(g.hold = .held ∧ src.port = .tenant) →
          givesUp .withdraw .withdrawn (decide (src.port = .management)) false)) ∧
      (Takes s src f .revoke → src.port = .management → ∀ cut : Bool, r.byte 2 = cut.toNat →
        let gone := g.state = .quiet ∨ (g.state = .draining ∧ cut = false)
        (gone → Does .revoke s src f u .badState []) ∧
        (¬gone → g.hold = .pinned → Does .revoke s src f u .pinned []) ∧
        (¬gone → g.hold ≠ .pinned → givesUp .revoke .revoked true cut))

/-- The hold timer, the lease, the drain interval and the quiet interval run out: the reservation lapses, the grant is
given up with LEASE_EXPIRED, the drained grant leaves its slot, the quiet one is FREE. What follows in the event follows
in the order of log entry 8, and the milliseconds of a lease that ends are dropped (log entry 4). A member of P drained out
of a seamless move keeps the load of the trim that stood, the clamp being re-evaluated once, after it (log entry 26). -/
def Obligations.GrantTimersRunOut : Prop :=
  ∀ (s : State) (i : Fin 64) (g : Grant), s.ports.resetHeld = false → s.grant? i = some g → s.MovesLawful →
    (g.state = .reserved → g.holdTime.isSome →
      ∃ v, exec (.holdTimerExpiry i) s = .next (v.refreshFrag g.band) ∧
        v.entry i = freedEntry (s.entry i) .lapsed ∧ EntriesKept s v [i] ∧ RecordsAfter s v i ∧ v.pool = s.pool ∧
        v.plan = s.plan ∧ v.levels = s.levels ∧ v.engine = s.engine ∧ v.ports = s.ports) ∧
    (g.state = .tuning ∨ g.state = .live ∨ g.state = .impaired ∨ g.state = .moving → g.lease.isSome →
      ∃ v, exec (.leaseExpiry i) s = .next ((aftermath s v i g).raise .leaseExpired) ∧
        GivenUp s v i g .expired true false) ∧
    (g.state = .draining →
      ∃ v, exec (.drainTimerExpiry i) s = .next (aftermath s v i g) ∧
        v.entry i =
          silencedEntry (s.entry i) g (s.entry i).lastOutcome s.plan.settings.quietInterval true ∧
        OwnSlotHalted s v g ∧ SlotsKept s v g.slot.toList ∧ EntriesKept s v [i] ∧ RecordsAfter s v i ∧
        v.plan = s.plan ∧ v.levels = s.levels ∧ v.engine = s.engine ∧ v.ports = s.ports) ∧
    (g.state = .quiet →
      ∃ v, exec (.quietTimerExpiry i) s = .next (v.refreshFrag g.band) ∧
        v.entry i = freedEntry (s.entry i) (s.entry i).lastOutcome ∧ EntriesKept s v [i] ∧ RecordsAfter s v i ∧
        v.pool = s.pool ∧ v.plan = s.plan ∧ v.levels = s.levels ∧ v.engine = s.engine ∧ v.ports = s.ports)

/-- An entry becoming FREE takes its item from the occupancy list, lowers its tenant's count and its profile's reference
count by 1, detaches every watch that names it, and changes no other entry. -/
def Obligations.FreedEntryLeavesEveryRecord : Prop :=
  ∀ (s : State) (i : Fin 64) (g : Grant), s.grant? i = some g →
    let e := s.entry i
    let h := s.handleOf i
    let t := s.freeEntry i
    t.entry i = { e with generation := e.generation + 1, grant := none } ∧ EntriesKept s t [i] ∧
    t.occupancy g.band = (s.occupancy g.band).filter (fun it => it.handle.entry != i) ∧
    (∀ b, b ≠ g.band → t.occupancy b = s.occupancy b) ∧
    (∀ k : Fin 15, t.table.counts[k] = if e.tenant.val = k.val + 1 then s.table.counts[k] - 1 else s.table.counts[k]) ∧
    (∀ k, t.profile k =
      if k = g.profile then { s.profile k with references := (s.profile k).references - 1 } else s.profile k) ∧
    (∀ n w, s.monitor.position n = .watch w →
      t.monitor.position n =
        .watch (if w.target = .grant h then { w with enabled := false, condition := false } else w)) ∧
    (∀ n, (∀ w, s.monitor.position n ≠ .watch w) → t.monitor.position n = s.monitor.position n) ∧
    (∀ x, s.monitor.inFlight = some x →
      t.monitor.inFlight = some (if x.handle = some h then { x with void := true } else x)) ∧
    t.plan = s.plan ∧ t.pool = s.pool ∧ t.levels = s.levels ∧ t.engine = s.engine ∧ t.ports = s.ports

/-! ### Freezes and repack (R84, R155 to R161) -/

/-- FREEZE_PLAN changes the switch and, when it freezes, stops a running repack; REPACK starts one unless the plan is
frozen or one runs; STOP_REPACK stops it. Each answers with what it found. -/
def Obligations.FreezePlanRepackAndStop : Prop :=
  ∀ (s : State) (src : Source) (f : Frame), src.port = .management →
    let u := s.taken src
    let r := requestOf src.port f
    let flag := fun b : Bool => if b then (1 : Byte) else 0
    (Takes s src f .freezePlan →
      (r.byte 0 = 1 → r.byte 1 = 0 →
        Does .freezePlan s src f { u with table := { u.table with planFrozen := true } }.stopRepack .done
          [flag u.table.planFrozen, flag u.engine.repack.running]) ∧
      (r.byte 0 = 0 → r.byte 1 = 1 →
        Does .freezePlan s src f { u with table := { u.table with planFrozen := false } } .done
          [flag u.table.planFrozen, 0]) ∧
      (r.byte 0 = r.byte 1 ∨ 2 ≤ r.byte 0 ∨ 2 ≤ r.byte 1 → Does .freezePlan s src f u .badParam [])) ∧
    (∀ b : Band, Takes s src f .repack → r.byte 0 = bandCode b →
      (u.table.planFrozen = true → Does .repack s src f u .frozen []) ∧
      (u.table.planFrozen = false → u.engine.repack.running = true → Does .repack s src f u .repackBusy []) ∧
      (u.table.planFrozen = false → u.engine.repack.running = false →
        let t := u.startRepack b
        Does .repack s src f t .accepted
          [byte (u.engine.frag.get b), flag t.engine.repack.running, byte (t.engine.repack.moves / 256),
            byte t.engine.repack.moves])) ∧
    (Takes s src f .stopRepack →
      let t := u.stopRepack
      Does .stopRepack s src f t .done
        [flag u.engine.repack.running, byte (t.engine.repack.moves / 256), byte t.engine.repack.moves])

/-- What a stop of a repack does: nothing when none runs; else the repack is IDLE with reason STOPPED and REPACK_END is
raised, and the grant of its move in flight stays on its old span (seamless) or falls back to RESERVED there (hard),
with MOVE_ABANDONED and news; the slot of its tuning, the second slot of a seamless move and the slot part of a hard one,
is sent HALT and is IDLE with no holder and its fail count as it was (R115, R150). -/
def RepackStopAbandonsItsMove : Prop :=
  ∀ s : State,
    (s.engine.repack.running = false → s.stopRepack = s) ∧
    (s.engine.repack.running = true →
      s.stopRepack.engine.repack = { s.engine.repack with running := false, reason := .stopped } ∧
      s.stopRepack.flagged .repackEnd = true ∧
      (s.repackMover = none → s.stopRepack.pool = s.pool ∧ s.stopRepack.table = s.table) ∧
      (∀ i g m, s.repackMover = some i → s.grant? i = some g → g.move = some m →
        (let tuned := if m.kind = .seamless then m.second else g.slot
         (∀ j, tuned = some j → (s.slot j).state ≠ .retired →
          SlotSent s s.stopRepack j { s.slot j with state := .idle, holder := none } .halt) ∧
          ∀ j, tuned ≠ some j → s.stopRepack.slot j = s.slot j) ∧
        (s.stopRepack.entry i).lastOutcome = .moveAbandoned ∧
        ∃ g', s.stopRepack.grant? i = some g' ∧ g'.start = g.start ∧ g'.move = none ∧ g'.news = true ∧
          (m.kind = .seamless → g'.state = (if g.impairing = 0 then .live else .impaired) ∧ g'.slot = g.slot) ∧
          (m.kind = .hard → g'.state = .reserved ∧ g'.slot = none ∧ g'.counted = 0 ∧
            g'.holdTime = (if g.hold = .pinned then none else some s.plan.settings.holdTime))))

/-- A repack step could lower the grant of an item to a start: the grant is OPEN or HELD, not fixed, RESERVED or LIVE; its
region is present and not frozen; and the start lies below its current start, within that region, and is legal (R157). -/
def StepsTo (s : State) (it : OccItem) (start : Nat) : Prop :=
  ∃ g k x, s.grant? it.handle.entry = some g ∧ g.hold ≠ .pinned ∧ g.fixed = false ∧
    (g.state = .reserved ∨ g.state = .live) ∧ s.plan.active.regionAt g.band g.start = some (k, x) ∧ x.frozen = false ∧
    x.first ≤ start ∧ start + g.width ≤ x.last + 1 ∧ start < g.start ∧ (s.moveSite g).test start = .legal

/-- The steps of a repack: the first item of the occupancy list whose grant is a candidate and can go lower is moved to its
lowest legal start; a RESERVED one at once, and the choice is made again; a LIVE one by a seamless move, or the repack
ends BLOCKED; with none it ends COMPLETE. -/
def RepackStepsInOrder : Prop :=
  ∀ (s : State) (b : Band) (n : Nat),
    (∀ i start, s.chooseStep b = some (i, start) ↔
      ∃ before it after, s.occupancy b = before ++ it :: after ∧ it.handle.entry = i ∧
        (∀ x ∈ before, ∀ n, ¬StepsTo s x n) ∧ StepsTo s it start ∧ ∀ n, n < start → ¬StepsTo s it n) ∧
    (s.chooseStep b = none ↔ ∀ it ∈ s.occupancy b, ∀ n, ¬StepsTo s it n) ∧
    (s.chooseStep b = none → s.repackSteps b (n + 1) = s.endRepack .complete) ∧
    (∀ i start g, s.chooseStep b = some (i, start) → s.grant? i = some g →
      (g.state = .reserved →
        s.repackSteps b (n + 1) = State.repackSteps b n (((s.moveReserved i start false).countMove).noteFrag b)) ∧
      (g.state ≠ .reserved →
        (∀ j, s.seamlessSlot g = some j →
          s.repackSteps b (n + 1) = (s.beginMove i start .seamless .repack j false).noteFrag b) ∧
        (s.seamlessSlot g = none → s.repackSteps b (n + 1) = s.endRepack .blocked))) ∧
    (∀ r : EndReason, (s.endRepack r).engine.repack = { s.engine.repack with running := false, reason := r } ∧
      (s.endRepack r).flagged .repackEnd = true ∧ (s.endRepack r).table = s.table ∧ (s.endRepack r).pool = s.pool)

/-- The move in flight of the repack is that of the first entry whose grant has a move of origin REPACK; there is none only
when no grant has one (R155, R161). -/
def RepackMoverFound : Prop :=
  ∀ s : State,
    let moves := fun i : Fin 64 => ∃ g m, s.grant? i = some g ∧ g.move = some m ∧ m.origin = .repack
    (∀ i, s.repackMover = some i ↔ moves i ∧ ∀ k, k < i → ¬moves k) ∧ (s.repackMover = none ↔ ∀ i, ¬moves i)

/-- The slot that a seamless move would take: the one selected with no reserve left, when the load of the grant counted once
more is within the budgets; none when either fails (R125, R138, R158). -/
def SeamlessSlotFound : Prop :=
  ∀ (s : State) (g : Grant),
    (∀ j, s.seamlessSlot g = some j ↔
      WithinBudget s (s.loadWith g.band g.counted) ∧ s.selectSlot g.band 0 none = some j) ∧
    (s.seamlessSlot g = none ↔
      ¬WithinBudget s (s.loadWith g.band g.counted) ∨ s.selectSlot g.band 0 none = none)

/-- How a repack is started, counted and continued: RUNNING with the band set and no moves completed, the first steps
chosen at once; a move completed counted, up to 65535; and what it does when its move has ended: on its target one more and
the next steps, failed BLOCKED, left the next steps. (That as many steps are allowed as the sum of the starts of the band's
items and one: log entry 22.) -/
def RepackStartedAndContinued : Prop :=
  ∀ (s : State) (b : Band),
    let enough := fun b : Band => ((s.occupancy b).map (·.start)).sum + 1
    s.startRepack b =
      State.repackSteps b (enough b)
        { s with
          engine :=
            { s.engine with repack := { s.engine.repack with running := true, band := some b, moves := 0 } } } ∧
    (s.engine.repack.band = some b → s.continueRepack = s.repackSteps b (enough b)) ∧
    s.countMove =
      { s with
        engine :=
          { s.engine with repack := { s.engine.repack with moves := min (s.engine.repack.moves + 1) 65535 } } } ∧
    (∀ (origin : MoveOrigin) (how : MoveEnd),
      let mine := origin = .repack ∧ s.engine.repack.running = true
      (¬mine → s.repackAfter origin how = s) ∧
      (mine → how = .onTarget → s.repackAfter origin how = s.countMove.continueRepack) ∧
      (mine → how = .failed → s.repackAfter origin how = s.endRepack .blocked) ∧
      (mine → how = .left → s.repackAfter origin how = s.continueRepack))

/-- What the two kinds of repack step do to the grant they move: a RESERVED one is moved at once, with news; a LIVE one
starts a seamless move of origin REPACK, with news. Each is followed by the recompute of the band's level. -/
def RepackStepsMove : Prop :=
  ∀ (s : State) (b : Band) (i : Fin 64) (g : Grant) (start : Nat), s.grant? i = some g →
    MovedAtOnce s (s.moveReserved i start false) i g start true ∧
    (∀ j, (s.slot j).state ≠ .retired →
      MoveStarted s (s.beginMove i start .seamless .repack j false) i g
        { target := start, kind := .seamless, origin := .repack, phase := .targetTuning, second := some j } j true) ∧
    (let v : State := { s with engine := { s.engine with frag := s.engine.frag.put b (s.fragOf b) } }
     s.noteFrag b = if s.fragOf b = 3 ∧ s.engine.frag.get b ≠ 3 then v.raise .fragUrgent else v)

/-- The start, the steps, the continuation and the stop of a repack. -/
def Obligations.RepackStepsAndStop : Prop :=
  RepackStepsInOrder ∧ RepackStopAbandonsItsMove ∧ RepackStartedAndContinued ∧ RepackStepsMove ∧ RepackMoverFound ∧
    SeamlessSlotFound

/-! ### Profiles and slots (R90 to R97, R103 to R118) -/

/-- WRITE_PROFILE replaces a record that no grant refers to and settles it for 10 ms, CLEAR_PROFILE makes it UNDEFINED,
READ_PROFILE returns it, and the settle timer makes it READY; a settle expiry on a profile that is not SETTLING leaves the
state as it was (log entry 7). -/
def ProfileRequestsAndSettling : Prop :=
  (∀ (s : State) (src : Source) (f : Frame), src.port = .management →
    let u := s.taken src
    let r := requestOf src.port f
    ∀ k : Fin 8, r.byte 0 = k.val →
      let p := u.profile k
      (∀ o : ModOrder, Takes s src f .writeProfile → r.byte 1 = o.code → (r.byte 2 = 1 ∨ r.byte 2 = 2) → r.byte 3 ≤ 4 →
        1 ≤ r.byte 4 → r.byte 4 ≤ 7 →
        (p.references ≠ 0 → Does .writeProfile s src f u .inUse [byte p.references]) ∧
        (p.references = 0 →
          Does .writeProfile s src f
            (u.setProfile k
              { state := .settling, order := o, expansion := r.byte 2, edgeGuard := r.byte 3,
                classes := BitVec.ofNat 3 (r.byte 4), references := 0, settle := some 10,
                settleDue := false })
            .done [byte p.state.code])) ∧
      (Takes s src f .clearProfile →
        (p.references ≠ 0 → Does .clearProfile s src f u .inUse [byte p.references]) ∧
        (p.references = 0 →
          ∃ q : Profile, q.state = .undefined ∧ q.references = 0 ∧ q.settle = none ∧ q.settleDue = false ∧
            Does .clearProfile s src f (u.setProfile k q) .done [byte p.state.code])) ∧
      (Takes s src f .readProfile →
        (p.state = .undefined →
          Does .readProfile s src f u .done [0, 0, 0, 0, 0, byte p.references, byte (p.settle.getD 0)]) ∧
        (p.state ≠ .undefined →
          Does .readProfile s src f u .done
            [byte p.state.code, byte p.order.code, byte p.expansion, byte p.edgeGuard, byte p.classes.toNat,
              byte p.references, byte (p.settle.getD 0)]))) ∧
  (∀ (s : State) (k : Fin 8), s.ports.resetHeld = false →
    ((s.profile k).state = .settling →
      exec (.settleTimerExpiry k) s =
        .next (s.setProfile k { s.profile k with state := .ready, settle := none, settleDue := false })) ∧
    ((s.profile k).state ≠ .settling → exec (.settleTimerExpiry k) s = .next s))

/-- The codes of profile states and modulation orders (R93). -/
def ProfileCodes : Prop :=
  ([.undefined, .settling, .ready] : List ProfileState).map ProfileState.code = [0, 1, 2] ∧
    ([.qpsk, .qam16, .qam64, .qam256, .qam1024, .qam4096] : List ModOrder).map ModOrder.code = [0, 1, 2, 3, 4, 5]

/-- The requests on profiles, the settle timer, and the codes of profile fields. (A settle expiry not due: log entry 7.) -/
def Obligations.ProfilesWrittenClearedReadSettled : Prop := ProfileRequestsAndSettling ∧ ProfileCodes

/-- READ_SLOT returns the eight bytes of one slot record and changes nothing; a slot that does not exist is refused
BAD_PARAM, the tenant port NOT_PERMITTED. -/
def Obligations.ReadSlotReturnsRecord : Prop :=
  ∀ (s : State) (src : Source) (f : Frame), Takes s src f .readSlot →
    let u := s.taken src
    let r := requestOf src.port f
    ((∀ j, ¬(r.byte 0 = bandCode (slotBand j) ∧ r.byte 1 = slotNumber j)) → Does .readSlot s src f u .badParam []) ∧
    (∀ j, r.byte 0 = bandCode (slotBand j) → r.byte 1 = slotNumber j →
      (src.port = .tenant → Does .readSlot s src f u .notPermitted []) ∧
      (src.port = .management →
        Does .readSlot s src f u .done
          ([match (u.slot j).state with
            | .idle => 0
            | .tuning _ => 1
            | .carrying => 2
            | .ramping => 3
            | .retired => 4,
            byte (u.slot j).fails,
            (u.slot j).holder.elim 255 fun h => byte h.entry.val,
            (u.slot j).holder.elim 255 fun h => h.generation]
            ++ (match (u.slot j).state with
              | .tuning a =>
                [match a.caller with
                  | .activation => 0
                  | .relock => 1
                  | .moveTarget => 2
                  | .fallback => 3
                  | .test => 4,
                  if a.second then 2 else 1, byte a.timeout]
              | _ => [255, 0, 0])
            ++ [0])))

/-- A slot is selected when more slots of the band are IDLE than must stay so: the one with the lowest fail count, the
lowest number among equals. -/
def SlotSelected : Prop :=
  ∀ (s : State) (b : Band) (reserve : Nat) (leftOut : Option SlotId),
    let idle := fun j : SlotId => slotBand j = b ∧ (s.slot j).state = .idle ∧ some j ≠ leftOut
    let count := ((List.finRange 48).filter fun j => decide (idle j)).length
    (s.selectSlot b reserve leftOut = none ↔ count ≤ reserve) ∧
    ∀ j, s.selectSlot b reserve leftOut = some j ↔
      (reserve < count ∧ idle j ∧
        ∀ k, idle k → (s.slot j).fails < (s.slot k).fails ∨ ((s.slot j).fails = (s.slot k).fails ∧ j ≤ k))

/-- The slots by band and number: U0 to U15 and D0 to D31, each once (R103). -/
def SlotsNumbered : Prop :=
  (∀ (b : Band) (n : Nat),
    (∃ j, slotBand j = b ∧ slotNumber j = n) ↔ (b = .up ∧ n < 16) ∨ (b = .down ∧ n < 32)) ∧
  ∀ j k, slotBand j = slotBand k → slotNumber j = slotNumber k → j = k

/-- How a slot is selected, and what the slots are. -/
def Obligations.SelectionTakesFewestFails : Prop := SlotSelected ∧ SlotsNumbered

/-- The slot an attempt failed on in `t`: its fail count is one higher and HALT was sent; it is IDLE, or RETIRED at 3. -/
def SlotFailed (s t : State) (j : SlotId) : Prop :=
  SlotSent s t j
    { state := if (s.slot j).fails + 1 < 3 then .idle else .retired, fails := (s.slot j).fails + 1, holder := none }
    .halt

/-- The ports after a failure or a loss on slot `j`: SLOT_RETIRED is raised when the fail count reaches 3, and nothing else
changes (R113). -/
def RetirementFlagged (s v : State) (j : SlotId) : Prop :=
  v.ports = if (s.slot j).fails + 1 < 3 then s.ports else (s.raise .slotRetired).ports

/-- How the first attempt of a tuning that has failed on slot `j` at `v` goes on: a second attempt begins on the slot
selected, the failed one left out, the band's move reserve honoured for an activation or a relock and not for a move
(R107, R108, R112), and the field that named the failed slot names it; with no slot the tuning fails. -/
structure RetrySought (v t : State) (i : Fin 64) (g : Grant) (c : Caller) (j : SlotId) : Prop where
  without : v.selectSlot g.band (if c = .activation ∨ c = .relock then v.plan.settings.reserve.get g.band else 0)
      (some j) = none → t = v.tuningFails i c
  selected : ∀ k, v.selectSlot g.band (if c = .activation ∨ c = .relock then v.plan.settings.reserve.get g.band else 0)
      (some j) = some k →
    SlotSent v t k
      { v.slot k with
        state := .tuning { caller := c, second := true, timeout := 20 }, holder := some (v.handleOf i) }
      (.tune g.band (if c = .moveTarget then g.move.elim g.start (·.target) else g.start) g.width
        (v.profile g.profile).order (v.levels.effective g)) ∧
    SlotsKept v t [k] ∧
    t.grant? i = some
      (if c = .moveTarget ∧ g.move.any (fun m => m.kind == .seamless) = true then
        { g with move := g.move.map fun m => { m with second := some k } }
      else { g with slot := some k }) ∧
    EntriesKept v t [i] ∧ SurroundingsKept v t ∧ t.ports = v.ports

/-- Start-up ends, and READY is raised, exactly when it lasts and no slot is under test any more (R117). -/
def StartUpEnds : Prop :=
  ∀ s : State,
    let last := s.pool.startUp = true ∧ ∀ j a, (s.slot j).state = .tuning a → a.caller ≠ .test
    (last → s.endStartUp = State.raise { s with pool := { s.pool with startUp := false } } .ready) ∧
    (¬last → s.endStartUp = s)

/-- FAILED, LOST and the lock timeout end an attempt alike; each is ignored by a slot without one, but LOST on a CARRYING
slot (a lock timeout there: log entry 7). A failed start-up test retires its slot; the first failed attempt of a tuning is
followed by a second on the slot selected, and without one the tuning fails. -/
def FailedAttempts : Prop :=
  ∀ (s : State) (j : SlotId), s.ports.resetHeld = false →
    let b := slotBand j
    let n := slotNumber j
    ((∀ a, (s.slot j).state ≠ .tuning a) → exec (.failed b n) s = .next s ∧ exec (.lockTimeout b n) s = .next s ∧
      ((s.slot j).state ≠ .carrying → exec (.lost b n) s = .next s)) ∧
    (∀ a, (s.slot j).state = .tuning a →
      exec (.lockTimeout b n) s = exec (.failed b n) s ∧ exec (.lost b n) s = exec (.failed b n) s ∧
      (a.caller = .test →
        ∃ v, exec (.failed b n) s = .next v.endStartUp ∧
          SlotSent s v j { state := .retired, fails := 3, holder := none } .halt ∧ SlotsKept s v [j] ∧
          v.ports = (s.raise .slotRetired).ports ∧ v.table = s.table ∧ SurroundingsKept s v) ∧
      (∀ h g, a.caller ≠ .test → (s.slot j).holder = some h → s.grantOf h = some g →
        (if a.caller = .activation ∨ a.caller = .relock then g.state = .tuning else g.move.isSome = true) →
        ∃ v, SlotFailed s v j ∧ SlotsKept s v [j] ∧ v.table = s.table ∧ SurroundingsKept s v ∧ RetirementFlagged s v j ∧
          (a.second = true → exec (.failed b n) s = .next (v.tuningFails h.entry a.caller)) ∧
          (a.second = false → ∃ t, exec (.failed b n) s = .next t ∧ RetrySought v t h.entry g a.caller j)))

/-- All but one entry is as it was, and the slots. -/
def OnlyEntry (s v : State) (i : Fin 64) : Prop :=
  EntriesKept s v [i] ∧ v.pool = s.pool ∧ v.ports = s.ports ∧ SurroundingsKept s v

/-- What the failure of a tuning does to its grant: an activation or a relock leaves it RESERVED (ACTIVATE_FAILED after an
activation); a seamless move stays on its old span and a fallback falls to RESERVED, with MOVE_FAILED; a hard move turns to
its fallback. Nothing else changes before the re-evaluation of the clamp at the load decrease (R126, R134). The load
decrease, the fragmentation level and the repack follow in the order of log entry 8; the milliseconds of a lease that stops
are dropped (log entry 4). -/
def TuningFailureReachesItsGrant : Prop :=
  ∀ (s : State) (i : Fin 64) (g : Grant), s.grant? i = some g →
    let hold := if g.hold = .pinned then none else some s.plan.settings.holdTime
    let fallen : Grant :=
      { g with
        state := .reserved, slot := none, move := none, leaseMs := 0, holdTime := hold, holdMs := 0,
        phaseTimer := none, counted := 0, news := true }
    (∃ v : State, s.tuningFails i .activation = noteLoad s v ∧
      v.entry i = { s.entry i with lastOutcome := .activateFailed, grant := some fallen } ∧ OnlyEntry s v i) ∧
    (∃ v : State, s.tuningFails i .relock = noteLoad s v ∧
      v.entry i = { s.entry i with grant := some fallen } ∧ OnlyEntry s v i) ∧
    (∀ m, g.move = some m →
      (m.kind = .seamless →
        ∃ v : State, s.tuningFails i .moveTarget = ((noteLoad s v).refreshFrag g.band).repackAfter m.origin .failed ∧
          v.entry i =
            { s.entry i with
              lastOutcome := .moveFailed
              grant := some
                { g with
                  state := if g.impairing = 0 then .live else .impaired
                  move := none, news := true, counted := g.width * weight (s.levels.effective g) } } ∧
          OnlyEntry s v i) ∧
      (m.kind = .hard →
        let v := s.modGrant i fun g => { g with move := some { m with phase := .fallbackTuning } }
        (v.selectSlot g.band 0 none = none → s.tuningFails i .moveTarget = v.tuningFails i .fallback) ∧
        (∀ k, v.selectSlot g.band 0 none = some k →
          ∃ t, s.tuningFails i .moveTarget = t ∧
            t.entry i =
              { s.entry i with
                grant := some { g with slot := some k, move := some { m with phase := .fallbackTuning } } } ∧
            SlotSent s t k
              { s.slot k with
                state := .tuning { caller := .fallback, second := false, timeout := 20 }
                holder := some (s.handleOf i) }
              (.tune g.band g.start g.width (s.profile g.profile).order (s.levels.effective g)) ∧
            SlotsKept s t [k] ∧ EntriesKept s t [i] ∧ SurroundingsKept s t ∧ t.ports = s.ports)) ∧
      ∃ v : State, s.tuningFails i .fallback = ((noteLoad s v).refreshFrag g.band).repackAfter m.origin .failed ∧
        v.entry i = { s.entry i with lastOutcome := .moveFailed, grant := some fallen } ∧ OnlyEntry s v i)

/-- How an attempt fails, and what the failure of its tuning does; when start-up ends. (Log entries 4, 7 and 8, as their
parts say.) -/
def Obligations.FailedAttemptsAndTunings : Prop := FailedAttempts ∧ TuningFailureReachesItsGrant ∧ StartUpEnds

/-- LOCKED ends the attempt in success, the slot CARRYING with fail count 0: an activated or relocked grant carries, with
ACTIVATED; a move arrives on its target span, with MOVED and the hand-over of R149; a fallback ends on the old span, with
MOVE_FAILED; a start-up test passes. A slot without an attempt ignores it. The load decrease, the fragmentation level and
the repack follow in the order of log entry 8. -/
def LockedEndsAttempt : Prop :=
  ∀ (s : State) (j : SlotId), s.ports.resetHeld = false →
    let locked := exec (.locked (slotBand j) (slotNumber j)) s
    let carrying : Slot := { s.slot j with state := .carrying, fails := 0 }
    ((∀ a, (s.slot j).state ≠ .tuning a) → locked = .next s) ∧
    (∀ a, (s.slot j).state = .tuning a →
      (a.caller = .test →
        locked = .next (s.setSlot j { state := .idle, fails := 0, holder := none }).endStartUp) ∧
      (∀ h g, (s.slot j).holder = some h → s.grantOf h = some g →
        let e := s.entry h.entry
        let carried := fun k : GrantState => if g.impairing = 0 then .live else k
        (a.caller = .activation ∨ a.caller = .relock → g.state = .tuning →
          ∃ t, locked = .next t ∧
            t.entry h.entry =
              { e with
                lastOutcome := .activated
                grant := some
                  { g with state := carried .impaired, slot := some j, phaseTimer := none, news := true } } ∧
            t.slot j = carrying ∧ t.pool.sent = s.pool.sent ∧ EntriesKept s t [h.entry] ∧ SlotsKept s t [j] ∧
            SurroundingsKept s t ∧ t.ports = s.ports) ∧
        (∀ m, g.move = some m →
          (a.caller = .moveTarget →
            ∃ v, locked = .next (((noteLoad (s.setSlot j carrying) v).refreshFrag g.band).repackAfter m.origin
                .onTarget) ∧
              v.entry h.entry =
                { e with
                  lastOutcome := .moved
                  grant := some
                    { g with
                      state := .live, slot := some j, move := none, start := m.target, impairing := 0,
                      counted := g.width * weight (s.levels.effective g), news := true } } ∧
              v.occupancy g.band =
                insertItem { handle := h, start := m.target, width := g.width }
                  (removeItem h.entry (s.occupancy g.band)) ∧
              (∀ b, b ≠ g.band → v.occupancy b = s.occupancy b) ∧ SpanHandedOver s v h ∧
              (m.kind = .seamless → g.slot ≠ some j → OwnSlotHalted s v g) ∧
              (g.slot ≠ some j ∨ m.kind = .hard → v.slot j = carrying ∧ v.pool.sent[j] = s.pool.sent[j]) ∧
              SlotsKept s v (j :: g.slot.toList) ∧ (m.kind = .hard → SlotsKept s v [j]) ∧ EntriesKept s v [h.entry] ∧
              v.ports = s.ports ∧ v.plan = s.plan ∧ v.levels = s.levels ∧ v.profiles = s.profiles ∧
              v.table.counts = s.table.counts ∧ v.table.planFrozen = s.table.planFrozen ∧
              v.pool.startUp = s.pool.startUp ∧ v.pending = s.pending ∧ v.freeCount = s.freeCount) ∧
          (a.caller = .fallback →
            ∃ v, locked = .next (((noteLoad (s.setSlot j carrying) v).refreshFrag g.band).repackAfter m.origin
                .failed) ∧
              v.entry h.entry =
                { e with
                  lastOutcome := .moveFailed
                  grant := some
                    { g with
                      state := carried .impaired, slot := some j, move := none,
                      counted := g.width * weight (s.levels.effective g), news := true } } ∧
              v.slot j = carrying ∧ v.pool.sent = s.pool.sent ∧ SlotsKept s v [j] ∧ EntriesKept s v [h.entry] ∧
              SurroundingsKept s v ∧ v.ports = s.ports))))

/-- LOST on a CARRYING slot: a LIVE or IMPAIRED grant is TUNING with LOST, news and CARRIER_LOST, and is tuned again on the
same slot, or elsewhere when the loss retires it, with SLOT_RETIRED, which counts as the first attempt failed; the own slot
of a seamless mover is given up, with SLOT_RETIRED at fail count 3, and its move becomes HARD, the load decrease being noted
(R113, R126, R145). Nothing else changes. The phase timer part of a TUNING grant is its slot's lock timeout (log entry 18). -/
def LostOnCarryingSlot : Prop :=
  ∀ (s : State) (j : SlotId) (h : Handle) (g : Grant), s.ports.resetHeld = false → (s.slot j).state = .carrying →
    (s.slot j).holder = some h → s.grantOf h = some g →
    let lost := exec (.lost (slotBand j) (slotNumber j)) s
    let e := s.entry h.entry
    (g.state = .live ∨ g.state = .impaired →
      let tuning : Grant := { g with state := .tuning, news := true }
      let entry : Entry := { e with lastOutcome := .lost, grant := some tuning }
      ((s.slot j).fails < 2 →
        ∃ t, lost = .next t ∧ t.entry h.entry = entry ∧ t.ports = (s.raise .carrierLost).ports ∧
          SlotSent s t j
            { state := .tuning { caller := .relock, second := false, timeout := 20 }, fails := (s.slot j).fails + 1,
              holder := some h }
            (.tune g.band g.start g.width (s.profile g.profile).order (s.levels.effective g)) ∧
          EntriesKept s t [h.entry] ∧ SlotsKept s t [j] ∧ SurroundingsKept s t) ∧
      (2 ≤ (s.slot j).fails →
        ∃ v t, lost = .next t ∧ RetrySought v t h.entry tuning .relock j ∧ v.entry h.entry = entry ∧
          v.ports = ((s.raise .slotRetired).raise .carrierLost).ports ∧ SlotFailed s v j ∧
          EntriesKept s v [h.entry] ∧ SlotsKept s v [j] ∧ SurroundingsKept s v)) ∧
    (∀ m, g.state = .moving → g.move = some m → m.kind = .seamless → g.slot = some j →
      ∃ v, lost = .next ((noteLoad s v).raise .carrierLost) ∧ SlotFailed s v j ∧
        v.entry h.entry =
          { e with
            grant := some
              { g with
                slot := m.second, move := some { m with kind := .hard, second := none }
                counted := g.width * weight (s.levels.effective g) } } ∧
        EntriesKept s v [h.entry] ∧ SlotsKept s v [j] ∧ SurroundingsKept s v ∧ RetirementFlagged s v j)

/-- How an attempt succeeds, and what a loss of lock does. (Log entries 8 and 18, as their parts say.) -/
def Obligations.LockedAndLost : Prop := LockedEndsAttempt ∧ LostOnCarryingSlot

/-! ### Levels and the load budget (R120 to R136) -/

/-- The effective level under no group, under G1 to G3 in either mode, and under P; and the weight of a level. -/
def LevelsAndWeights : Prop :=
  (∀ e : Nat, weight e = 1 + e / 64) ∧
  ∀ (u : LevelUnit) (g : Grant),
    let under := fun x : GroupRecord =>
      (x.mode = .ratio → u.effective g = g.level.toNat - (255 - x.trim.toNat)) ∧
      (x.mode = .cap → u.effective g = min g.level.toNat x.trim.toNat)
    (g.group = .none → u.effective g = g.level.toNat) ∧ (g.group = .g1 → under u.g1) ∧ (g.group = .g2 → under u.g2) ∧
      (g.group = .g3 → under u.g3) ∧
      (g.group = .pilot → u.effective g = g.level.toNat - (255 - u.pilot.applied.toNat)) ∧
      u.effective g ≤ 255 ∧ 1 ≤ weight (u.effective g) ∧ weight (u.effective g) ≤ 4

/-- A sum over the grants of a band. -/
def sumOver (s : State) (b : Band) (f : Grant → Nat) : Nat :=
  ((List.finRange 64).map fun i => (s.grant? i).elim 0 fun g => if g.band = b then f g else 0).sum

/-- A band's load is the sum of the counted loads of its grants; the states whose load follows the level; how often it counts;
and when both bands fit at an applied trim (R123, R125, R133). -/
def LoadsCounted : Prop :=
  ∀ s : State,
    (∀ b, s.bandLoad b = sumOver s b fun g => g.counted) ∧
    (∀ b b' extra, s.loadWith b extra b' = if b' = b then s.bandLoad b' + extra else s.bandLoad b') ∧
    (∀ x : GrantState, x.follows = true ↔ x = .tuning ∨ x = .live ∨ x = .impaired ∨ x = .moving) ∧
    (∀ g : Grant, g.copies = if (g.move.any fun m => m.kind = .seamless) = true then 2 else 1) ∧
    (∀ t : Byte, s.fitsAt t = true ↔ ∀ b,
      sumOver s b (fun g =>
        if g.group = .pilot ∧ g.state.follows = true then
          g.copies * (g.width * weight (g.level.toNat - (255 - t.toNat)))
        else g.counted) ≤ s.budget b)

/-- Effective levels, weights, and the loads they make. -/
def Obligations.EffectiveLevelAndWeight : Prop := LevelsAndWeights ∧ LoadsCounted

/-- SET_LEVEL, ASSIGN_GROUP and SET_GROUP: the change is checked against the budgets as a whole, refused BUDGET with no
effect when it does not fit, and otherwise made with all that follows from it. Where the re-evaluated clamp changes the level
of the same grant again, its slots get both LEVELs in the event (log entry 25); the stop of a repack by a priority frame has
made its own re-evaluation before (log entry 29). -/
def Obligations.LevelChangesCheckedAndMade : Prop :=
  ∀ (s : State) (src : Source) (f : Frame),
    let u := s.taken src
    let r := requestOf src.port f
    let change := fun (row : Instr) (i : Fin 64) (g : Grant) (ask : Grant → Grant) =>
      ∃ v, Releveled u u.levels (fun k x => if k = i then ask x else x) v ∧
        (∀ payload, g.state.follows = true → BudgetRefusal u v.bandLoad payload →
          Does row s src f u .budget payload) ∧
        (g.state.follows = false ∨ WithinBudget u v.bandLoad →
          let t := noteLoad u v
          ∃ g', t.grant? i = some g' ∧
            Does row s src f t .done
              [byte (t.levels.effective g'), byte (t.bandLoad g.band / 256), byte (t.bandLoad g.band)])
    (∀ i g, Takes s src f .setLevel → Names r u i g → MayAct r u i →
      (g.hold = .pinned → src.port = .tenant → Does .setLevel s src f u .pinned []) ∧
      (g.hold ≠ .pinned ∨ src.port = .management →
        change .setLevel i g fun x => { x with level := r.params.getD 2 0 })) ∧
    (∀ i g (group : Group), Takes s src f .assignGroup → src.port = .management → Names r u i g →
      r.byte 2 = group.code → change .assignGroup i g fun x => { x with group }) ∧
    (∀ mode : GroupMode, Takes s src f .setGroup → src.port = .management → 1 ≤ r.byte 0 → r.byte 0 ≤ 3 →
      r.byte 2 = (if mode = .ratio then 0 else 1) →
      let x : GroupRecord := { trim := r.params.getD 1 0, mode }
      let levels : LevelUnit :=
        if r.byte 0 = 1 then { u.levels with g1 := x }
        else if r.byte 0 = 2 then { u.levels with g2 := x }
        else { u.levels with g3 := x }
      ∃ v, Releveled u levels (fun _ g => g) v ∧
        (∀ payload, BudgetRefusal u v.bandLoad payload → Does .setGroup s src f u .budget payload) ∧
        (WithinBudget u v.bandLoad →
          let t := noteLoad u v
          Does .setGroup s src f t .done
            [byte (t.bandLoad .up / 256), byte (t.bandLoad .up), byte (t.bandLoad .down / 256),
              byte (t.bandLoad .down)]))

/-- SET_BUDGET replaces one budget, is refused BUDGET below the band's load, and when it raises the budget is a load
decrease, re-evaluated besides that of a repack stopped by a priority frame (log entry 29); READ_LEVELS returns the level
unit as it stands. -/
def Obligations.BudgetSetAndLevelsRead : Prop :=
  ∀ (s : State) (src : Source) (f : Frame), src.port = .management →
    let u := s.taken src
    let r := requestOf src.port f
    let mode := fun x : GroupRecord => if x.mode = .ratio then (0 : Byte) else 1
    (∀ b : Band, Takes s src f .setBudget → r.byte 0 = bandCode b →
      let n := r.word 1
      let budget : PerBand Nat :=
        match b with
        | .up => { u.levels.budget with up := n }
        | .down => { u.levels.budget with down := n }
      let v : State := { u with levels := { u.levels with budget } }
      (n < u.bandLoad b →
        Does .setBudget s src f u .budget
          [byte (bandCode b), byte (u.bandLoad b / 256), byte (u.bandLoad b), byte (n / 256), byte n]) ∧
      (u.bandLoad b ≤ n → n ≤ u.budget b → Does .setBudget s src f v .done []) ∧
      (u.bandLoad b ≤ n → u.budget b < n → Does .setBudget s src f v.loadDecreased .done [])) ∧
    (Takes s src f .readLevels →
      Does .readLevels s src f u .done
        [u.levels.g1.trim, mode u.levels.g1, u.levels.g2.trim, mode u.levels.g2, u.levels.g3.trim,
          mode u.levels.g3, u.levels.pilot.reading, u.levels.pilot.applied,
          if u.levels.pilot.clamped then 1 else 0, byte (u.bandLoad .up / 256), byte (u.bandLoad .up),
          byte (u.budget .up / 256), byte (u.budget .up), byte (u.bandLoad .down / 256), byte (u.bandLoad .down),
          byte (u.budget .down / 256), byte (u.budget .down)])

/-- The trim found for the last reading is the largest not above it at which both bands fit, or 0; it is applied with all
that follows for the members of P; a pilot reading is recorded and raises PILOT_CLAMP when the trim stands below it; and a
load decrease finds the trim again while the clamped flag is set. -/
def Obligations.PilotTrimIsLargestThatFits : Prop :=
  (∀ s : State, ∃ a : Byte,
    let p := s.levels.pilot.reading
    a ≤ p ∧ (a = 0 ∨ s.fitsAt a = true) ∧ (∀ x : Byte, a < x → x ≤ p → s.fitsAt x = false) ∧
    Releveled s { s.levels with pilot := { reading := p, applied := a, clamped := decide (a < p) } } (fun _ g => g)
      s.trackPilot) ∧
  (∀ (s : State) (p : Byte), s.ports.resetHeld = false →
    let v := State.trackPilot { s with levels := { s.levels with pilot := { s.levels.pilot with reading := p } } }
    (v.levels.pilot.clamped = false → exec (.pilotReading p) s = .next v) ∧
    (v.levels.pilot.clamped = true → exec (.pilotReading p) s = .next (v.raise .pilotClamp))) ∧
  (∀ s : State, s.loadDecreased = if s.levels.pilot.clamped then s.trackPilot else s) ∧
  (∀ old new : State,
    ((∃ b, new.bandLoad b < old.bandLoad b) → noteLoad old new = new.loadDecreased) ∧
    ((∀ b, old.bandLoad b ≤ new.bandLoad b) → noteLoad old new = new))

/-! ### Moves (R137 to R154) -/

/-- The target start of a MOVE that passes steps 12 and 13: the start it names, in a region allowing the class and legal;
or for AUTO the lowest legal start over the unfrozen candidate regions. -/
def MovesTo (u : State) (r : Req) (g : Grant) (start : Nat) : Prop :=
  (r.byte 2 = 0 ∧ r.word 3 = start ∧ grantable start = true ∧
    u.plan.active.allowsSpan g.band start g.width g.cls = true ∧ (u.moveSite g).test start = .legal) ∨
  (r.byte 2 = 1 ∧ u.autoTarget g = some start)

/-- Step 9 of a MOVE finds nothing frozen. -/
def NothingFrozen (u : State) (r : Req) (g : Grant) : Prop :=
  u.table.planFrozen = false ∧ u.plan.active.frozenAt g.band g.start = false ∧
    (r.byte 2 = 0 → u.plan.active.frozenAt g.band (r.word 3) = false) ∧
    (r.byte 2 = 1 → u.allCandidatesFrozen g = false)

/-- MOVE of a RESERVED grant puts it on its target at once, with the hand-over of R149; of a LIVE or IMPAIRED one it starts
a seamless move on a second slot, with its load counted twice, or a hard one on the grant's own slot; ANY is hard when the
budget or the slots rule a seamless one out. -/
def MoveCarriedOut : Prop :=
  ∀ (s : State) (src : Source) (f : Frame), Takes s src f .move →
    let u := s.taken src
    let r := requestOf src.port f
    ∀ i g start, Names r u i g → MayAct r u i → g.hold ≠ .pinned → ¬(g.hold = .held ∧ src.port = .tenant) →
      1 ≤ g.width → NothingFrozen u r g → MovesTo u r g start → r.byte 5 ≤ 2 →
      let mine := decide (src.port = .management)
      let load := u.loadWith g.band g.counted
      let free := u.selectSlot g.band 0 none
      let context := fun kind second =>
        ({ target := start, kind, origin := .request, phase := .targetTuning, second } : MoveContext)
      (g.state = .reserved →
        ∃ v, Does .move s src f (v.refreshFrag g.band) .done [1, 255, byte (start / 256), byte start, 255] ∧
          MovedAtOnce u v i g start mine) ∧
      (g.state = .live ∨ g.state = .impaired →
        (r.byte 5 = 0 → ∀ payload, BudgetRefusal u load payload → Does .move s src f u .budget payload) ∧
        (r.byte 5 = 0 → WithinBudget u load → free = none → Does .move s src f u .noSlot []) ∧
        (r.byte 5 = 0 ∨ r.byte 5 = 2 → WithinBudget u load → ∀ j, free = some j →
          ∃ v, Does .move s src f (v.refreshFrag g.band) .accepted
              [5, 0, byte (start / 256), byte start, byte (slotNumber j)] ∧
            MoveStarted u v i g (context .seamless (some j)) j mine) ∧
        (r.byte 5 = 1 ∨ (r.byte 5 = 2 ∧ (¬WithinBudget u load ∨ free = none)) → ∀ j, g.slot = some j →
          (u.slot j).state ≠ .retired →
          ∃ v, Does .move s src f (v.refreshFrag g.band) .accepted
              [5, 1, byte (start / 256), byte start, byte (slotNumber j)] ∧
            MoveStarted u v i g (context .hard none) j mine))

/-- An AUTO target could be this start: within an unfrozen present region of the grant's band whose class set holds its
class, and legal (R139). -/
def TargetAt (s : State) (g : Grant) (start : Nat) : Prop :=
  ∃ (k : Fin 8) (x : Region), s.plan.active[k] = some x ∧ x.band = g.band ∧ x.classes.has g.cls = true ∧
    x.frozen = false ∧ x.first ≤ start ∧ start + g.width ≤ x.last + 1 ∧ (s.moveSite g).test start = .legal

/-- The candidate regions of an AUTO target, when all of them are frozen, and the target taken: the lowest legal start over
the unfrozen ones, none when there is none (R88, R138, R139). -/
def AutoTargets : Prop :=
  ∀ (s : State) (g : Grant),
    let candidate := fun x : Region =>
      ∃ k : Fin 8, s.plan.active[k] = some x ∧ x.band = g.band ∧ x.classes.has g.cls = true
    (∀ x, x ∈ s.openCandidates g ↔ candidate x ∧ x.frozen = false) ∧
    (s.allCandidatesFrozen g = true ↔ (∃ x, candidate x) ∧ ∀ x, candidate x → x.frozen = true) ∧
    (∀ x : Region, x.size = x.last + 1 - x.first) ∧
    (1 ≤ g.width →
      (∀ n, s.autoTarget g = some n ↔ TargetAt s g n ∧ ∀ m, m < n → ¬TargetAt s g m) ∧
      (s.autoTarget g = none ↔ ∀ n, ¬TargetAt s g n))

/-- What MOVE does by the state of its grant, and where an AUTO target lies. -/
def Obligations.MoveByState : Prop := MoveCarriedOut ∧ AutoTargets

/-- The refusals of MOVE from step 6 to step 13, in their order. -/
def Obligations.MoveRefusals : Prop :=
  ∀ (s : State) (src : Source) (f : Frame), Takes s src f .move →
    let u := s.taken src
    let r := requestOf src.port f
    ∀ i g, Names r u i g → MayAct r u i → r.byte 2 = 1 ∨ (r.byte 2 = 0 ∧ grantable (r.word 3) = true) → r.byte 5 ≤ 2 →
      let movable := g.state = .reserved ∨ g.state = .live ∨ g.state = .impaired
      let guarded := g.hold = .held ∧ src.port = .tenant
      (¬movable → Does .move s src f u .badState []) ∧
      (movable → g.hold = .pinned → Does .move s src f u .pinned []) ∧
      (movable → guarded → Does .move s src f u .held []) ∧
      (movable → g.hold ≠ .pinned → ¬guarded →
        (¬NothingFrozen u r g → Does .move s src f u .frozen []) ∧
        (NothingFrozen u r g → r.byte 2 = 0 →
          (u.plan.active.allowsSpan g.band (r.word 3) g.width g.cls = false → Does .move s src f u .region []) ∧
          (u.plan.active.allowsSpan g.band (r.word 3) g.width g.cls = true →
            ((u.moveSite g).test (r.word 3) = .noSpace → Does .move s src f u .noSpace []) ∧
            ((u.moveSite g).test (r.word 3) = .guard → Does .move s src f u .guard []) ∧
            ((u.moveSite g).test (r.word 3) = .blocked → Does .move s src f u .blocked []))) ∧
        (NothingFrozen u r g → r.byte 2 = 1 →
          ((∀ x ∈ u.openCandidates g, x.size < g.width) → Does .move s src f u .region []) ∧
          ((∃ x ∈ u.openCandidates g, g.width ≤ x.size) → u.autoTarget g = none →
            Does .move s src f u .noSpace [])))

/-- AUTOMATIC_MOVE takes the oldest ask away: for a grant that has gone, or may not be moved, nothing more happens; with no
target the outcome is NO_TARGET; else a move starts, seamless when budget and slots allow it. An ask whose grant's span
has changed starts nothing (log entry 12). -/
def Obligations.AutomaticMoveTakesOldestAsk : Prop :=
  ∀ (s : State) (a : Ask) (rest : List Ask), s.ports.resetHeld = false → s.engine.asks = a :: rest →
    let u : State := { s with engine := { s.engine with asks := rest } }
    let i := a.handle.entry
    (s.grantOf a.handle = none → exec .automaticMove s = .next u) ∧
    (∀ g, s.grantOf a.handle = some g →
      let allowed := a.spanChanged = false ∧ (g.state = .live ∨ g.state = .impaired) ∧ g.hold ≠ .pinned ∧
        g.fixed = false ∧ s.table.planFrozen = false ∧ s.plan.active.frozenAt g.band g.start = false ∧
        s.allCandidatesFrozen g = false
      (¬allowed → exec .automaticMove s = .next u) ∧
      (allowed → s.autoTarget g = none →
        exec .automaticMove s =
          .next (u.setEntry i
            { s.entry i with lastOutcome := .noTarget, grant := some { g with news := true } })) ∧
      (allowed → ∀ start, s.autoTarget g = some start →
        let context := fun kind second =>
          ({ target := start, kind, origin := .auto, phase := .targetTuning, second } : MoveContext)
        (∀ j, s.seamlessSlot g = some j →
          ∃ v, exec .automaticMove s = .next (v.refreshFrag g.band) ∧
            MoveStarted u v i g (context .seamless (some j)) j true) ∧
        (∀ j, s.seamlessSlot g = none → g.slot = some j → (s.slot j).state ≠ .retired →
          ∃ v, exec .automaticMove s = .next (v.refreshFrag g.band) ∧
            MoveStarted u v i g (context .hard none) j true)))

/-- The fragmentation level of F free cells with a largest run of L, and a recompute of it: the level is stored, FRAG_URGENT
is raised when it turns 3, and a repack then starts when the band's switch is on, none runs and the plan is not frozen. -/
def LevelAndRecompute : Prop :=
  (∀ f l : Nat,
    (levelOfCounts f l = 0 ↔ f = 0 ∨ f ≤ 2 * l) ∧
    (levelOfCounts f l = 1 ↔ f ≠ 0 ∧ 2 * l < f ∧ f ≤ 4 * l) ∧
    (levelOfCounts f l = 2 ↔ f ≠ 0 ∧ 4 * l < f ∧ f ≤ 8 * l) ∧
    (levelOfCounts f l = 3 ↔ f ≠ 0 ∧ 8 * l < f)) ∧
  (∀ (s : State) (b : Band),
    let level := levelOfCounts (s.freeCells b) (s.largestRun b)
    let turns := level = 3 ∧ s.engine.frag.get b ≠ 3
    let v : State := { s with engine := { s.engine with frag := s.engine.frag.put b level } }
    let starts := s.plan.settings.autoRepack.get b = true ∧ s.engine.repack.running = false ∧ s.table.planFrozen = false
    s.fragOf b = level ∧ (¬turns → s.refreshFrag b = v) ∧
    (turns → ¬starts → s.refreshFrag b = v.raise .fragUrgent) ∧
    (turns → starts → s.refreshFrag b = (v.raise .fragUrgent).startRepack b))

/-- A cell of a region is free: within the region and within no held span of its band (R28). -/
def FreeIn (s : State) (x : Region) (c : Nat) : Prop :=
  x.first ≤ c ∧ c ≤ x.last ∧ ∀ h ∈ s.heldSpans x.band, ¬Covers h c

/-- The free cells of a band are the number of free cells in its present regions; its largest run is the length of the
longest run of consecutive free cells in one of them, held spans having a width (R28). -/
def FreeCellsAndLargestRun : Prop :=
  ∀ (s : State) (b : Band),
    let region := fun (k : Fin 8) (x : Region) => s.plan.active[k] = some x ∧ x.band = b
    let run := fun (x : Region) (a n : Nat) => a + n ≤ x.last + 1 ∧ ∀ c, a ≤ c → c < a + n → FreeIn s x c
    (∃ count : Fin 8 → Nat, s.freeCells b = ((List.finRange 8).map count).sum ∧
      (∀ k x, region k x → ∃ cells : List Nat, cells.Nodup ∧ (∀ c, c ∈ cells ↔ FreeIn s x c) ∧ count k = cells.length) ∧
      (∀ k, (∀ x, ¬region k x) → count k = 0)) ∧
    ((∀ h ∈ s.heldSpans b, 1 ≤ h.width) →
      (∀ k x a n, region k x → run x a n → n ≤ s.largestRun b) ∧
      (s.largestRun b = 0 ∨ ∃ k x a, region k x ∧ run x a (s.largestRun b)))

/-- The fragmentation level, its recompute, and the free cells and the largest run that it comes from. -/
def Obligations.FragmentationLevel : Prop := LevelAndRecompute ∧ FreeCellsAndLargestRun

/-! ### The ingress monitor (R163 to R181) -/

/-- The grant with one impairing watch less: an IMPAIRED one with none left is LIVE, with news (R47, R176). -/
def impairedLess (g : Grant) : Grant :=
  let down := g.state = .impaired ∧ g.impairing = 1
  { g with
    impairing := g.impairing - 1, state := if down then .live else g.state, news := g.news || decide down }

/-- How `v` differs from `u` when the watch `w` at a position has been cleared: its position, and the position paired with
it, EMPTY with threshold 0; its measurement void; its contribution withdrawn from its grant (R168); asks
already pending stay (log entry 30). -/
structure WatchRemoved (u v : State) (n : Fin 32) (w : Watch) : Prop where
  positions : ∀ k, v.monitor.position k =
    if k = n ∨ (Window w ∧ k = n + 16) then .empty else u.monitor.position k
  thresholds : ∀ k : Fin 32, v.monitor.thresholds[k] =
    if k = n ∨ (Window w ∧ k = n + 16) then 0 else u.monitor.thresholds[k]
  inFlight : v.monitor.inFlight =
    u.monitor.inFlight.map fun x => if x.position = n then { x with void := true } else x
  hits : v.monitor.hits = u.monitor.hits
  withdrawn : ∀ h g, w.target = .grant h → w.enabled = true → w.condition = true →
    (w.action = .impair ∨ w.action = .impairAndMove) → u.grantOf h = some g →
    v.table = (u.setEntry h.entry { u.entry h.entry with grant := some (impairedLess g) }).table
  kept : (¬∃ h g, w.target = .grant h ∧ w.enabled = true ∧ w.condition = true ∧
    (w.action = .impair ∨ w.action = .impairAndMove) ∧ u.grantOf h = some g) → v.table = u.table
  rest : v.ports = u.ports ∧ v.plan = u.plan ∧ v.profiles = u.profiles ∧ v.pool = u.pool ∧ v.levels = u.levels ∧
    v.engine = u.engine ∧ v.monitor.sweep = u.monitor.sweep ∧ v.monitor.settings = u.monitor.settings

/-- SET_WATCH writes one watch, clearing the one it replaces, and is refused POSITION_PAIRED or STALE; CLEAR_WATCH clears a
position. -/
def WatchRequests : Prop :=
  ∀ (s : State) (src : Source) (f : Frame), src.port = .management →
    let u := s.taken src
    let r := requestOf src.port f
    (∀ n w, Takes s src f .setWatch → WatchFields r n w →
      let paired := u.monitor.position n = .paired ∨
        (Window w ∧ ∃ x, u.monitor.position (n + 16) = .watch x)
      (paired → Does .setWatch s src f u .positionPaired []) ∧
      (¬paired →
        (∀ h, w.target = .grant h → u.grantOf h = none →
          Does .setWatch s src f u .stale
            [(u.entry h.entry).generation, byte (u.entry h.entry).stateCode,
              if u.grant? h.entry = none then byte (u.entry h.entry).lastOutcome.code else 0]) ∧
        ((∀ h, w.target = .grant h → u.grantOf h ≠ none) →
          ∃ v, ((∀ x, u.monitor.position n ≠ .watch x) → v = u) ∧
            (∀ x, u.monitor.position n = .watch x → WatchRemoved u v n x) ∧
            let window := Window w
            let upper : Fin 32 := n + 16
            let positions := v.monitor.positions.set n (.watch w)
            let thresholds := v.monitor.thresholds.set n (r.params.getD 9 0)
            let t : State :=
              { v with
                monitor :=
                  { v.monitor with
                    positions := if window then positions.set upper .paired else positions
                    thresholds := if window then thresholds.set upper (r.params.getD 10 0) else thresholds } }
            let starts := u.monitor.settings.mode = .continuous ∧ u.monitor.sweep = none
            Does .setWatch s src f (if starts then t.startSweep else t) .done
              [match u.monitor.position n with
                | .watch _ => 1
                | .paired => 0
                | .empty => 0]))) ∧
    (∀ n : Fin 32, Takes s src f .clearWatch → r.byte 0 = n.val →
      (u.monitor.position n = .paired → Does .clearWatch s src f u .positionPaired []) ∧
      (u.monitor.position n = .empty → Does .clearWatch s src f u .done [0]) ∧
      (∀ w, u.monitor.position n = .watch w →
        ∃ v, WatchRemoved u v n w ∧ Does .clearWatch s src f v .done [1]))

/-- The codes of compare modes, dispositions and actions (R166). -/
def WatchCodes : Prop :=
  ([.above, .below, .inside, .outside] : List CompareMode).map CompareMode.code = [0, 1, 2, 3] ∧
    ([.compareOnly, .compareStore, .storeOnly] : List Disposition).map Disposition.code = [0, 1, 2] ∧
    ([.flag, .impair, .impairAndMove, .block] : List WatchAction).map WatchAction.code = [0, 1, 2, 3]

/-- SET_WATCH and CLEAR_WATCH, and the codes of a watch. (Asks already pending stay: log entry 30.) -/
def Obligations.WatchesSetAndCleared : Prop := WatchRequests ∧ WatchCodes

/-- READ_WATCH returns one position, READ_RESULTS the half that is not the fill half, READ_HITS the hit flags and the
conditions; CLEAR_HITS clears the flags it names. The reads change nothing. (That READ_WATCH gives the hit flag of an EMPTY
or PAIRED position too: log entry 23.) -/
def Obligations.MonitorReadAndHitsCleared : Prop :=
  ∀ (s : State) (src : Source) (f : Frame), src.port = .management →
    let u := s.taken src
    let r := requestOf src.port f
    (∀ n : Fin 32, Takes s src f .readWatch → r.byte 0 = n.val →
      let hit : Byte := if u.monitor.hits.getLsbD n.val then 1 else 0
      let limit : Byte := u.monitor.thresholds[n]
      (u.monitor.position n = .empty →
        Does .readWatch s src f u .done [0, 0, 0, 0, 0, 0, 0, 0, 0, 0, 0, 0, 0, 0, 0, hit]) ∧
      (u.monitor.position n = .paired →
        Does .readWatch s src f u .done [2, 0, 0, 0, 0, 0, byte (n.val - 16), 0, 0, limit, 0, 0, 0, 0, 0, hit]) ∧
      (∀ w, u.monitor.position n = .watch w →
        let upper : Fin 32 := n + 16
        let rest : List Byte :=
          [byte w.mode.code, limit, if Window w then u.monitor.thresholds[upper] else 0,
            byte w.disposition.code, byte w.action.code, if w.enabled then 1 else 0, if w.condition then 1 else 0, hit]
        (∀ h, w.target = .grant h →
          Does .readWatch s src f u .done ([1, 0, byte h.entry.val, h.generation, 0, 0, 0, 0] ++ rest)) ∧
        (∀ b start width, w.target = .cells b start width →
          Does .readWatch s src f u .done
            ([1, 1, 0, 0, byte (bandCode b), byte (start / 256), byte start, byte width] ++ rest)))) ∧
    (Takes s src f .readResults →
      let half := if u.monitor.fill = .a then u.monitor.halfB else u.monitor.halfA
      Does .readResults s src f u .done
        ((if u.monitor.fill = .a then 1 else 0) ::
          (List.finRange 32).flatMap fun n => [half[n].reading, if half[n].valid then 1 else 0])) ∧
    (Takes s src f .readHits →
      ∃ conditions : BitVec 32,
        (∀ n : Fin 32, conditions.getLsbD n.val = true ↔
          ∃ w, u.monitor.position n = .watch w ∧ w.condition = true) ∧
        Does .readHits s src f u .done
          ((List.range 4).map (fun k => u.monitor.hits.extractLsb' (24 - 8 * k) 8)
            ++ (List.range 4).map fun k => conditions.extractLsb' (24 - 8 * k) 8)) ∧
    (Takes s src f .clearHits →
      let named := r.params.getD 0 0 ++ r.params.getD 1 0 ++ r.params.getD 2 0 ++ r.params.getD 3 0
      Does .clearHits s src f { u with monitor := { u.monitor with hits := u.monitor.hits &&& ~~~named } } .done [])

/-- The span a measurement of a position would be ordered for: an enabled watch stands there, whose grant, if it names
one, is current. -/
def MeasuredAt (u : State) (n : Fin 32) (b : Band) (start width : Nat) (h : Option Handle) : Prop :=
  ∃ w, u.monitor.position n = .watch w ∧ w.enabled = true ∧
    ((w.target = .cells b start width ∧ h = none) ∨
      ∃ x g, w.target = .grant x ∧ u.grantOf x = some g ∧ b = g.band ∧ start = g.start ∧ width = g.width ∧ h = some x)

/-- No measurement would be ordered at a position. -/
def PassedOver (u : State) (n : Fin 32) : Prop := ∀ b start width h, ¬MeasuredAt u n b start width h

/-- The state `t` after step `k` of the sweep `w` has sent its measurement at `u`. -/
def MeasureSent (u t : State) (w : Sweep) (k : Nat) (b : Band) (start width : Nat) (h : Option Handle) : Prop :=
  t =
    { u with
      monitor :=
        { u.monitor with
          sweep := some { w with step := k, sentAny := true }
          inFlight := some
            { tag := u.monitor.tagCounter, position := w.visit k, band := b, start, width, handle := h, void := false,
              timeout := 50 }
          tagCounter := u.monitor.tagCounter + 1
          sent := u.monitor.sent ++ [{ tag := u.monitor.tagCounter, band := b, start, width }] } }

/-- The state after the sweep `w` has ended at `u`: the fill half toggled, no sweep running, the report made. -/
def sweepEnded (u : State) (w : Sweep) : State :=
  let v : State :=
    { u with monitor := { u.monitor with sweep := none, fill := if u.monitor.fill = .a then .b else .a } }
  if u.monitor.settings.report = .eachSweep ∨ (u.monitor.settings.report = .sweepWithHit ∧ w.hit = true) then
    v.raise .sweepDone
  else v

/-- How a sweep starts at `u`: the fill half is made invalid, and the positions are visited from step 0 to the first that
is measured; with none the sweep ends at once. -/
structure SweepStarted (u t : State) : Prop where
  run : ∃ v, (∀ n : Fin 32,
      v.monitor.halfA[n] =
        (if u.monitor.fill = .a then { u.monitor.halfA[n] with valid := false } else u.monitor.halfA[n]) ∧
      v.monitor.halfB[n] =
        (if u.monitor.fill = .b then { u.monitor.halfB[n] with valid := false } else u.monitor.halfB[n])) ∧
    (∃ a b : Vector ResultEntry 32, ∃ x,
      v = { u with monitor := { u.monitor with halfA := a, halfB := b, sweep := some x } }) ∧
    let w : Sweep :=
      { start := u.monitor.settings.start, order := u.monitor.settings.order, step := 0, hit := false, sentAny := false }
    (∀ k b start width h, k < 32 → (∀ k' < k, PassedOver u (w.visit k')) → MeasuredAt u (w.visit k) b start width h →
      MeasureSent v t w k b start width h) ∧
    ((∀ k < 32, PassedOver u (w.visit k)) → t = sweepEnded v w)

/-- SET_SWEEP replaces the settings and loads or stops the period timer, SWEEP starts a sweep unless one runs, a period
expiry starts one or is skipped with SWEEP_OVERRUN; and a sweep visits every position once. The payload of SWEEP when the
sweep is empty is read from log entry 14; a period expiry with the timer stopped changes nothing (log entry 7). -/
def SweepsSetAndStarted : Prop :=
  (∀ (s : State) (src : Source) (f : Frame), src.port = .management →
    let u := s.taken src
    let r := requestOf src.port f
    (∀ (mode : SweepMode) (order : SweepOrder) (start : Fin 32) (report : ReportCondition), Takes s src f .setSweep →
      [SweepMode.off, .periodic, .continuous][r.byte 0]? = some mode → 100 ≤ r.word 1 → r.word 1 ≤ 60000 →
      [SweepOrder.sequential, .interleaved][r.byte 3]? = some order → r.byte 4 = start.val →
      [ReportCondition.none, .eachSweep, .sweepWithHit, .eachHit][r.byte 5]? = some report →
      let v : State :=
        { u with
          monitor :=
            { u.monitor with
              settings := { mode, period := r.word 1, order, start, report }
              periodTimer := if mode = .periodic then some (r.word 1) else none } }
      (¬(mode = .continuous ∧ u.monitor.sweep = none) → Does .setSweep s src f v .done []) ∧
      (mode = .continuous → u.monitor.sweep = none →
        ∃ t, SweepStarted v t ∧ Does .setSweep s src f t .done [])) ∧
    (Takes s src f .sweep →
      (u.monitor.sweep ≠ none → Does .sweep s src f u .sweepBusy []) ∧
      (u.monitor.sweep = none →
        ∃ t, SweepStarted u t ∧ Does .sweep s src f t .accepted [if u.monitor.fill = .a then 0 else 1]))) ∧
  (∀ s : State, s.ports.resetHeld = false →
    (s.monitor.periodTimer = none → exec .periodTimerExpiry s = .next s) ∧
    (∀ n, s.monitor.periodTimer = some n →
      let v : State := { s with monitor := { s.monitor with periodTimer := some s.monitor.settings.period } }
      (s.monitor.sweep ≠ none → exec .periodTimerExpiry s = .next (v.raise .sweepOverrun)) ∧
      (s.monitor.sweep = none → ∃ t, SweepStarted v t ∧ exec .periodTimerExpiry s = .next t))) ∧
  (∀ s : State, SweepStarted s s.startSweep) ∧
  (∀ w : Sweep,
    (∀ k, w.visit k =
      match w.order with
      | .sequential => Fin.ofNat 32 (w.start.val + k)
      | .interleaved => Fin.ofNat 32 (w.start.val ^^^ k)) ∧
    ∀ n, ∃ k < 32, w.visit k = n ∧ ∀ k' < 32, w.visit k' = n → k' = k)

/-- How a running sweep goes on at `u` after a measurement: to the next step that is measured, or to its end, which in
CONTINUOUS mode starts the next sweep when this one has sent a measurement. -/
structure SweepGoesOn (u t : State) : Prop where
  idle : u.monitor.sweep = none → t = u
  next : ∀ w k b start width h, u.monitor.sweep = some w → w.step < k → k < 32 →
    (∀ k', w.step < k' → k' < k → PassedOver u (w.visit k')) → MeasuredAt u (w.visit k) b start width h →
    MeasureSent u t w k b start width h
  ends : ∀ w, u.monitor.sweep = some w → (∀ k', w.step < k' → k' < 32 → PassedOver u (w.visit k')) →
    (¬(u.monitor.settings.mode = .continuous ∧ w.sentAny = true) → t = sweepEnded u w) ∧
    (u.monitor.settings.mode = .continuous → w.sentAny = true → SweepStarted (sweepEnded u w) t)

/-- A reading is TRUE for a watch of a mode with these limits. -/
def Compares (mode : CompareMode) (lower upper reading : Byte) : Prop :=
  match mode with
  | .above => lower < reading
  | .below => reading < lower
  | .inside => lower < reading ∧ reading < upper
  | .outside => reading < lower ∨ upper < reading

/-- How `y` differs from `v` when the watch `w` at a position has compared a reading: its condition, the hit flags, the
report, and, when the condition turned, the impairing count of its grant and the ask (R165, R174 to R176, R180). -/
structure Compared (v y : State) (n : Fin 32) (w : Watch) (reading : Byte) (now : Bool) : Prop where
  condition : now = true ↔ Compares w.mode v.monitor.thresholds[n] v.monitor.thresholds[n + 16] reading
  positions : y.monitor.positions = v.monitor.positions.set n (.watch { w with condition := now })
  hits : ∀ k : Fin 32, y.monitor.hits.getLsbD k.val = true ↔
    (v.monitor.hits.getLsbD k.val = true ∨ (now = true ∧ k = n) ∨
      (now = true ∧ w.mode = .outside ∧ v.monitor.thresholds[n + 16] < reading ∧ k = n + 16))
  report : y.ports =
    if now = true ∧ v.monitor.settings.report = .eachHit then (v.raise .watchHit).ports else v.ports
  same : now = w.condition ∨ w.enabled = false ∨ w.action = .flag ∨ w.action = .block →
    y.table = v.table ∧ y.engine = v.engine
  turned : ∀ h g, now ≠ w.condition → w.enabled = true → (w.action = .impair ∨ w.action = .impairAndMove) →
    w.target = .grant h → v.grantOf h = some g →
    let up := g.state = .live ∧ g.impairing = 0
    let g' : Grant :=
      if now then
        { g with
          impairing := g.impairing + 1, state := if up then .impaired else g.state, news := g.news || decide up }
      else impairedLess g
    y.table = (v.setEntry h.entry { v.entry h.entry with grant := some g' }).table ∧
    let asks := now = true ∧ w.action = .impairAndMove ∧ g.hold ≠ .pinned ∧ g.fixed = false ∧
      (g'.state = .live ∨ g'.state = .impaired) ∧ v.table.planFrozen = false ∧
      v.plan.active.frozenAt g.band g.start = false
    (asks → y.engine = { v.engine with asks := v.engine.asks ++ [{ handle := h, spanChanged := false }] }) ∧
    (¬asks → y.engine = v.engine)
  sweep : y.monitor.sweep = if now then v.monitor.sweep.map fun x => { x with hit := true } else v.monitor.sweep
  monitor : y.monitor =
    { v.monitor with positions := y.monitor.positions, hits := y.monitor.hits, sweep := y.monitor.sweep }
  rest : y.plan = v.plan ∧ y.profiles = v.profiles ∧ y.pool = v.pool ∧ y.levels = v.levels

/-- READING ends the measurement whose tag it bears, stores and compares by the watch's disposition unless the measurement
is void, and the sweep goes on; SENSE_TIMEOUT ends it as missed. Any other reading changes nothing, nor does a timeout with
nothing in flight (log entry 7). -/
def MeasurementsEnd : Prop :=
  ∀ s : State, s.ports.resetHeld = false →
    (s.monitor.inFlight = none → exec .senseTimeout s = .next s) ∧
    (∀ tag value, (∀ x, s.monitor.inFlight = some x → x.tag ≠ tag) → exec (.reading tag value) s = .next s) ∧
    (∀ x, s.monitor.inFlight = some x →
      let u : State := { s with monitor := { s.monitor with inFlight := none } }
      (∃ t, exec .senseTimeout s = .next t ∧ SweepGoesOn (if x.void then u else u.raise .measureMissed) t) ∧
      (∀ value,
        (x.void = true → ∃ t, exec (.reading x.tag value) s = .next t ∧ SweepGoesOn u t) ∧
        (x.void = false → ∀ w, s.monitor.position x.position = .watch w →
          let entry : ResultEntry := { reading := value, valid := true }
          let stored : State :=
            if u.monitor.fill = .a then
              { u with monitor := { u.monitor with halfA := u.monitor.halfA.set x.position entry } }
            else { u with monitor := { u.monitor with halfB := u.monitor.halfB.set x.position entry } }
          (w.disposition = .storeOnly → ∃ t, exec (.reading x.tag value) s = .next t ∧ SweepGoesOn stored t) ∧
          (w.disposition ≠ .storeOnly →
            ∃ y now t, Compared (if w.disposition = .compareStore then stored else u) y x.position w value now ∧
              exec (.reading x.tag value) s = .next t ∧ SweepGoesOn y t))))

/-- How sweeps start and how their measurements end. (Log entries 7 and 14, as their parts say; that an entry made invalid
keeps its reading byte: log entry 3.) -/
def Obligations.SweepsAndMeasurements : Prop := SweepsSetAndStarted ∧ MeasurementsEnd

/-! ### STATUS and RESTART (R189 to R191) -/

/-- STATUS reports both bands, the repack, the sweep, the pilot and the staged plan in 34 bytes to management and to every
enabled tenant, and changes nothing. -/
def Obligations.StatusReportsThePart : Prop :=
  ∀ (s : State) (src : Source) (f : Frame), Takes s src f .status →
    let u := s.taken src
    let r := requestOf src.port f
    let flag := fun b : Bool => if b then (1 : Byte) else 0
    let slots := fun (b : Band) (x : SlotState) =>
      ((List.finRange 48).filter fun j => decide (slotBand j = b ∧ (u.slot j).state = x)).length
    let band := fun b : Band =>
      [flag (decide (u.plan.settings.reserve.get b < slots b .idle)), byte (u.bandLoad b / 256), byte (u.bandLoad b),
        byte (u.budget b / 256), byte (u.budget b), byte (u.freeCells b / 256), byte (u.freeCells b),
        byte (u.largestRun b / 256), byte (u.largestRun b), byte (u.engine.frag.get b), byte (slots b .idle),
        byte (slots b .retired)]
    (src.port = .management ∨ u.tenantEnabled r.tenant = true →
      Does .status s src f u .done
        (band .up ++ band .down ++
          [flag u.engine.repack.running, u.engine.repack.band.elim 255 fun b => byte (bandCode b),
            byte (u.engine.repack.moves / 256), byte u.engine.repack.moves, match u.engine.repack.reason with
              | .none => 0
              | .complete => 1
              | .blocked => 2
              | .stopped => 3,
            flag u.monitor.sweep.isSome, if u.monitor.fill = .a then 0 else 1, u.levels.pilot.applied,
            flag u.levels.pilot.clamped, flag u.plan.staged.isSome])) ∧
    (src.port = .tenant → u.tenantEnabled r.tenant = false → Does .status s src f u .notEnabled [])

/-- The entry holds a grant that a restart frees. -/
def Freed (u : State) (i : Fin 64) : Bool := (u.grant? i).any fun g => g.hold != .pinned

/-- The grants, slots and records at `x` when a restart at `u` has freed every grant that is not PINNED: the entries (R45,
R75), the occupancy lists, the tenants' counts and the reference counts (R102), the slots of freed grants halted with their
fail counts kept (R119), the watches that named them detached. -/
structure GrantsRestarted (u x : State) : Prop where
  kept : ∀ i, u.grant? i = none → x.entry i = u.entry i
  freed : ∀ i g, u.grant? i = some g → g.hold ≠ .pinned → x.entry i = freedEntry (u.entry i) .revoked
  pinned : ∀ i g, u.grant? i = some g → g.hold = .pinned →
    x.entry i = { u.entry i with grant := some { g with news := false } }
  occupancy : ∀ b, x.occupancy b =
    (u.occupancy b).filter fun it =>
      !(u.grant? it.handle.entry).any fun g => g.hold != .pinned && decide (g.band = b)
  counts : ∀ k : Fin 15, x.table.counts[k] = u.table.counts[k] -
    entryNumbers.countP fun i => Freed u i && decide ((u.entry i).tenant.val = k.val + 1)
  references : ∀ k, x.profile k =
    { u.profile k with
      references := (u.profile k).references -
        entryNumbers.countP fun i => Freed u i && (u.grant? i).any fun g => g.profile == k }
  halted : ∀ i g j, u.grant? i = some g → g.hold ≠ .pinned → j ∈ slotsOf g → (u.slot j).state ≠ .retired →
    x.slot j = { u.slot j with state := .idle, holder := none } ∧
    (SlotsDiffer g → (∀ i' g', i' ≠ i → u.grant? i' = some g' → g'.hold ≠ .pinned → j ∉ slotsOf g') →
      x.pool.sent[j] = u.pool.sent[j] ++ [.halt])
  slots : ∀ j : SlotId,
    (u.slot j).state = .retired ∨ (∀ i g, u.grant? i = some g → g.hold ≠ .pinned → j ∉ slotsOf g) →
    x.slot j = u.slot j ∧ x.pool.sent[j] = u.pool.sent[j]
  detached : ∀ n w, u.monitor.position n = .watch w →
    x.monitor.position n = .watch
      (if ∃ i, Freed u i = true ∧ w.target = .grant (u.handleOf i) then
        { w with enabled := false, condition := false }
      else w)
  positions : ∀ n, (∀ w, u.monitor.position n ≠ .watch w) → x.monitor.position n = u.monitor.position n
  rest : x.plan = u.plan ∧ x.levels = u.levels ∧ x.table.planFrozen = u.table.planFrozen ∧
    x.pool.startUp = u.pool.startUp

/-- The monitor at `v` after a restart, from what it was at `x` when the grants had been freed (R181): every condition
FALSE but that of an enabled impairing watch on a grant that stays, no sweep, no measurement, no hit, both halves invalid,
the fill half A, the period timer by the mode; positions, thresholds, settings and tag counter kept. -/
structure MonitorRestarted (x v : State) : Prop where
  watches : ∀ n w, x.monitor.position n = .watch w →
    let keeps := w.enabled = true ∧ (w.action = .impair ∨ w.action = .impairAndMove) ∧
      ∃ h g, w.target = .grant h ∧ x.grantOf h = some g
    (keeps → v.monitor.position n = .watch w) ∧
    (¬keeps → v.monitor.position n = .watch { w with condition := false })
  positions : ∀ n, (∀ w, x.monitor.position n ≠ .watch w) → v.monitor.position n = x.monitor.position n
  halves : ∀ n : Fin 32, v.monitor.halfA[n] = { x.monitor.halfA[n] with valid := false } ∧
    v.monitor.halfB[n] = { x.monitor.halfB[n] with valid := false }
  rest : v.monitor =
    { x.monitor with
      positions := v.monitor.positions, halfA := v.monitor.halfA, halfB := v.monitor.halfB, sweep := none,
      inFlight := none, hits := 0, fill := .a
      periodTimer :=
        if x.monitor.settings.mode = .periodic then some x.monitor.settings.period else none }

/-- The decision of a restart on the staged plan, as its payload byte: 0 none staged, 1 applied, since every grant that
stays lies in one of its regions that allows its class, 2 rejected (R8). -/
def PlanDecided (u : State) (decision : Nat) : Prop :=
  let fits := fun q : Plan =>
    ∀ i g, u.grant? i = some g → g.hold = .pinned → q.allowsSpan g.band g.start g.width g.cls = true
  (u.plan.staged = none → decision = 0) ∧ (∀ q, u.plan.staged = some q → fits q → decision = 1) ∧
    (∀ q, u.plan.staged = some q → ¬fits q → decision = 2)

/-- RESTART from management completes, whatever the state: it frees every grant that is not PINNED with REVOKED and keeps the
PINNED ones, re-evaluates the clamp when the load fell, decides on the staged plan, drops asks, repack, hits, results, queues
and the summary but for the plan's flag, keeps the settings, the thresholds and the event mask, and in CONTINUOUS mode
starts a sweep. The order of the parts: log entry 16; that an entry made invalid keeps its reading byte: log
entry 3; a transaction whose command byte has not come goes on: log entry 2; a repack stopped by a priority RESTART has had
its own re-evaluation before: log entry 29. -/
def Obligations.RestartKeepsPinnedAndDecidesPlan : Prop :=
  ∀ (s : State) (src : Source) (f : Frame), Takes s src f .restart → src.port = .management →
    let u := s.taken src
    ∃ (x v t : State) (decision : Nat), Does .restart s src f t .done [byte decision] ∧
      PlanDecided u decision ∧ GrantsRestarted u x ∧
      (let y := noteLoad u x
       v.table = y.table ∧ v.pool = y.pool ∧ v.levels = y.levels ∧ v.profiles = x.profiles) ∧
      MonitorRestarted x v ∧
      x.monitor.thresholds = u.monitor.thresholds ∧ x.monitor.settings = u.monitor.settings ∧
      x.monitor.tagCounter = u.monitor.tagCounter ∧ x.monitor.sent = u.monitor.sent ∧
      (∀ n : Fin 32, x.monitor.halfA[n] = u.monitor.halfA[n] ∧ x.monitor.halfB[n] = u.monitor.halfB[n]) ∧
      v.plan =
        { u.plan with
          active := if decision = 1 then u.plan.staged.getD u.plan.active else u.plan.active, staged := none } ∧
      v.engine.asks = [] ∧ (∀ b, v.engine.frag.get b = v.fragOf b) ∧
      v.engine.repack =
        (if u.engine.repack.running = true then { u.engine.repack with running := false, reason := .stopped }
         else u.engine.repack) ∧
      (∀ p, v.port p =
        { u.port p with
          requests := [], responses := []
          progress := (u.port p).progress.map fun x => if x = .selected then .selected else .nothing }) ∧
      v.ports.priority = none ∧ v.ports.pointer = .management ∧ v.ports.mask = u.ports.mask ∧
      v.ports.resetHeld = u.ports.resetHeld ∧
      (∀ e : Event, v.flagged e = true ↔ e = if decision = 2 then .planRejected else .planApplied) ∧
      (u.monitor.settings.mode ≠ .continuous → t = v) ∧ (u.monitor.settings.mode = .continuous → SweepStarted v t)

/-! ### Laws that every step keeps -/

/-- Every step keeps the slots lawful: fail counts 0 to 3, RETIRED exactly at 3, no holder when IDLE or RETIRED; and a
RETIRED slot stays RETIRED but for the release of RESET_N. -/
def Obligations.SlotsStayLawfulAndRetired : Prop :=
  ∀ s t : State, s.SlotsLawful → step s = .next t →
    t.SlotsLawful ∧
    (s.pending.head? ≠ some .resetNRelease → ∀ j, (s.slot j).state = .retired → (t.slot j).state = .retired)

/-- Every step keeps the law that a grant has a move context exactly while it is MOVING, and the law of PINNED grants. -/
def Obligations.MovesAndPinsStayLawful : Prop :=
  ∀ s t : State, s.MovesLawful → s.PinsLawful → step s = .next t → t.MovesLawful ∧ t.PinsLawful

/-- A PINNED grant keeps its entry, generation, tenant, class, band, span, payload and profile, and stays PINNED, through
every command but the release of RESET_N. -/
def Obligations.PinnedGrantsStay : Prop :=
  ∀ (s t : State) (i : Fin 64) (g : Grant), s.MovesLawful → s.PinsLawful → s.grant? i = some g → g.hold = .pinned →
    s.pending.head? ≠ some .resetNRelease → step s = .next t →
    ∃ g', t.grant? i = some g' ∧ g.SameFixture g' ∧ (t.entry i).generation = (s.entry i).generation ∧
      (t.entry i).tenant = (s.entry i).tenant

/-- Every step keeps the law of the grant table: occupancy lists, held spans apart, tenants' counts, reference counts,
grants on READY profiles, and the settle time in its range. -/
def TableLawKept : Prop := ∀ s t : State, s.TableLawful → step s = .next t → t.TableLawful

/-- Every step keeps the law of regions: the records of both plans good and apart, every held span in a region of the active
plan that allows its class. -/
def RegionLawKept : Prop :=
  ∀ s t : State, s.MovesLawful → s.PinsLawful → s.TableLawful → s.RegionsLawful → step s = .next t → t.RegionsLawful

/-- Every step keeps the law of the grant table and the law of regions. -/
def Obligations.TableStaysLawful : Prop := TableLawKept ∧ RegionLawKept

/-- Every step keeps the law of loads: counted loads as state and level ask, every band within its budget, the trim at most
the reading and the clamped flag set exactly below it. -/
def Obligations.LoadsStayLawful : Prop :=
  ∀ s t : State, s.MovesLawful → s.LoadsLawful → step s = .next t → t.LoadsLawful

/-- Every step keeps the law of the monitor: impairing counts, LIVE and IMPAIRED by them, enabled watches on current
grants, and the pairing of positions. -/
def Obligations.MonitorStaysLawful : Prop := ∀ s t : State, s.MonitorLawful → step s = .next t → t.MonitorLawful

/-- The laws hold after reset. -/
def Obligations.LawsHoldAtReset : Prop :=
  State.reset.QueuesBounded ∧ State.reset.SlotsLawful ∧ State.reset.MovesLawful ∧ State.reset.PinsLawful ∧
    State.reset.TableLawful ∧ State.reset.RegionsLawful ∧ State.reset.LoadsLawful ∧ State.reset.MonitorLawful
end

