-- ==== Sys2Proof/Laws/State.lean ====
section
/-! SUPPORT. One lemma per field per update: what each named write of the state leaves as it was, and what the named
reads give after it. No later proof unfolds a record update. -/

namespace Sys2Proof.Machine

variable (s : State)

/-! ### setEntry -/

@[simp] theorem State.setEntry_pending (i : Fin 64) (e : Entry) : (s.setEntry i e).pending = s.pending := rfl

@[simp] theorem State.setEntry_ports (i : Fin 64) (e : Entry) : (s.setEntry i e).ports = s.ports := rfl

@[simp] theorem State.setEntry_plan (i : Fin 64) (e : Entry) : (s.setEntry i e).plan = s.plan := rfl

@[simp] theorem State.setEntry_profiles (i : Fin 64) (e : Entry) : (s.setEntry i e).profiles = s.profiles := rfl

@[simp] theorem State.setEntry_pool (i : Fin 64) (e : Entry) : (s.setEntry i e).pool = s.pool := rfl

@[simp] theorem State.setEntry_levels (i : Fin 64) (e : Entry) : (s.setEntry i e).levels = s.levels := rfl

@[simp] theorem State.setEntry_engine (i : Fin 64) (e : Entry) : (s.setEntry i e).engine = s.engine := rfl

@[simp] theorem State.setEntry_monitor (i : Fin 64) (e : Entry) : (s.setEntry i e).monitor = s.monitor := rfl

@[simp] theorem State.setEntry_freeCount (i : Fin 64) (e : Entry) : (s.setEntry i e).freeCount = s.freeCount := rfl

/-! ### modGrant -/

@[simp] theorem State.modGrant_pending (i : Fin 64) (f : Grant → Grant) : (s.modGrant i f).pending = s.pending := by unfold State.modGrant; split <;> rfl

@[simp] theorem State.modGrant_ports (i : Fin 64) (f : Grant → Grant) : (s.modGrant i f).ports = s.ports := by unfold State.modGrant; split <;> rfl

@[simp] theorem State.modGrant_plan (i : Fin 64) (f : Grant → Grant) : (s.modGrant i f).plan = s.plan := by unfold State.modGrant; split <;> rfl

@[simp] theorem State.modGrant_profiles (i : Fin 64) (f : Grant → Grant) : (s.modGrant i f).profiles = s.profiles := by unfold State.modGrant; split <;> rfl

@[simp] theorem State.modGrant_pool (i : Fin 64) (f : Grant → Grant) : (s.modGrant i f).pool = s.pool := by unfold State.modGrant; split <;> rfl

@[simp] theorem State.modGrant_levels (i : Fin 64) (f : Grant → Grant) : (s.modGrant i f).levels = s.levels := by unfold State.modGrant; split <;> rfl

@[simp] theorem State.modGrant_engine (i : Fin 64) (f : Grant → Grant) : (s.modGrant i f).engine = s.engine := by unfold State.modGrant; split <;> rfl

@[simp] theorem State.modGrant_monitor (i : Fin 64) (f : Grant → Grant) : (s.modGrant i f).monitor = s.monitor := by unfold State.modGrant; split <;> rfl

@[simp] theorem State.modGrant_freeCount (i : Fin 64) (f : Grant → Grant) : (s.modGrant i f).freeCount = s.freeCount := by unfold State.modGrant; split <;> rfl

/-! ### setOutcome -/

@[simp] theorem State.setOutcome_pending (i : Fin 64) (o : LastOutcome) : (s.setOutcome i o).pending = s.pending := rfl

@[simp] theorem State.setOutcome_ports (i : Fin 64) (o : LastOutcome) : (s.setOutcome i o).ports = s.ports := rfl

@[simp] theorem State.setOutcome_plan (i : Fin 64) (o : LastOutcome) : (s.setOutcome i o).plan = s.plan := rfl

@[simp] theorem State.setOutcome_profiles (i : Fin 64) (o : LastOutcome) : (s.setOutcome i o).profiles = s.profiles := rfl

@[simp] theorem State.setOutcome_pool (i : Fin 64) (o : LastOutcome) : (s.setOutcome i o).pool = s.pool := rfl

@[simp] theorem State.setOutcome_levels (i : Fin 64) (o : LastOutcome) : (s.setOutcome i o).levels = s.levels := rfl

@[simp] theorem State.setOutcome_engine (i : Fin 64) (o : LastOutcome) : (s.setOutcome i o).engine = s.engine := rfl

@[simp] theorem State.setOutcome_monitor (i : Fin 64) (o : LastOutcome) : (s.setOutcome i o).monitor = s.monitor := rfl

@[simp] theorem State.setOutcome_freeCount (i : Fin 64) (o : LastOutcome) : (s.setOutcome i o).freeCount = s.freeCount := rfl

/-! ### setOccupancy -/

@[simp] theorem State.setOccupancy_pending (b : Band) (l : List OccItem) : (s.setOccupancy b l).pending = s.pending := rfl

@[simp] theorem State.setOccupancy_ports (b : Band) (l : List OccItem) : (s.setOccupancy b l).ports = s.ports := rfl

@[simp] theorem State.setOccupancy_plan (b : Band) (l : List OccItem) : (s.setOccupancy b l).plan = s.plan := rfl

@[simp] theorem State.setOccupancy_profiles (b : Band) (l : List OccItem) : (s.setOccupancy b l).profiles = s.profiles := rfl

@[simp] theorem State.setOccupancy_pool (b : Band) (l : List OccItem) : (s.setOccupancy b l).pool = s.pool := rfl

@[simp] theorem State.setOccupancy_levels (b : Band) (l : List OccItem) : (s.setOccupancy b l).levels = s.levels := rfl

@[simp] theorem State.setOccupancy_engine (b : Band) (l : List OccItem) : (s.setOccupancy b l).engine = s.engine := rfl

@[simp] theorem State.setOccupancy_monitor (b : Band) (l : List OccItem) : (s.setOccupancy b l).monitor = s.monitor := rfl

@[simp] theorem State.setOccupancy_freeCount (b : Band) (l : List OccItem) : (s.setOccupancy b l).freeCount = s.freeCount := rfl

/-! ### changeCount -/

@[simp] theorem State.changeCount_pending (n : Nat) (f : Nat → Nat) : (s.changeCount n f).pending = s.pending := by unfold State.changeCount; split <;> rfl

@[simp] theorem State.changeCount_ports (n : Nat) (f : Nat → Nat) : (s.changeCount n f).ports = s.ports := by unfold State.changeCount; split <;> rfl

@[simp] theorem State.changeCount_plan (n : Nat) (f : Nat → Nat) : (s.changeCount n f).plan = s.plan := by unfold State.changeCount; split <;> rfl

@[simp] theorem State.changeCount_profiles (n : Nat) (f : Nat → Nat) : (s.changeCount n f).profiles = s.profiles := by unfold State.changeCount; split <;> rfl

@[simp] theorem State.changeCount_pool (n : Nat) (f : Nat → Nat) : (s.changeCount n f).pool = s.pool := by unfold State.changeCount; split <;> rfl

@[simp] theorem State.changeCount_levels (n : Nat) (f : Nat → Nat) : (s.changeCount n f).levels = s.levels := by unfold State.changeCount; split <;> rfl

@[simp] theorem State.changeCount_engine (n : Nat) (f : Nat → Nat) : (s.changeCount n f).engine = s.engine := by unfold State.changeCount; split <;> rfl

@[simp] theorem State.changeCount_monitor (n : Nat) (f : Nat → Nat) : (s.changeCount n f).monitor = s.monitor := by unfold State.changeCount; split <;> rfl

@[simp] theorem State.changeCount_freeCount (n : Nat) (f : Nat → Nat) : (s.changeCount n f).freeCount = s.freeCount := by unfold State.changeCount; split <;> rfl

/-! ### setPlanFrozen -/

@[simp] theorem State.setPlanFrozen_pending (x : Bool) : (s.setPlanFrozen x).pending = s.pending := rfl

@[simp] theorem State.setPlanFrozen_ports (x : Bool) : (s.setPlanFrozen x).ports = s.ports := rfl

@[simp] theorem State.setPlanFrozen_plan (x : Bool) : (s.setPlanFrozen x).plan = s.plan := rfl

@[simp] theorem State.setPlanFrozen_profiles (x : Bool) : (s.setPlanFrozen x).profiles = s.profiles := rfl

@[simp] theorem State.setPlanFrozen_pool (x : Bool) : (s.setPlanFrozen x).pool = s.pool := rfl

@[simp] theorem State.setPlanFrozen_levels (x : Bool) : (s.setPlanFrozen x).levels = s.levels := rfl

@[simp] theorem State.setPlanFrozen_engine (x : Bool) : (s.setPlanFrozen x).engine = s.engine := rfl

@[simp] theorem State.setPlanFrozen_monitor (x : Bool) : (s.setPlanFrozen x).monitor = s.monitor := rfl

@[simp] theorem State.setPlanFrozen_freeCount (x : Bool) : (s.setPlanFrozen x).freeCount = s.freeCount := rfl

/-! ### setProfile -/

@[simp] theorem State.setProfile_pending (k : Fin 8) (p : Profile) : (s.setProfile k p).pending = s.pending := rfl

@[simp] theorem State.setProfile_ports (k : Fin 8) (p : Profile) : (s.setProfile k p).ports = s.ports := rfl

@[simp] theorem State.setProfile_plan (k : Fin 8) (p : Profile) : (s.setProfile k p).plan = s.plan := rfl

@[simp] theorem State.setProfile_table (k : Fin 8) (p : Profile) : (s.setProfile k p).table = s.table := rfl

@[simp] theorem State.setProfile_pool (k : Fin 8) (p : Profile) : (s.setProfile k p).pool = s.pool := rfl

@[simp] theorem State.setProfile_levels (k : Fin 8) (p : Profile) : (s.setProfile k p).levels = s.levels := rfl

@[simp] theorem State.setProfile_engine (k : Fin 8) (p : Profile) : (s.setProfile k p).engine = s.engine := rfl

@[simp] theorem State.setProfile_monitor (k : Fin 8) (p : Profile) : (s.setProfile k p).monitor = s.monitor := rfl

@[simp] theorem State.setProfile_freeCount (k : Fin 8) (p : Profile) : (s.setProfile k p).freeCount = s.freeCount := rfl

/-! ### changeReferences -/

@[simp] theorem State.changeReferences_pending (k : Fin 8) (f : Nat → Nat) : (s.changeReferences k f).pending = s.pending := rfl

@[simp] theorem State.changeReferences_ports (k : Fin 8) (f : Nat → Nat) : (s.changeReferences k f).ports = s.ports := rfl

@[simp] theorem State.changeReferences_plan (k : Fin 8) (f : Nat → Nat) : (s.changeReferences k f).plan = s.plan := rfl

@[simp] theorem State.changeReferences_table (k : Fin 8) (f : Nat → Nat) : (s.changeReferences k f).table = s.table := rfl

@[simp] theorem State.changeReferences_pool (k : Fin 8) (f : Nat → Nat) : (s.changeReferences k f).pool = s.pool := rfl

@[simp] theorem State.changeReferences_levels (k : Fin 8) (f : Nat → Nat) : (s.changeReferences k f).levels = s.levels := rfl

@[simp] theorem State.changeReferences_engine (k : Fin 8) (f : Nat → Nat) : (s.changeReferences k f).engine = s.engine := rfl

@[simp] theorem State.changeReferences_monitor (k : Fin 8) (f : Nat → Nat) : (s.changeReferences k f).monitor = s.monitor := rfl

@[simp] theorem State.changeReferences_freeCount (k : Fin 8) (f : Nat → Nat) : (s.changeReferences k f).freeCount = s.freeCount := rfl

/-! ### setSlot -/

@[simp] theorem State.setSlot_pending (j : SlotId) (x : Slot) : (s.setSlot j x).pending = s.pending := rfl

@[simp] theorem State.setSlot_ports (j : SlotId) (x : Slot) : (s.setSlot j x).ports = s.ports := rfl

@[simp] theorem State.setSlot_plan (j : SlotId) (x : Slot) : (s.setSlot j x).plan = s.plan := rfl

@[simp] theorem State.setSlot_table (j : SlotId) (x : Slot) : (s.setSlot j x).table = s.table := rfl

@[simp] theorem State.setSlot_profiles (j : SlotId) (x : Slot) : (s.setSlot j x).profiles = s.profiles := rfl

@[simp] theorem State.setSlot_levels (j : SlotId) (x : Slot) : (s.setSlot j x).levels = s.levels := rfl

@[simp] theorem State.setSlot_engine (j : SlotId) (x : Slot) : (s.setSlot j x).engine = s.engine := rfl

@[simp] theorem State.setSlot_monitor (j : SlotId) (x : Slot) : (s.setSlot j x).monitor = s.monitor := rfl

@[simp] theorem State.setSlot_freeCount (j : SlotId) (x : Slot) : (s.setSlot j x).freeCount = s.freeCount := rfl

/-! ### send -/

@[simp] theorem State.send_pending (j : SlotId) (m : CarrierMsg) : (s.send j m).pending = s.pending := rfl

@[simp] theorem State.send_ports (j : SlotId) (m : CarrierMsg) : (s.send j m).ports = s.ports := rfl

@[simp] theorem State.send_plan (j : SlotId) (m : CarrierMsg) : (s.send j m).plan = s.plan := rfl

@[simp] theorem State.send_table (j : SlotId) (m : CarrierMsg) : (s.send j m).table = s.table := rfl

@[simp] theorem State.send_profiles (j : SlotId) (m : CarrierMsg) : (s.send j m).profiles = s.profiles := rfl

@[simp] theorem State.send_levels (j : SlotId) (m : CarrierMsg) : (s.send j m).levels = s.levels := rfl

@[simp] theorem State.send_engine (j : SlotId) (m : CarrierMsg) : (s.send j m).engine = s.engine := rfl

@[simp] theorem State.send_monitor (j : SlotId) (m : CarrierMsg) : (s.send j m).monitor = s.monitor := rfl

@[simp] theorem State.send_freeCount (j : SlotId) (m : CarrierMsg) : (s.send j m).freeCount = s.freeCount := rfl

/-! ### setPort -/

@[simp] theorem State.setPort_pending (p : Port) (x : PortState) : (s.setPort p x).pending = s.pending := by cases p <;> rfl

@[simp] theorem State.setPort_plan (p : Port) (x : PortState) : (s.setPort p x).plan = s.plan := by cases p <;> rfl

@[simp] theorem State.setPort_table (p : Port) (x : PortState) : (s.setPort p x).table = s.table := by cases p <;> rfl

@[simp] theorem State.setPort_profiles (p : Port) (x : PortState) : (s.setPort p x).profiles = s.profiles := by cases p <;> rfl

@[simp] theorem State.setPort_pool (p : Port) (x : PortState) : (s.setPort p x).pool = s.pool := by cases p <;> rfl

@[simp] theorem State.setPort_levels (p : Port) (x : PortState) : (s.setPort p x).levels = s.levels := by cases p <;> rfl

@[simp] theorem State.setPort_engine (p : Port) (x : PortState) : (s.setPort p x).engine = s.engine := by cases p <;> rfl

@[simp] theorem State.setPort_monitor (p : Port) (x : PortState) : (s.setPort p x).monitor = s.monitor := by cases p <;> rfl

@[simp] theorem State.setPort_freeCount (p : Port) (x : PortState) : (s.setPort p x).freeCount = s.freeCount := by cases p <;> rfl

/-! ### place -/

@[simp] theorem State.place_pending (p : Port) (f : Frame) : (s.place p f).pending = s.pending := by cases p <;> rfl

@[simp] theorem State.place_plan (p : Port) (f : Frame) : (s.place p f).plan = s.plan := by cases p <;> rfl

@[simp] theorem State.place_table (p : Port) (f : Frame) : (s.place p f).table = s.table := by cases p <;> rfl

@[simp] theorem State.place_profiles (p : Port) (f : Frame) : (s.place p f).profiles = s.profiles := by cases p <;> rfl

@[simp] theorem State.place_pool (p : Port) (f : Frame) : (s.place p f).pool = s.pool := by cases p <;> rfl

@[simp] theorem State.place_levels (p : Port) (f : Frame) : (s.place p f).levels = s.levels := by cases p <;> rfl

@[simp] theorem State.place_engine (p : Port) (f : Frame) : (s.place p f).engine = s.engine := by cases p <;> rfl

@[simp] theorem State.place_monitor (p : Port) (f : Frame) : (s.place p f).monitor = s.monitor := by cases p <;> rfl

@[simp] theorem State.place_freeCount (p : Port) (f : Frame) : (s.place p f).freeCount = s.freeCount := by cases p <;> rfl

/-! ### raise -/

@[simp] theorem State.raise_pending (e : Event) : (s.raise e).pending = s.pending := rfl

@[simp] theorem State.raise_plan (e : Event) : (s.raise e).plan = s.plan := rfl

@[simp] theorem State.raise_table (e : Event) : (s.raise e).table = s.table := rfl

@[simp] theorem State.raise_profiles (e : Event) : (s.raise e).profiles = s.profiles := rfl

@[simp] theorem State.raise_pool (e : Event) : (s.raise e).pool = s.pool := rfl

@[simp] theorem State.raise_levels (e : Event) : (s.raise e).levels = s.levels := rfl

@[simp] theorem State.raise_engine (e : Event) : (s.raise e).engine = s.engine := rfl

@[simp] theorem State.raise_monitor (e : Event) : (s.raise e).monitor = s.monitor := rfl

@[simp] theorem State.raise_freeCount (e : Event) : (s.raise e).freeCount = s.freeCount := rfl

/-! ### raiseIf -/

@[simp] theorem State.raiseIf_pending (c : Bool) (e : Event) : (s.raiseIf c e).pending = s.pending := by cases c <;> rfl

@[simp] theorem State.raiseIf_plan (c : Bool) (e : Event) : (s.raiseIf c e).plan = s.plan := by cases c <;> rfl

@[simp] theorem State.raiseIf_table (c : Bool) (e : Event) : (s.raiseIf c e).table = s.table := by cases c <;> rfl

@[simp] theorem State.raiseIf_profiles (c : Bool) (e : Event) : (s.raiseIf c e).profiles = s.profiles := by cases c <;> rfl

@[simp] theorem State.raiseIf_pool (c : Bool) (e : Event) : (s.raiseIf c e).pool = s.pool := by cases c <;> rfl

@[simp] theorem State.raiseIf_levels (c : Bool) (e : Event) : (s.raiseIf c e).levels = s.levels := by cases c <;> rfl

@[simp] theorem State.raiseIf_engine (c : Bool) (e : Event) : (s.raiseIf c e).engine = s.engine := by cases c <;> rfl

@[simp] theorem State.raiseIf_monitor (c : Bool) (e : Event) : (s.raiseIf c e).monitor = s.monitor := by cases c <;> rfl

@[simp] theorem State.raiseIf_freeCount (c : Bool) (e : Event) : (s.raiseIf c e).freeCount = s.freeCount := by cases c <;> rfl

/-! ### withRepack -/

@[simp] theorem State.withRepack_pending (r : RepackRecord) : (s.withRepack r).pending = s.pending := rfl

@[simp] theorem State.withRepack_ports (r : RepackRecord) : (s.withRepack r).ports = s.ports := rfl

@[simp] theorem State.withRepack_plan (r : RepackRecord) : (s.withRepack r).plan = s.plan := rfl

@[simp] theorem State.withRepack_table (r : RepackRecord) : (s.withRepack r).table = s.table := rfl

@[simp] theorem State.withRepack_profiles (r : RepackRecord) : (s.withRepack r).profiles = s.profiles := rfl

@[simp] theorem State.withRepack_pool (r : RepackRecord) : (s.withRepack r).pool = s.pool := rfl

@[simp] theorem State.withRepack_levels (r : RepackRecord) : (s.withRepack r).levels = s.levels := rfl

@[simp] theorem State.withRepack_monitor (r : RepackRecord) : (s.withRepack r).monitor = s.monitor := rfl

@[simp] theorem State.withRepack_freeCount (r : RepackRecord) : (s.withRepack r).freeCount = s.freeCount := rfl

/-! ### setFrag -/

@[simp] theorem State.setFrag_pending (b : Band) (l : Nat) : (s.setFrag b l).pending = s.pending := rfl

@[simp] theorem State.setFrag_ports (b : Band) (l : Nat) : (s.setFrag b l).ports = s.ports := rfl

@[simp] theorem State.setFrag_plan (b : Band) (l : Nat) : (s.setFrag b l).plan = s.plan := rfl

@[simp] theorem State.setFrag_table (b : Band) (l : Nat) : (s.setFrag b l).table = s.table := rfl

@[simp] theorem State.setFrag_profiles (b : Band) (l : Nat) : (s.setFrag b l).profiles = s.profiles := rfl

@[simp] theorem State.setFrag_pool (b : Band) (l : Nat) : (s.setFrag b l).pool = s.pool := rfl

@[simp] theorem State.setFrag_levels (b : Band) (l : Nat) : (s.setFrag b l).levels = s.levels := rfl

@[simp] theorem State.setFrag_monitor (b : Band) (l : Nat) : (s.setFrag b l).monitor = s.monitor := rfl

@[simp] theorem State.setFrag_freeCount (b : Band) (l : Nat) : (s.setFrag b l).freeCount = s.freeCount := rfl

/-! ### withMonitor -/

@[simp] theorem State.withMonitor_pending (f : Monitor → Monitor) : (s.withMonitor f).pending = s.pending := rfl

@[simp] theorem State.withMonitor_ports (f : Monitor → Monitor) : (s.withMonitor f).ports = s.ports := rfl

@[simp] theorem State.withMonitor_plan (f : Monitor → Monitor) : (s.withMonitor f).plan = s.plan := rfl

@[simp] theorem State.withMonitor_table (f : Monitor → Monitor) : (s.withMonitor f).table = s.table := rfl

@[simp] theorem State.withMonitor_profiles (f : Monitor → Monitor) : (s.withMonitor f).profiles = s.profiles := rfl

@[simp] theorem State.withMonitor_pool (f : Monitor → Monitor) : (s.withMonitor f).pool = s.pool := rfl

@[simp] theorem State.withMonitor_levels (f : Monitor → Monitor) : (s.withMonitor f).levels = s.levels := rfl

@[simp] theorem State.withMonitor_engine (f : Monitor → Monitor) : (s.withMonitor f).engine = s.engine := rfl

@[simp] theorem State.withMonitor_freeCount (f : Monitor → Monitor) : (s.withMonitor f).freeCount = s.freeCount := rfl

/-! ### setPosition -/

@[simp] theorem State.setPosition_pending (n : Fin 32) (p : Position) : (s.setPosition n p).pending = s.pending := rfl

@[simp] theorem State.setPosition_ports (n : Fin 32) (p : Position) : (s.setPosition n p).ports = s.ports := rfl

@[simp] theorem State.setPosition_plan (n : Fin 32) (p : Position) : (s.setPosition n p).plan = s.plan := rfl

@[simp] theorem State.setPosition_table (n : Fin 32) (p : Position) : (s.setPosition n p).table = s.table := rfl

@[simp] theorem State.setPosition_profiles (n : Fin 32) (p : Position) : (s.setPosition n p).profiles = s.profiles := rfl

@[simp] theorem State.setPosition_pool (n : Fin 32) (p : Position) : (s.setPosition n p).pool = s.pool := rfl

@[simp] theorem State.setPosition_levels (n : Fin 32) (p : Position) : (s.setPosition n p).levels = s.levels := rfl

@[simp] theorem State.setPosition_engine (n : Fin 32) (p : Position) : (s.setPosition n p).engine = s.engine := rfl

@[simp] theorem State.setPosition_freeCount (n : Fin 32) (p : Position) : (s.setPosition n p).freeCount = s.freeCount := rfl

/-! ### setThreshold -/

@[simp] theorem State.setThreshold_pending (n : Fin 32) (v : Byte) : (s.setThreshold n v).pending = s.pending := rfl

@[simp] theorem State.setThreshold_ports (n : Fin 32) (v : Byte) : (s.setThreshold n v).ports = s.ports := rfl

@[simp] theorem State.setThreshold_plan (n : Fin 32) (v : Byte) : (s.setThreshold n v).plan = s.plan := rfl

@[simp] theorem State.setThreshold_table (n : Fin 32) (v : Byte) : (s.setThreshold n v).table = s.table := rfl

@[simp] theorem State.setThreshold_profiles (n : Fin 32) (v : Byte) : (s.setThreshold n v).profiles = s.profiles := rfl

@[simp] theorem State.setThreshold_pool (n : Fin 32) (v : Byte) : (s.setThreshold n v).pool = s.pool := rfl

@[simp] theorem State.setThreshold_levels (n : Fin 32) (v : Byte) : (s.setThreshold n v).levels = s.levels := rfl

@[simp] theorem State.setThreshold_engine (n : Fin 32) (v : Byte) : (s.setThreshold n v).engine = s.engine := rfl

@[simp] theorem State.setThreshold_freeCount (n : Fin 32) (v : Byte) : (s.setThreshold n v).freeCount = s.freeCount := rfl

/-! ### withPlan -/

@[simp] theorem State.withPlan_pending (p : PlanStore) : (s.withPlan p).pending = s.pending := rfl

@[simp] theorem State.withPlan_ports (p : PlanStore) : (s.withPlan p).ports = s.ports := rfl

@[simp] theorem State.withPlan_table (p : PlanStore) : (s.withPlan p).table = s.table := rfl

@[simp] theorem State.withPlan_profiles (p : PlanStore) : (s.withPlan p).profiles = s.profiles := rfl

@[simp] theorem State.withPlan_pool (p : PlanStore) : (s.withPlan p).pool = s.pool := rfl

@[simp] theorem State.withPlan_levels (p : PlanStore) : (s.withPlan p).levels = s.levels := rfl

@[simp] theorem State.withPlan_engine (p : PlanStore) : (s.withPlan p).engine = s.engine := rfl

@[simp] theorem State.withPlan_monitor (p : PlanStore) : (s.withPlan p).monitor = s.monitor := rfl

@[simp] theorem State.withPlan_freeCount (p : PlanStore) : (s.withPlan p).freeCount = s.freeCount := rfl

/-! ### setReading -/

@[simp] theorem State.setReading_pending (p : Byte) : (s.setReading p).pending = s.pending := rfl

@[simp] theorem State.setReading_ports (p : Byte) : (s.setReading p).ports = s.ports := rfl

@[simp] theorem State.setReading_plan (p : Byte) : (s.setReading p).plan = s.plan := rfl

@[simp] theorem State.setReading_table (p : Byte) : (s.setReading p).table = s.table := rfl

@[simp] theorem State.setReading_profiles (p : Byte) : (s.setReading p).profiles = s.profiles := rfl

@[simp] theorem State.setReading_pool (p : Byte) : (s.setReading p).pool = s.pool := rfl

@[simp] theorem State.setReading_engine (p : Byte) : (s.setReading p).engine = s.engine := rfl

@[simp] theorem State.setReading_monitor (p : Byte) : (s.setReading p).monitor = s.monitor := rfl

@[simp] theorem State.setReading_freeCount (p : Byte) : (s.setReading p).freeCount = s.freeCount := rfl

/-! ### setClamped -/

@[simp] theorem State.setClamped_pending (c : Bool) : (s.setClamped c).pending = s.pending := rfl

@[simp] theorem State.setClamped_ports (c : Bool) : (s.setClamped c).ports = s.ports := rfl

@[simp] theorem State.setClamped_plan (c : Bool) : (s.setClamped c).plan = s.plan := rfl

@[simp] theorem State.setClamped_table (c : Bool) : (s.setClamped c).table = s.table := rfl

@[simp] theorem State.setClamped_profiles (c : Bool) : (s.setClamped c).profiles = s.profiles := rfl

@[simp] theorem State.setClamped_pool (c : Bool) : (s.setClamped c).pool = s.pool := rfl

@[simp] theorem State.setClamped_engine (c : Bool) : (s.setClamped c).engine = s.engine := rfl

@[simp] theorem State.setClamped_monitor (c : Bool) : (s.setClamped c).monitor = s.monitor := rfl

@[simp] theorem State.setClamped_freeCount (c : Bool) : (s.setClamped c).freeCount = s.freeCount := rfl

/-! ### setBudget -/

@[simp] theorem State.setBudget_pending (b : Band) (n : Nat) : (s.setBudget b n).pending = s.pending := rfl

@[simp] theorem State.setBudget_ports (b : Band) (n : Nat) : (s.setBudget b n).ports = s.ports := rfl

@[simp] theorem State.setBudget_plan (b : Band) (n : Nat) : (s.setBudget b n).plan = s.plan := rfl

@[simp] theorem State.setBudget_table (b : Band) (n : Nat) : (s.setBudget b n).table = s.table := rfl

@[simp] theorem State.setBudget_profiles (b : Band) (n : Nat) : (s.setBudget b n).profiles = s.profiles := rfl

@[simp] theorem State.setBudget_pool (b : Band) (n : Nat) : (s.setBudget b n).pool = s.pool := rfl

@[simp] theorem State.setBudget_engine (b : Band) (n : Nat) : (s.setBudget b n).engine = s.engine := rfl

@[simp] theorem State.setBudget_monitor (b : Band) (n : Nat) : (s.setBudget b n).monitor = s.monitor := rfl

@[simp] theorem State.setBudget_freeCount (b : Band) (n : Nat) : (s.setBudget b n).freeCount = s.freeCount := rfl

/-! ### spendFree -/

@[simp] theorem State.spendFree_pending (n : Nat) : (s.spendFree n).pending = s.pending := rfl

@[simp] theorem State.spendFree_ports (n : Nat) : (s.spendFree n).ports = s.ports := rfl

@[simp] theorem State.spendFree_plan (n : Nat) : (s.spendFree n).plan = s.plan := rfl

@[simp] theorem State.spendFree_table (n : Nat) : (s.spendFree n).table = s.table := rfl

@[simp] theorem State.spendFree_profiles (n : Nat) : (s.spendFree n).profiles = s.profiles := rfl

@[simp] theorem State.spendFree_pool (n : Nat) : (s.spendFree n).pool = s.pool := rfl

@[simp] theorem State.spendFree_levels (n : Nat) : (s.spendFree n).levels = s.levels := rfl

@[simp] theorem State.spendFree_engine (n : Nat) : (s.spendFree n).engine = s.engine := rfl

@[simp] theorem State.spendFree_monitor (n : Nat) : (s.spendFree n).monitor = s.monitor := rfl

@[simp] theorem State.setEntry_table_occupancy (i : Fin 64) (e : Entry) : (s.setEntry i e).table.occupancy = s.table.occupancy := rfl

@[simp] theorem State.setEntry_table_counts (i : Fin 64) (e : Entry) : (s.setEntry i e).table.counts = s.table.counts := rfl

@[simp] theorem State.setEntry_table_planFrozen (i : Fin 64) (e : Entry) : (s.setEntry i e).table.planFrozen = s.table.planFrozen := rfl

@[simp] theorem State.modGrant_table_occupancy (i : Fin 64) (f : Grant → Grant) : (s.modGrant i f).table.occupancy = s.table.occupancy := by unfold State.modGrant; split <;> rfl

@[simp] theorem State.modGrant_table_counts (i : Fin 64) (f : Grant → Grant) : (s.modGrant i f).table.counts = s.table.counts := by unfold State.modGrant; split <;> rfl

@[simp] theorem State.modGrant_table_planFrozen (i : Fin 64) (f : Grant → Grant) : (s.modGrant i f).table.planFrozen = s.table.planFrozen := by unfold State.modGrant; split <;> rfl

@[simp] theorem State.setOutcome_table_occupancy (i : Fin 64) (o : LastOutcome) : (s.setOutcome i o).table.occupancy = s.table.occupancy := rfl

@[simp] theorem State.setOutcome_table_counts (i : Fin 64) (o : LastOutcome) : (s.setOutcome i o).table.counts = s.table.counts := rfl

@[simp] theorem State.setOutcome_table_planFrozen (i : Fin 64) (o : LastOutcome) : (s.setOutcome i o).table.planFrozen = s.table.planFrozen := rfl

@[simp] theorem State.setOccupancy_table_entries (b : Band) (l : List OccItem) : (s.setOccupancy b l).table.entries = s.table.entries := rfl

@[simp] theorem State.setOccupancy_table_counts (b : Band) (l : List OccItem) : (s.setOccupancy b l).table.counts = s.table.counts := rfl

@[simp] theorem State.setOccupancy_table_planFrozen (b : Band) (l : List OccItem) : (s.setOccupancy b l).table.planFrozen = s.table.planFrozen := rfl

@[simp] theorem State.changeCount_table_entries (n : Nat) (f : Nat → Nat) : (s.changeCount n f).table.entries = s.table.entries := by unfold State.changeCount; split <;> rfl

@[simp] theorem State.changeCount_table_occupancy (n : Nat) (f : Nat → Nat) : (s.changeCount n f).table.occupancy = s.table.occupancy := by unfold State.changeCount; split <;> rfl

@[simp] theorem State.changeCount_table_planFrozen (n : Nat) (f : Nat → Nat) : (s.changeCount n f).table.planFrozen = s.table.planFrozen := by unfold State.changeCount; split <;> rfl

@[simp] theorem State.setPlanFrozen_table_entries (x : Bool) : (s.setPlanFrozen x).table.entries = s.table.entries := rfl

@[simp] theorem State.setPlanFrozen_table_occupancy (x : Bool) : (s.setPlanFrozen x).table.occupancy = s.table.occupancy := rfl

@[simp] theorem State.setPlanFrozen_table_counts (x : Bool) : (s.setPlanFrozen x).table.counts = s.table.counts := rfl

@[simp] theorem State.setSlot_pool_sent (j : SlotId) (x : Slot) : (s.setSlot j x).pool.sent = s.pool.sent := rfl

@[simp] theorem State.setSlot_pool_startUp (j : SlotId) (x : Slot) : (s.setSlot j x).pool.startUp = s.pool.startUp := rfl

@[simp] theorem State.send_pool_slots (j : SlotId) (m : CarrierMsg) : (s.send j m).pool.slots = s.pool.slots := rfl

@[simp] theorem State.send_pool_startUp (j : SlotId) (m : CarrierMsg) : (s.send j m).pool.startUp = s.pool.startUp := rfl

@[simp] theorem State.raise_ports_resetHeld (e : Event) : (s.raise e).ports.resetHeld = s.ports.resetHeld := rfl

@[simp] theorem State.raise_ports_management (e : Event) : (s.raise e).ports.management = s.ports.management := rfl

@[simp] theorem State.raise_ports_tenant (e : Event) : (s.raise e).ports.tenant = s.ports.tenant := rfl

@[simp] theorem State.raise_ports_priority (e : Event) : (s.raise e).ports.priority = s.ports.priority := rfl

@[simp] theorem State.raise_ports_pointer (e : Event) : (s.raise e).ports.pointer = s.ports.pointer := rfl

@[simp] theorem State.raise_ports_mask (e : Event) : (s.raise e).ports.mask = s.ports.mask := rfl

@[simp] theorem State.raiseIf_ports_resetHeld (c : Bool) (e : Event) : (s.raiseIf c e).ports.resetHeld = s.ports.resetHeld := by cases c <;> rfl

@[simp] theorem State.raiseIf_ports_management (c : Bool) (e : Event) : (s.raiseIf c e).ports.management = s.ports.management := by cases c <;> rfl

@[simp] theorem State.raiseIf_ports_tenant (c : Bool) (e : Event) : (s.raiseIf c e).ports.tenant = s.ports.tenant := by cases c <;> rfl

@[simp] theorem State.raiseIf_ports_priority (c : Bool) (e : Event) : (s.raiseIf c e).ports.priority = s.ports.priority := by cases c <;> rfl

@[simp] theorem State.raiseIf_ports_pointer (c : Bool) (e : Event) : (s.raiseIf c e).ports.pointer = s.ports.pointer := by cases c <;> rfl

@[simp] theorem State.raiseIf_ports_mask (c : Bool) (e : Event) : (s.raiseIf c e).ports.mask = s.ports.mask := by cases c <;> rfl

@[simp] theorem State.setPort_ports_resetHeld (p : Port) (x : PortState) : (s.setPort p x).ports.resetHeld = s.ports.resetHeld := by cases p <;> rfl

@[simp] theorem State.setPort_ports_priority (p : Port) (x : PortState) : (s.setPort p x).ports.priority = s.ports.priority := by cases p <;> rfl

@[simp] theorem State.setPort_ports_pointer (p : Port) (x : PortState) : (s.setPort p x).ports.pointer = s.ports.pointer := by cases p <;> rfl

@[simp] theorem State.setPort_ports_summary (p : Port) (x : PortState) : (s.setPort p x).ports.summary = s.ports.summary := by cases p <;> rfl

@[simp] theorem State.setPort_ports_mask (p : Port) (x : PortState) : (s.setPort p x).ports.mask = s.ports.mask := by cases p <;> rfl

@[simp] theorem State.place_ports_resetHeld (p : Port) (f : Frame) : (s.place p f).ports.resetHeld = s.ports.resetHeld := by cases p <;> rfl

@[simp] theorem State.place_ports_priority (p : Port) (f : Frame) : (s.place p f).ports.priority = s.ports.priority := by cases p <;> rfl

@[simp] theorem State.place_ports_pointer (p : Port) (f : Frame) : (s.place p f).ports.pointer = s.ports.pointer := by cases p <;> rfl

@[simp] theorem State.place_ports_summary (p : Port) (f : Frame) : (s.place p f).ports.summary = s.ports.summary := by cases p <;> rfl

@[simp] theorem State.place_ports_mask (p : Port) (f : Frame) : (s.place p f).ports.mask = s.ports.mask := by cases p <;> rfl

/-! ### Reads after writes -/

@[simp] theorem State.entry_setEntry_same (i : Fin 64) (e : Entry) : (s.setEntry i e).entry i = e := by
  simp [State.entry, State.setEntry]

theorem State.entry_setEntry_ne {i k : Fin 64} (h : k ≠ i) (e : Entry) : (s.setEntry i e).entry k = s.entry k := by
  have : (i : Nat) ≠ k := fun e => h (Fin.ext e.symm)
  simp [State.entry, State.setEntry, this]

@[simp] theorem State.grant_setEntry_same (i : Fin 64) (e : Entry) : (s.setEntry i e).grant? i = e.grant := by
  simp [State.grant?]

theorem State.grant_setEntry_ne {i k : Fin 64} (h : k ≠ i) (e : Entry) : (s.setEntry i e).grant? k = s.grant? k := by
  simp [State.grant?, State.entry_setEntry_ne s h]

@[simp] theorem State.slot_setSlot_same (j : SlotId) (x : Slot) : (s.setSlot j x).slot j = x := by
  simp [State.slot, State.setSlot]

theorem State.slot_setSlot_ne {j k : SlotId} (h : k ≠ j) (x : Slot) : (s.setSlot j x).slot k = s.slot k := by
  have : (j : Nat) ≠ k := fun e => h (Fin.ext e.symm)
  simp [State.slot, State.setSlot, this]

@[simp] theorem State.slot_send (j k : SlotId) (m : CarrierMsg) : (s.send j m).slot k = s.slot k := rfl

@[simp] theorem State.profile_setProfile_same (k : Fin 8) (p : Profile) : (s.setProfile k p).profile k = p := by
  simp [State.profile, State.setProfile]

/-- A port written with what it holds is the same state. -/
@[simp] theorem State.setPort_self (p : Port) : s.setPort p (s.port p) = s := by cases p <;> rfl

@[simp] theorem State.port_setPort_same (p : Port) (x : PortState) : (s.setPort p x).port p = x := by
  cases p <;> rfl

theorem State.port_setPort_other {p q : Port} (h : q ≠ p) (x : PortState) : (s.setPort p x).port q = s.port q := by
  cases p <;> cases q <;> first | rfl | exact absurd rfl h

/-- A named read that looks at one block only is the same in two states with the same block. -/
theorem State.entry_congr {s t : State} (h : t.table.entries = s.table.entries) (i : Fin 64) : t.entry i = s.entry i := by
  simp [State.entry, h]

theorem State.grant_congr {s t : State} (h : t.table.entries = s.table.entries) (i : Fin 64) :
    t.grant? i = s.grant? i := by
  simp [State.grant?, State.entry_congr h]

theorem State.slot_congr {s t : State} (h : t.pool = s.pool) (j : SlotId) : t.slot j = s.slot j := by
  simp [State.slot, h]

theorem State.port_congr {s t : State} (h : t.ports = s.ports) (p : Port) : t.port p = s.port p := by
  cases p <;> simp [State.port, h]

/-! ### A last outcome written -/

/-- Entries after a last outcome is written. -/
theorem State.entry_setOutcome (s : State) (i : Fin 64) (o : LastOutcome) (k : Fin 64) :
    (s.setOutcome i o).entry k = { s.entry k with lastOutcome := if k = i then o else (s.entry k).lastOutcome } := by
  by_cases h : k = i
  · subst h; simp [State.setOutcome]
  · simp [State.setOutcome, State.entry_setEntry_ne _ h, h]

/-- A last outcome is no part of a grant. -/
theorem State.grant_setOutcome (s : State) (i : Fin 64) (o : LastOutcome) (k : Fin 64) :
    (s.setOutcome i o).grant? k = s.grant? k := by
  simp [State.grant?, State.entry_setOutcome]

/-- Two states are equal whose entries, and all else, are equal. -/
theorem State.ext_entries {s t : State} (e : ∀ k, t.entry k = s.entry k)
    (r : { t with table := { t.table with entries := s.table.entries } } = s) : t = s := by
  have : t.table.entries = s.table.entries := Vector.ext fun k hk => by simpa [State.entry] using e ⟨k, hk⟩
  rw [← r, ← this]

/-! ### The grant an entry holds, changed -/

theorem State.modGrant_some {i : Fin 64} {g : Grant} (h : s.grant? i = some g) (f : Grant → Grant) :
    s.modGrant i f = s.setEntry i { s.entry i with grant := some (f g) } := by
  simp [State.modGrant, h]

theorem State.grant_modGrant_same {i : Fin 64} {g : Grant} (h : s.grant? i = some g) (f : Grant → Grant) :
    (s.modGrant i f).grant? i = some (f g) := by
  simp [State.modGrant_some s h]

theorem State.entry_modGrant_ne {i k : Fin 64} (h : k ≠ i) (f : Grant → Grant) : (s.modGrant i f).entry k = s.entry k := by
  unfold State.modGrant
  split
  · rfl
  · exact State.entry_setEntry_ne s h _

end Sys2Proof.Machine
end

