-- ==== Sys2Proof/Laws/Slots.lean ====
section
/-! SUPPORT. What each slot operation does to its slot, that it leaves every other slot alone, and that it keeps the law of
slots. -/

namespace Sys2Proof.Machine

variable {s t v : State}

/-! ### Slots left alone -/

theorem SlotsKept.refl (l : List SlotId) : SlotsKept s s l := fun _ _ => ⟨rfl, rfl⟩

theorem SlotsKept.trans {l m : List SlotId} (h : SlotsKept s t l) (k : SlotsKept t v m) : SlotsKept s v (l ++ m) := by
  intro j hj
  simp only [List.mem_append, not_or] at hj
  exact ⟨(k j hj.2).1.trans (h j hj.1).1, (k j hj.2).2.trans (h j hj.1).2⟩

theorem SlotsKept.mono {l m : List SlotId} (h : SlotsKept s t l) (sub : ∀ j, j ∈ l → j ∈ m) : SlotsKept s t m :=
  fun j hj => h j fun hm => hj (sub j hm)

theorem SlotsKept.of_pool (h : t.pool = s.pool) (l : List SlotId) : SlotsKept s t l :=
  fun j _ => ⟨State.slot_congr h j, by rw [h]⟩

/-- What a slot record becomes when it is written and sent one message. -/
theorem SlotSent.of_setSlot (s : State) (j : SlotId) (x : Slot) (m : CarrierMsg) :
    SlotSent s ((s.setSlot j x).send j m) j x m ∧ SlotsKept s ((s.setSlot j x).send j m) [j] := by
  refine ⟨⟨by simp, by simp [State.send, State.setSlot]⟩, fun k hk => ⟨?_, ?_⟩⟩
  · simp only [List.mem_singleton] at hk
    rw [State.slot_send, State.slot_setSlot_ne _ hk]
  · simp only [List.mem_singleton] at hk
    have : j.val ≠ k.val := fun h => hk (Fin.ext h.symm)
    simp [State.send, State.setSlot, this]

/-! ### What each operation does -/

/-- A halted slot is IDLE with no holder and its fail count as it was. -/
theorem State.haltSlot_spec (s : State) {j : SlotId} (h : (s.slot j).state ≠ .retired) :
    SlotSent s (s.haltSlot j) j { s.slot j with state := .idle, holder := none } .halt ∧
      SlotsKept s (s.haltSlot j) [j] := by
  rw [State.haltSlot, if_neg h]
  exact SlotSent.of_setSlot s j _ _

/-- A HALT of a RETIRED slot is not sent. -/
theorem State.haltSlot_retired (s : State) {j : SlotId} (h : (s.slot j).state = .retired) : s.haltSlot j = s := by
  rw [State.haltSlot, if_pos h]

/-- A ramped slot is RAMPING with its holder and fail count as they were. -/
theorem State.rampSlot_spec (s : State) {j : SlotId} (n : Nat) (h : (s.slot j).state ≠ .retired) :
    SlotSent s (s.rampSlot j n) j { s.slot j with state := .ramping } (.ramp n) ∧ SlotsKept s (s.rampSlot j n) [j] := by
  rw [State.rampSlot, if_neg h]
  exact SlotSent.of_setSlot s j _ _

/-- A retired slot is RETIRED with no holder. -/
theorem State.retireSlot_spec (s : State) (j : SlotId) (n : Nat) :
    SlotSent s (s.retireSlot j n) j { state := .retired, fails := n, holder := none } .halt ∧
      SlotsKept s (s.retireSlot j n) [j] :=
  SlotSent.of_setSlot s j _ _

/-- A slot whose attempt failed has one fail more, and is IDLE or, at three, RETIRED. -/
theorem State.failSlot_spec (s : State) (j : SlotId) :
    SlotSent s (s.failSlot j) j
        { state := if (s.slot j).fails + 1 < 3 then .idle else .retired, fails := (s.slot j).fails + 1, holder := none }
        .halt ∧
      SlotsKept s (s.failSlot j) [j] := by
  unfold State.failSlot
  dsimp only
  by_cases h : Config.retireCount ≤ (s.slot j).fails + 1
  · rw [if_pos h, if_neg (by simp only [Config.retireCount] at h; omega)]
    exact State.retireSlot_spec s j _
  · rw [if_neg h, if_pos (by simp only [Config.retireCount] at h; omega)]
    exact SlotSent.of_setSlot s j _ _

/-- The start of an attempt: the slot is TUNING for the grant and TUNE is sent toward the span from the start given. -/
theorem State.beginAttempt_spec (s : State) {j : SlotId} {i : Fin 64} {g : Grant} (hg : s.grant? i = some g)
    (h : (s.slot j).state ≠ .retired) (c : Caller) (second : Bool) (start : Nat) :
    SlotSent s (s.beginAttempt j i c second start) j
        { s.slot j with
          state := .tuning { caller := c, second, timeout := Config.lockTimeout }, holder := some (s.handleOf i) }
        (.tune g.band start g.width (s.profile g.profile).order (s.levels.effective g)) ∧
      SlotsKept s (s.beginAttempt j i c second start) [j] := by
  rw [State.beginAttempt, hg]
  dsimp only
  rw [if_neg h]
  exact SlotSent.of_setSlot s j _ _

/-! ### The law of slots -/

/-- A slot that is written keeps the law when what is written is lawful. -/
theorem State.SlotsLawful.setSlot (h : s.SlotsLawful) {j : SlotId} {x : Slot} (hx : x.Lawful) :
    (s.setSlot j x).SlotsLawful := by
  intro k
  by_cases hk : k = j
  · subst hk; simpa using hx
  · rw [State.slot_setSlot_ne _ hk]; exact h k

theorem State.SlotsLawful.of_slots (h : s.SlotsLawful) (e : t.pool.slots = s.pool.slots) : t.SlotsLawful := by
  intro k
  have : t.slot k = s.slot k := by simp [State.slot, e]
  rw [this]; exact h k

theorem State.SlotsLawful.haltSlot (h : s.SlotsLawful) (j : SlotId) : (s.haltSlot j).SlotsLawful := by
  unfold State.haltSlot
  split
  · exact h
  · rename_i hr
    refine State.SlotsLawful.of_slots (h.setSlot (j := j) (x := { s.slot j with state := .idle, holder := none }) ?_) rfl
    have hf : (s.slot j).fails ≠ 3 := fun hf => hr ((h j).retired.mpr hf)
    exact ⟨(h j).bounded, by simp [hf], by simp⟩

theorem State.SlotsLawful.haltPart (h : s.SlotsLawful) (p : Option SlotId) : (s.haltPart p).SlotsLawful := by
  cases p with
  | none => exact h
  | some j => exact h.haltSlot j

theorem State.SlotsLawful.rampSlot (h : s.SlotsLawful) (j : SlotId) (n : Nat) : (s.rampSlot j n).SlotsLawful := by
  unfold State.rampSlot
  split
  · exact h
  · rename_i hr
    refine State.SlotsLawful.of_slots (h.setSlot (j := j) (x := { s.slot j with state := .ramping }) ?_) rfl
    have hf : (s.slot j).fails ≠ 3 := fun hf => hr ((h j).retired.mpr hf)
    exact ⟨(h j).bounded, by simp [hf], by simp⟩

theorem State.SlotsLawful.retireSlot (h : s.SlotsLawful) (j : SlotId) : (s.retireSlot j 3).SlotsLawful :=
  State.SlotsLawful.of_slots (h.setSlot (j := j) (x := { state := .retired, fails := 3, holder := none })
    ⟨by decide, by simp, by simp⟩) rfl

theorem State.SlotsLawful.failSlot (h : s.SlotsLawful) {j : SlotId} (hr : (s.slot j).state ≠ .retired) :
    (s.failSlot j).SlotsLawful := by
  have hf : (s.slot j).fails ≠ 3 := fun hf => hr ((h j).retired.mpr hf)
  have hb := (h j).bounded
  unfold State.failSlot
  dsimp only
  by_cases h3 : Config.retireCount ≤ (s.slot j).fails + 1
  · have : (s.slot j).fails + 1 = 3 := by simp only [Config.retireCount] at h3; omega
    rw [if_pos h3, this]
    exact h.retireSlot j
  · rw [if_neg h3]
    simp only [Config.retireCount] at h3
    refine State.SlotsLawful.of_slots (h.setSlot (j := j)
      (x := { state := .idle, fails := (s.slot j).fails + 1, holder := none }) ?_) rfl
    exact ⟨by simp; omega, by simp; omega, by simp⟩

theorem State.SlotsLawful.countLoss (h : s.SlotsLawful) {j : SlotId} (hr : (s.slot j).state = .carrying) :
    (s.countLoss j).SlotsLawful := by
  have hf : (s.slot j).fails ≠ 3 := fun hf => by
    have := (h j).retired.mpr hf
    simp [hr] at this
  have hb := (h j).bounded
  unfold State.countLoss
  dsimp only
  by_cases h3 : Config.retireCount ≤ (s.slot j).fails + 1
  · have : (s.slot j).fails + 1 = 3 := by simp only [Config.retireCount] at h3; omega
    rw [if_pos h3, this]
    exact h.retireSlot j
  · rw [if_neg h3]
    simp only [Config.retireCount] at h3
    exact h.setSlot ⟨by simp; omega, by simp [hr]; omega, by simp [hr]⟩

theorem State.SlotsLawful.lockSlot (h : s.SlotsLawful) (j : SlotId) : (s.lockSlot j).SlotsLawful :=
  h.setSlot ⟨by simp, by simp, by simp⟩

theorem State.SlotsLawful.beginAttempt (h : s.SlotsLawful) (j : SlotId) (i : Fin 64) (c : Caller) (x : Bool) (n : Nat) :
    (s.beginAttempt j i c x n).SlotsLawful := by
  unfold State.beginAttempt
  split
  · exact h
  · split
    · exact h
    · rename_i hr
      have hf : (s.slot j).fails ≠ 3 := fun hf => hr ((h j).retired.mpr hf)
      refine State.SlotsLawful.of_slots (h.setSlot (j := j) ?_) rfl
      exact ⟨(h j).bounded, by simp [hf], by simp⟩

/-- A slot that is selected is IDLE. -/
theorem State.selectSlot_idle {b : Band} {n : Nat} {p : Option SlotId} {j : SlotId} (h : s.selectSlot b n p = some j) :
    (s.slot j).state = .idle := by
  have mem : ∀ (l : List SlotId) k, s.fewestFails l = some k → k ∈ l := by
    intro l
    induction l with
    | nil => simp [State.fewestFails]
    | cons a rest ih =>
      intro k hk
      simp only [State.fewestFails] at hk
      split at hk
      · simp at hk; simp [hk]
      · rename_i x hx
        split at hk <;> simp at hk <;> subst hk
        · exact List.mem_cons_of_mem _ (ih _ hx)
        · simp
  unfold State.selectSlot at h
  dsimp only at h
  split at h
  · have := mem _ _ h
    simp [State.idleSlots] at this
    exact this.2.1
  · simp at h

end Sys2Proof.Machine
end

