-- ==== Sys2Proof/Laws/Grants.lean ====
section
/-! SUPPORT. What the operations on grant records do to their entry, and that they leave every other entry alone. -/

namespace Sys2Proof.Machine

variable {s t v : State}

/-! ### Entries left alone -/

theorem EntriesKept.refl (l : List (Fin 64)) : EntriesKept s s l := fun _ _ => rfl

theorem EntriesKept.trans {l m : List (Fin 64)} (h : EntriesKept s t l) (k : EntriesKept t v m) :
    EntriesKept s v (l ++ m) := by
  intro i hi
  simp only [List.mem_append, not_or] at hi
  exact (k i hi.2).trans (h i hi.1)

theorem EntriesKept.mono {l m : List (Fin 64)} (h : EntriesKept s t l) (sub : ∀ i, i ∈ l → i ∈ m) : EntriesKept s t m :=
  fun i hi => h i fun hl => hi (sub i hl)

/-- Two updates of one entry leave every other entry alone. -/
theorem EntriesKept.twice {i : Fin 64} (h : EntriesKept s t [i]) (k : EntriesKept t v [i]) : EntriesKept s v [i] :=
  (h.trans k).mono (by simp)

theorem EntriesKept.of_entries (h : t.table.entries = s.table.entries) (l : List (Fin 64)) : EntriesKept s t l :=
  fun i _ => State.entry_congr h i

theorem EntriesKept.of_table (h : t.table = s.table) (l : List (Fin 64)) : EntriesKept s t l :=
  EntriesKept.of_entries (by rw [h]) l

theorem EntriesKept.setEntry (s : State) (i : Fin 64) (e : Entry) : EntriesKept s (s.setEntry i e) [i] := by
  intro k hk
  simp only [List.mem_singleton] at hk
  exact State.entry_setEntry_ne _ hk e

theorem EntriesKept.modGrant (s : State) (i : Fin 64) (f : Grant → Grant) : EntriesKept s (s.modGrant i f) [i] := by
  intro k hk
  simp only [List.mem_singleton] at hk
  exact State.entry_modGrant_ne _ hk f

/-! ### What each operation does to its entry -/

theorem State.entry_modGrant_same (s : State) {i : Fin 64} {g : Grant} (h : s.grant? i = some g) (f : Grant → Grant) :
    (s.modGrant i f).entry i = { s.entry i with grant := some (f g) } := by
  rw [State.modGrant_some _ h]; simp

theorem State.entry_setOutcome_same (s : State) (i : Fin 64) (o : LastOutcome) :
    (s.setOutcome i o).entry i = { s.entry i with lastOutcome := o } := by
  simp [State.setOutcome]

/-- An entry that becomes FREE keeps its tenant and last outcome, and its generation advances. -/
theorem State.entry_freeEntry_same (s : State) {i : Fin 64} {g : Grant} (h : s.grant? i = some g) :
    (s.freeEntry i).entry i = { s.entry i with generation := (s.entry i).generation + 1, grant := none } := by
  unfold State.freeEntry
  rw [h]
  dsimp only
  rw [State.entry_congr (s := s.setEntry i { s.entry i with generation := (s.entry i).generation + 1, grant := none })
    (by simp) i]
  exact State.entry_setEntry_same _ i _

theorem EntriesKept.freeEntry (s : State) (i : Fin 64) : EntriesKept s (s.freeEntry i) [i] := by
  unfold State.freeEntry
  cases h : s.grant? i with
  | none => exact EntriesKept.refl _
  | some g =>
    dsimp only
    refine (EntriesKept.setEntry s i { s.entry i with generation := (s.entry i).generation + 1, grant := none }).twice ?_
    exact EntriesKept.of_entries (by simp) _

/-- The load an entry's grant counts after a recount, in the states in which it follows the effective level. -/
theorem LevelUnit.recount_follows (u : LevelUnit) {g : Grant} (h : g.state.follows = true) :
    u.recount g = { g with counted := g.copies * (g.width * weight (u.effective g)) } := by
  cases hs : g.state <;> simp [hs, GrantState.follows] at h <;> simp [LevelUnit.recount, hs, LevelUnit.loadOf]

end Sys2Proof.Machine
end

