-- ==== Sys2Proof/Laws/Kept.lean ====
section
/-! SUPPORT. What each shared operation leaves as it was: one lemma per operation and
field of State it does not touch, so that a proof about a command does not unfold the
operations it goes through. -/

open Sys2Proof

namespace Sys2Proof.Machine

set_option Elab.async false

variable (s : State)

/-! ### haltSlot -/

@[simp] theorem State.haltSlot_pending (j : SlotId) : (s.haltSlot j).pending = s.pending := by
  unfold State.haltSlot; (try dsimp only); (repeat' split) <;> simp

@[simp] theorem State.haltSlot_ports (j : SlotId) : (s.haltSlot j).ports = s.ports := by
  unfold State.haltSlot; (try dsimp only); (repeat' split) <;> simp

@[simp] theorem State.haltSlot_plan (j : SlotId) : (s.haltSlot j).plan = s.plan := by
  unfold State.haltSlot; (try dsimp only); (repeat' split) <;> simp

@[simp] theorem State.haltSlot_table (j : SlotId) : (s.haltSlot j).table = s.table := by
  unfold State.haltSlot; (try dsimp only); (repeat' split) <;> simp

@[simp] theorem State.haltSlot_profiles (j : SlotId) : (s.haltSlot j).profiles = s.profiles := by
  unfold State.haltSlot; (try dsimp only); (repeat' split) <;> simp

@[simp] theorem State.haltSlot_pool_startUp (j : SlotId) :
    (s.haltSlot j).pool.startUp = s.pool.startUp := by
  unfold State.haltSlot; (try dsimp only); (repeat' split) <;> simp

@[simp] theorem State.haltSlot_levels (j : SlotId) : (s.haltSlot j).levels = s.levels := by
  unfold State.haltSlot; (try dsimp only); (repeat' split) <;> simp

@[simp] theorem State.haltSlot_engine (j : SlotId) : (s.haltSlot j).engine = s.engine := by
  unfold State.haltSlot; (try dsimp only); (repeat' split) <;> simp

@[simp] theorem State.haltSlot_monitor (j : SlotId) : (s.haltSlot j).monitor = s.monitor := by
  unfold State.haltSlot; (try dsimp only); (repeat' split) <;> simp

@[simp] theorem State.haltSlot_freeCount (j : SlotId) : (s.haltSlot j).freeCount = s.freeCount := by
  unfold State.haltSlot; (try dsimp only); (repeat' split) <;> simp


/-! ### haltPart -/

@[simp] theorem State.haltPart_pending (p : Option SlotId) :
    (s.haltPart p).pending = s.pending := by
  unfold State.haltPart; (repeat' split) <;> simp

@[simp] theorem State.haltPart_ports (p : Option SlotId) : (s.haltPart p).ports = s.ports := by
  unfold State.haltPart; (repeat' split) <;> simp

@[simp] theorem State.haltPart_plan (p : Option SlotId) : (s.haltPart p).plan = s.plan := by
  unfold State.haltPart; (repeat' split) <;> simp

@[simp] theorem State.haltPart_table (p : Option SlotId) : (s.haltPart p).table = s.table := by
  unfold State.haltPart; (repeat' split) <;> simp

@[simp] theorem State.haltPart_profiles (p : Option SlotId) :
    (s.haltPart p).profiles = s.profiles := by
  unfold State.haltPart; (repeat' split) <;> simp

@[simp] theorem State.haltPart_pool_startUp (p : Option SlotId) :
    (s.haltPart p).pool.startUp = s.pool.startUp := by
  unfold State.haltPart; (repeat' split) <;> simp

@[simp] theorem State.haltPart_levels (p : Option SlotId) : (s.haltPart p).levels = s.levels := by
  unfold State.haltPart; (repeat' split) <;> simp

@[simp] theorem State.haltPart_engine (p : Option SlotId) : (s.haltPart p).engine = s.engine := by
  unfold State.haltPart; (repeat' split) <;> simp

@[simp] theorem State.haltPart_monitor (p : Option SlotId) :
    (s.haltPart p).monitor = s.monitor := by
  unfold State.haltPart; (repeat' split) <;> simp

@[simp] theorem State.haltPart_freeCount (p : Option SlotId) :
    (s.haltPart p).freeCount = s.freeCount := by
  unfold State.haltPart; (repeat' split) <;> simp


/-! ### rampSlot -/

@[simp] theorem State.rampSlot_pending (j : SlotId) (n : Nat) :
    (s.rampSlot j n).pending = s.pending := by
  unfold State.rampSlot; (try dsimp only); (repeat' split) <;> simp

@[simp] theorem State.rampSlot_ports (j : SlotId) (n : Nat) : (s.rampSlot j n).ports = s.ports := by
  unfold State.rampSlot; (try dsimp only); (repeat' split) <;> simp

@[simp] theorem State.rampSlot_plan (j : SlotId) (n : Nat) : (s.rampSlot j n).plan = s.plan := by
  unfold State.rampSlot; (try dsimp only); (repeat' split) <;> simp

@[simp] theorem State.rampSlot_table (j : SlotId) (n : Nat) : (s.rampSlot j n).table = s.table := by
  unfold State.rampSlot; (try dsimp only); (repeat' split) <;> simp

@[simp] theorem State.rampSlot_profiles (j : SlotId) (n : Nat) :
    (s.rampSlot j n).profiles = s.profiles := by
  unfold State.rampSlot; (try dsimp only); (repeat' split) <;> simp

@[simp] theorem State.rampSlot_pool_startUp (j : SlotId) (n : Nat) :
    (s.rampSlot j n).pool.startUp = s.pool.startUp := by
  unfold State.rampSlot; (try dsimp only); (repeat' split) <;> simp

@[simp] theorem State.rampSlot_levels (j : SlotId) (n : Nat) :
    (s.rampSlot j n).levels = s.levels := by
  unfold State.rampSlot; (try dsimp only); (repeat' split) <;> simp

@[simp] theorem State.rampSlot_engine (j : SlotId) (n : Nat) :
    (s.rampSlot j n).engine = s.engine := by
  unfold State.rampSlot; (try dsimp only); (repeat' split) <;> simp

@[simp] theorem State.rampSlot_monitor (j : SlotId) (n : Nat) :
    (s.rampSlot j n).monitor = s.monitor := by
  unfold State.rampSlot; (try dsimp only); (repeat' split) <;> simp

@[simp] theorem State.rampSlot_freeCount (j : SlotId) (n : Nat) :
    (s.rampSlot j n).freeCount = s.freeCount := by
  unfold State.rampSlot; (try dsimp only); (repeat' split) <;> simp


/-! ### retireSlot -/

@[simp] theorem State.retireSlot_pending (j : SlotId) (n : Nat) :
    (s.retireSlot j n).pending = s.pending := by
  unfold State.retireSlot; simp

@[simp] theorem State.retireSlot_ports_resetHeld (j : SlotId) (n : Nat) :
    (s.retireSlot j n).ports.resetHeld = s.ports.resetHeld := by
  unfold State.retireSlot; simp

@[simp] theorem State.retireSlot_ports_management (j : SlotId) (n : Nat) :
    (s.retireSlot j n).ports.management = s.ports.management := by
  unfold State.retireSlot; simp

@[simp] theorem State.retireSlot_ports_tenant (j : SlotId) (n : Nat) :
    (s.retireSlot j n).ports.tenant = s.ports.tenant := by
  unfold State.retireSlot; simp

@[simp] theorem State.retireSlot_ports_priority (j : SlotId) (n : Nat) :
    (s.retireSlot j n).ports.priority = s.ports.priority := by
  unfold State.retireSlot; simp

@[simp] theorem State.retireSlot_ports_pointer (j : SlotId) (n : Nat) :
    (s.retireSlot j n).ports.pointer = s.ports.pointer := by
  unfold State.retireSlot; simp

@[simp] theorem State.retireSlot_ports_mask (j : SlotId) (n : Nat) :
    (s.retireSlot j n).ports.mask = s.ports.mask := by
  unfold State.retireSlot; simp

@[simp] theorem State.retireSlot_plan (j : SlotId) (n : Nat) :
    (s.retireSlot j n).plan = s.plan := by
  unfold State.retireSlot; simp

@[simp] theorem State.retireSlot_table (j : SlotId) (n : Nat) :
    (s.retireSlot j n).table = s.table := by
  unfold State.retireSlot; simp

@[simp] theorem State.retireSlot_profiles (j : SlotId) (n : Nat) :
    (s.retireSlot j n).profiles = s.profiles := by
  unfold State.retireSlot; simp

@[simp] theorem State.retireSlot_pool_startUp (j : SlotId) (n : Nat) :
    (s.retireSlot j n).pool.startUp = s.pool.startUp := by
  unfold State.retireSlot; simp

@[simp] theorem State.retireSlot_levels (j : SlotId) (n : Nat) :
    (s.retireSlot j n).levels = s.levels := by
  unfold State.retireSlot; simp

@[simp] theorem State.retireSlot_engine (j : SlotId) (n : Nat) :
    (s.retireSlot j n).engine = s.engine := by
  unfold State.retireSlot; simp

@[simp] theorem State.retireSlot_monitor (j : SlotId) (n : Nat) :
    (s.retireSlot j n).monitor = s.monitor := by
  unfold State.retireSlot; simp

@[simp] theorem State.retireSlot_freeCount (j : SlotId) (n : Nat) :
    (s.retireSlot j n).freeCount = s.freeCount := by
  unfold State.retireSlot; simp


/-! ### failSlot -/

@[simp] theorem State.failSlot_pending (j : SlotId) : (s.failSlot j).pending = s.pending := by
  unfold State.failSlot; (try dsimp only); (repeat' split) <;> simp

@[simp] theorem State.failSlot_ports_resetHeld (j : SlotId) :
    (s.failSlot j).ports.resetHeld = s.ports.resetHeld := by
  unfold State.failSlot; (try dsimp only); (repeat' split) <;> simp

@[simp] theorem State.failSlot_ports_management (j : SlotId) :
    (s.failSlot j).ports.management = s.ports.management := by
  unfold State.failSlot; (try dsimp only); (repeat' split) <;> simp

@[simp] theorem State.failSlot_ports_tenant (j : SlotId) :
    (s.failSlot j).ports.tenant = s.ports.tenant := by
  unfold State.failSlot; (try dsimp only); (repeat' split) <;> simp

@[simp] theorem State.failSlot_ports_priority (j : SlotId) :
    (s.failSlot j).ports.priority = s.ports.priority := by
  unfold State.failSlot; (try dsimp only); (repeat' split) <;> simp

@[simp] theorem State.failSlot_ports_pointer (j : SlotId) :
    (s.failSlot j).ports.pointer = s.ports.pointer := by
  unfold State.failSlot; (try dsimp only); (repeat' split) <;> simp

@[simp] theorem State.failSlot_ports_mask (j : SlotId) :
    (s.failSlot j).ports.mask = s.ports.mask := by
  unfold State.failSlot; (try dsimp only); (repeat' split) <;> simp

@[simp] theorem State.failSlot_plan (j : SlotId) : (s.failSlot j).plan = s.plan := by
  unfold State.failSlot; (try dsimp only); (repeat' split) <;> simp

@[simp] theorem State.failSlot_table (j : SlotId) : (s.failSlot j).table = s.table := by
  unfold State.failSlot; (try dsimp only); (repeat' split) <;> simp

@[simp] theorem State.failSlot_profiles (j : SlotId) : (s.failSlot j).profiles = s.profiles := by
  unfold State.failSlot; (try dsimp only); (repeat' split) <;> simp

@[simp] theorem State.failSlot_pool_startUp (j : SlotId) :
    (s.failSlot j).pool.startUp = s.pool.startUp := by
  unfold State.failSlot; (try dsimp only); (repeat' split) <;> simp

@[simp] theorem State.failSlot_levels (j : SlotId) : (s.failSlot j).levels = s.levels := by
  unfold State.failSlot; (try dsimp only); (repeat' split) <;> simp

@[simp] theorem State.failSlot_engine (j : SlotId) : (s.failSlot j).engine = s.engine := by
  unfold State.failSlot; (try dsimp only); (repeat' split) <;> simp

@[simp] theorem State.failSlot_monitor (j : SlotId) : (s.failSlot j).monitor = s.monitor := by
  unfold State.failSlot; (try dsimp only); (repeat' split) <;> simp

@[simp] theorem State.failSlot_freeCount (j : SlotId) : (s.failSlot j).freeCount = s.freeCount := by
  unfold State.failSlot; (try dsimp only); (repeat' split) <;> simp


/-! ### failTest -/

@[simp] theorem State.failTest_pending (j : SlotId) : (s.failTest j).pending = s.pending := by
  unfold State.failTest; simp

@[simp] theorem State.failTest_ports_resetHeld (j : SlotId) :
    (s.failTest j).ports.resetHeld = s.ports.resetHeld := by
  unfold State.failTest; simp

@[simp] theorem State.failTest_ports_management (j : SlotId) :
    (s.failTest j).ports.management = s.ports.management := by
  unfold State.failTest; simp

@[simp] theorem State.failTest_ports_tenant (j : SlotId) :
    (s.failTest j).ports.tenant = s.ports.tenant := by
  unfold State.failTest; simp

@[simp] theorem State.failTest_ports_priority (j : SlotId) :
    (s.failTest j).ports.priority = s.ports.priority := by
  unfold State.failTest; simp

@[simp] theorem State.failTest_ports_pointer (j : SlotId) :
    (s.failTest j).ports.pointer = s.ports.pointer := by
  unfold State.failTest; simp

@[simp] theorem State.failTest_ports_mask (j : SlotId) :
    (s.failTest j).ports.mask = s.ports.mask := by
  unfold State.failTest; simp

@[simp] theorem State.failTest_plan (j : SlotId) : (s.failTest j).plan = s.plan := by
  unfold State.failTest; simp

@[simp] theorem State.failTest_table (j : SlotId) : (s.failTest j).table = s.table := by
  unfold State.failTest; simp

@[simp] theorem State.failTest_profiles (j : SlotId) : (s.failTest j).profiles = s.profiles := by
  unfold State.failTest; simp

@[simp] theorem State.failTest_pool_startUp (j : SlotId) :
    (s.failTest j).pool.startUp = s.pool.startUp := by
  unfold State.failTest; simp

@[simp] theorem State.failTest_levels (j : SlotId) : (s.failTest j).levels = s.levels := by
  unfold State.failTest; simp

@[simp] theorem State.failTest_engine (j : SlotId) : (s.failTest j).engine = s.engine := by
  unfold State.failTest; simp

@[simp] theorem State.failTest_monitor (j : SlotId) : (s.failTest j).monitor = s.monitor := by
  unfold State.failTest; simp

@[simp] theorem State.failTest_freeCount (j : SlotId) : (s.failTest j).freeCount = s.freeCount := by
  unfold State.failTest; simp


/-! ### lockSlot -/

@[simp] theorem State.lockSlot_pending (j : SlotId) : (s.lockSlot j).pending = s.pending := by
  unfold State.lockSlot; (try dsimp only); simp

@[simp] theorem State.lockSlot_ports (j : SlotId) : (s.lockSlot j).ports = s.ports := by
  unfold State.lockSlot; (try dsimp only); simp

@[simp] theorem State.lockSlot_plan (j : SlotId) : (s.lockSlot j).plan = s.plan := by
  unfold State.lockSlot; (try dsimp only); simp

@[simp] theorem State.lockSlot_table (j : SlotId) : (s.lockSlot j).table = s.table := by
  unfold State.lockSlot; (try dsimp only); simp

@[simp] theorem State.lockSlot_profiles (j : SlotId) : (s.lockSlot j).profiles = s.profiles := by
  unfold State.lockSlot; (try dsimp only); simp

@[simp] theorem State.lockSlot_pool_sent (j : SlotId) : (s.lockSlot j).pool.sent = s.pool.sent := by
  unfold State.lockSlot; (try dsimp only); simp

@[simp] theorem State.lockSlot_pool_startUp (j : SlotId) :
    (s.lockSlot j).pool.startUp = s.pool.startUp := by
  unfold State.lockSlot; (try dsimp only); simp

@[simp] theorem State.lockSlot_levels (j : SlotId) : (s.lockSlot j).levels = s.levels := by
  unfold State.lockSlot; (try dsimp only); simp

@[simp] theorem State.lockSlot_engine (j : SlotId) : (s.lockSlot j).engine = s.engine := by
  unfold State.lockSlot; (try dsimp only); simp

@[simp] theorem State.lockSlot_monitor (j : SlotId) : (s.lockSlot j).monitor = s.monitor := by
  unfold State.lockSlot; (try dsimp only); simp

@[simp] theorem State.lockSlot_freeCount (j : SlotId) : (s.lockSlot j).freeCount = s.freeCount := by
  unfold State.lockSlot; (try dsimp only); simp


/-! ### endStartUp -/

@[simp] theorem State.endStartUp_pending : (s.endStartUp).pending = s.pending := by
  unfold State.endStartUp; (try dsimp only); (repeat' split) <;> simp

@[simp] theorem State.endStartUp_ports_resetHeld :
    (s.endStartUp).ports.resetHeld = s.ports.resetHeld := by
  unfold State.endStartUp; (try dsimp only); (repeat' split) <;> simp

@[simp] theorem State.endStartUp_ports_management :
    (s.endStartUp).ports.management = s.ports.management := by
  unfold State.endStartUp; (try dsimp only); (repeat' split) <;> simp

@[simp] theorem State.endStartUp_ports_tenant : (s.endStartUp).ports.tenant = s.ports.tenant := by
  unfold State.endStartUp; (try dsimp only); (repeat' split) <;> simp

@[simp] theorem State.endStartUp_ports_priority :
    (s.endStartUp).ports.priority = s.ports.priority := by
  unfold State.endStartUp; (try dsimp only); (repeat' split) <;> simp

@[simp] theorem State.endStartUp_ports_pointer :
    (s.endStartUp).ports.pointer = s.ports.pointer := by
  unfold State.endStartUp; (try dsimp only); (repeat' split) <;> simp

@[simp] theorem State.endStartUp_ports_mask : (s.endStartUp).ports.mask = s.ports.mask := by
  unfold State.endStartUp; (try dsimp only); (repeat' split) <;> simp

@[simp] theorem State.endStartUp_plan : (s.endStartUp).plan = s.plan := by
  unfold State.endStartUp; (try dsimp only); (repeat' split) <;> simp

@[simp] theorem State.endStartUp_table : (s.endStartUp).table = s.table := by
  unfold State.endStartUp; (try dsimp only); (repeat' split) <;> simp

@[simp] theorem State.endStartUp_profiles : (s.endStartUp).profiles = s.profiles := by
  unfold State.endStartUp; (try dsimp only); (repeat' split) <;> simp

@[simp] theorem State.endStartUp_pool_slots : (s.endStartUp).pool.slots = s.pool.slots := by
  unfold State.endStartUp; (try dsimp only); (repeat' split) <;> simp

@[simp] theorem State.endStartUp_pool_sent : (s.endStartUp).pool.sent = s.pool.sent := by
  unfold State.endStartUp; (try dsimp only); (repeat' split) <;> simp

@[simp] theorem State.endStartUp_levels : (s.endStartUp).levels = s.levels := by
  unfold State.endStartUp; (try dsimp only); (repeat' split) <;> simp

@[simp] theorem State.endStartUp_engine : (s.endStartUp).engine = s.engine := by
  unfold State.endStartUp; (try dsimp only); (repeat' split) <;> simp

@[simp] theorem State.endStartUp_monitor : (s.endStartUp).monitor = s.monitor := by
  unfold State.endStartUp; (try dsimp only); (repeat' split) <;> simp

@[simp] theorem State.endStartUp_freeCount : (s.endStartUp).freeCount = s.freeCount := by
  unfold State.endStartUp; (try dsimp only); (repeat' split) <;> simp


/-! ### countLoss -/

@[simp] theorem State.countLoss_pending (j : SlotId) : (s.countLoss j).pending = s.pending := by
  unfold State.countLoss; (try dsimp only); (repeat' split) <;> simp

@[simp] theorem State.countLoss_ports_resetHeld (j : SlotId) :
    (s.countLoss j).ports.resetHeld = s.ports.resetHeld := by
  unfold State.countLoss; (try dsimp only); (repeat' split) <;> simp

@[simp] theorem State.countLoss_ports_management (j : SlotId) :
    (s.countLoss j).ports.management = s.ports.management := by
  unfold State.countLoss; (try dsimp only); (repeat' split) <;> simp

@[simp] theorem State.countLoss_ports_tenant (j : SlotId) :
    (s.countLoss j).ports.tenant = s.ports.tenant := by
  unfold State.countLoss; (try dsimp only); (repeat' split) <;> simp

@[simp] theorem State.countLoss_ports_priority (j : SlotId) :
    (s.countLoss j).ports.priority = s.ports.priority := by
  unfold State.countLoss; (try dsimp only); (repeat' split) <;> simp

@[simp] theorem State.countLoss_ports_pointer (j : SlotId) :
    (s.countLoss j).ports.pointer = s.ports.pointer := by
  unfold State.countLoss; (try dsimp only); (repeat' split) <;> simp

@[simp] theorem State.countLoss_ports_mask (j : SlotId) :
    (s.countLoss j).ports.mask = s.ports.mask := by
  unfold State.countLoss; (try dsimp only); (repeat' split) <;> simp

@[simp] theorem State.countLoss_plan (j : SlotId) : (s.countLoss j).plan = s.plan := by
  unfold State.countLoss; (try dsimp only); (repeat' split) <;> simp

@[simp] theorem State.countLoss_table (j : SlotId) : (s.countLoss j).table = s.table := by
  unfold State.countLoss; (try dsimp only); (repeat' split) <;> simp

@[simp] theorem State.countLoss_profiles (j : SlotId) : (s.countLoss j).profiles = s.profiles := by
  unfold State.countLoss; (try dsimp only); (repeat' split) <;> simp

@[simp] theorem State.countLoss_pool_startUp (j : SlotId) :
    (s.countLoss j).pool.startUp = s.pool.startUp := by
  unfold State.countLoss; (try dsimp only); (repeat' split) <;> simp

@[simp] theorem State.countLoss_levels (j : SlotId) : (s.countLoss j).levels = s.levels := by
  unfold State.countLoss; (try dsimp only); (repeat' split) <;> simp

@[simp] theorem State.countLoss_engine (j : SlotId) : (s.countLoss j).engine = s.engine := by
  unfold State.countLoss; (try dsimp only); (repeat' split) <;> simp

@[simp] theorem State.countLoss_monitor (j : SlotId) : (s.countLoss j).monitor = s.monitor := by
  unfold State.countLoss; (try dsimp only); (repeat' split) <;> simp

@[simp] theorem State.countLoss_freeCount (j : SlotId) :
    (s.countLoss j).freeCount = s.freeCount := by
  unfold State.countLoss; (try dsimp only); (repeat' split) <;> simp


/-! ### beginAttempt -/

@[simp] theorem State.beginAttempt_pending (j : SlotId) (i : Fin 64) (c : Caller) (x : Bool) (n : Nat) :
    (s.beginAttempt j i c x n).pending = s.pending := by
  unfold State.beginAttempt; (try dsimp only); (repeat' split) <;> simp

@[simp] theorem State.beginAttempt_ports (j : SlotId) (i : Fin 64) (c : Caller) (x : Bool) (n : Nat) :
    (s.beginAttempt j i c x n).ports = s.ports := by
  unfold State.beginAttempt; (try dsimp only); (repeat' split) <;> simp

@[simp] theorem State.beginAttempt_plan (j : SlotId) (i : Fin 64) (c : Caller) (x : Bool) (n : Nat) :
    (s.beginAttempt j i c x n).plan = s.plan := by
  unfold State.beginAttempt; (try dsimp only); (repeat' split) <;> simp

@[simp] theorem State.beginAttempt_table (j : SlotId) (i : Fin 64) (c : Caller) (x : Bool) (n : Nat) :
    (s.beginAttempt j i c x n).table = s.table := by
  unfold State.beginAttempt; (try dsimp only); (repeat' split) <;> simp

@[simp] theorem State.beginAttempt_profiles (j : SlotId) (i : Fin 64) (c : Caller) (x : Bool) (n : Nat) :
    (s.beginAttempt j i c x n).profiles = s.profiles := by
  unfold State.beginAttempt; (try dsimp only); (repeat' split) <;> simp

@[simp] theorem State.beginAttempt_pool_startUp (j : SlotId) (i : Fin 64) (c : Caller) (x : Bool) (n : Nat) :
    (s.beginAttempt j i c x n).pool.startUp = s.pool.startUp := by
  unfold State.beginAttempt; (try dsimp only); (repeat' split) <;> simp

@[simp] theorem State.beginAttempt_levels (j : SlotId) (i : Fin 64) (c : Caller) (x : Bool) (n : Nat) :
    (s.beginAttempt j i c x n).levels = s.levels := by
  unfold State.beginAttempt; (try dsimp only); (repeat' split) <;> simp

@[simp] theorem State.beginAttempt_engine (j : SlotId) (i : Fin 64) (c : Caller) (x : Bool) (n : Nat) :
    (s.beginAttempt j i c x n).engine = s.engine := by
  unfold State.beginAttempt; (try dsimp only); (repeat' split) <;> simp

@[simp] theorem State.beginAttempt_monitor (j : SlotId) (i : Fin 64) (c : Caller) (x : Bool) (n : Nat) :
    (s.beginAttempt j i c x n).monitor = s.monitor := by
  unfold State.beginAttempt; (try dsimp only); (repeat' split) <;> simp

@[simp] theorem State.beginAttempt_freeCount (j : SlotId) (i : Fin 64) (c : Caller) (x : Bool) (n : Nat) :
    (s.beginAttempt j i c x n).freeCount = s.freeCount := by
  unfold State.beginAttempt; (try dsimp only); (repeat' split) <;> simp


/-! ### recount -/

@[simp] theorem State.recount_pending (i : Fin 64) : (s.recount i).pending = s.pending := by
  unfold State.recount; simp

@[simp] theorem State.recount_ports (i : Fin 64) : (s.recount i).ports = s.ports := by
  unfold State.recount; simp

@[simp] theorem State.recount_plan (i : Fin 64) : (s.recount i).plan = s.plan := by
  unfold State.recount; simp

@[simp] theorem State.recount_table_occupancy (i : Fin 64) :
    (s.recount i).table.occupancy = s.table.occupancy := by
  unfold State.recount; simp

@[simp] theorem State.recount_table_counts (i : Fin 64) :
    (s.recount i).table.counts = s.table.counts := by
  unfold State.recount; simp

@[simp] theorem State.recount_table_planFrozen (i : Fin 64) :
    (s.recount i).table.planFrozen = s.table.planFrozen := by
  unfold State.recount; simp

@[simp] theorem State.recount_profiles (i : Fin 64) : (s.recount i).profiles = s.profiles := by
  unfold State.recount; simp

@[simp] theorem State.recount_pool (i : Fin 64) : (s.recount i).pool = s.pool := by
  unfold State.recount; simp

@[simp] theorem State.recount_levels (i : Fin 64) : (s.recount i).levels = s.levels := by
  unfold State.recount; simp

@[simp] theorem State.recount_engine (i : Fin 64) : (s.recount i).engine = s.engine := by
  unfold State.recount; simp

@[simp] theorem State.recount_monitor (i : Fin 64) : (s.recount i).monitor = s.monitor := by
  unfold State.recount; simp

@[simp] theorem State.recount_freeCount (i : Fin 64) : (s.recount i).freeCount = s.freeCount := by
  unfold State.recount; simp


/-! ### setApplied -/

@[simp] theorem State.setApplied_pending (t : Byte) : (s.setApplied t).pending = s.pending := by
  simp [State.setApplied, applyLevels]

@[simp] theorem State.setApplied_ports (t : Byte) : (s.setApplied t).ports = s.ports := by
  simp [State.setApplied, applyLevels]

@[simp] theorem State.setApplied_plan (t : Byte) : (s.setApplied t).plan = s.plan := by
  simp [State.setApplied, applyLevels]

@[simp] theorem State.setApplied_table_occupancy (t : Byte) :
    (s.setApplied t).table.occupancy = s.table.occupancy := by
  simp [State.setApplied, applyLevels]

@[simp] theorem State.setApplied_table_counts (t : Byte) :
    (s.setApplied t).table.counts = s.table.counts := by
  simp [State.setApplied, applyLevels]

@[simp] theorem State.setApplied_table_planFrozen (t : Byte) :
    (s.setApplied t).table.planFrozen = s.table.planFrozen := by
  simp [State.setApplied, applyLevels]

@[simp] theorem State.setApplied_profiles (t : Byte) : (s.setApplied t).profiles = s.profiles := by
  simp [State.setApplied, applyLevels]

@[simp] theorem State.setApplied_pool_slots (t : Byte) :
    (s.setApplied t).pool.slots = s.pool.slots := by
  simp [State.setApplied, applyLevels]

@[simp] theorem State.setApplied_pool_startUp (t : Byte) :
    (s.setApplied t).pool.startUp = s.pool.startUp := by
  simp [State.setApplied, applyLevels]

@[simp] theorem State.setApplied_levels_g1 (t : Byte) :
    (s.setApplied t).levels.g1 = s.levels.g1 := by
  simp [State.setApplied, applyLevels]

@[simp] theorem State.setApplied_levels_g2 (t : Byte) :
    (s.setApplied t).levels.g2 = s.levels.g2 := by
  simp [State.setApplied, applyLevels]

@[simp] theorem State.setApplied_levels_g3 (t : Byte) :
    (s.setApplied t).levels.g3 = s.levels.g3 := by
  simp [State.setApplied, applyLevels]

@[simp] theorem State.setApplied_levels_budget (t : Byte) :
    (s.setApplied t).levels.budget = s.levels.budget := by
  simp [State.setApplied, applyLevels]

@[simp] theorem State.setApplied_engine (t : Byte) : (s.setApplied t).engine = s.engine := by
  simp [State.setApplied, applyLevels]

@[simp] theorem State.setApplied_monitor (t : Byte) : (s.setApplied t).monitor = s.monitor := by
  simp [State.setApplied, applyLevels]

@[simp] theorem State.setApplied_freeCount (t : Byte) :
    (s.setApplied t).freeCount = s.freeCount := by
  simp [State.setApplied, applyLevels]


/-! ### trackPilot -/

@[simp] theorem State.trackPilot_pending : (s.trackPilot).pending = s.pending := by
  unfold State.trackPilot; (try dsimp only); simp

@[simp] theorem State.trackPilot_ports : (s.trackPilot).ports = s.ports := by
  unfold State.trackPilot; (try dsimp only); simp

@[simp] theorem State.trackPilot_plan : (s.trackPilot).plan = s.plan := by
  unfold State.trackPilot; (try dsimp only); simp

@[simp] theorem State.trackPilot_table_occupancy :
    (s.trackPilot).table.occupancy = s.table.occupancy := by
  unfold State.trackPilot; (try dsimp only); simp

@[simp] theorem State.trackPilot_table_counts : (s.trackPilot).table.counts = s.table.counts := by
  unfold State.trackPilot; (try dsimp only); simp

@[simp] theorem State.trackPilot_table_planFrozen :
    (s.trackPilot).table.planFrozen = s.table.planFrozen := by
  unfold State.trackPilot; (try dsimp only); simp

@[simp] theorem State.trackPilot_profiles : (s.trackPilot).profiles = s.profiles := by
  unfold State.trackPilot; (try dsimp only); simp

@[simp] theorem State.trackPilot_pool_slots : (s.trackPilot).pool.slots = s.pool.slots := by
  unfold State.trackPilot; (try dsimp only); simp

@[simp] theorem State.trackPilot_pool_startUp : (s.trackPilot).pool.startUp = s.pool.startUp := by
  unfold State.trackPilot; (try dsimp only); simp

@[simp] theorem State.trackPilot_engine : (s.trackPilot).engine = s.engine := by
  unfold State.trackPilot; (try dsimp only); simp

@[simp] theorem State.trackPilot_monitor : (s.trackPilot).monitor = s.monitor := by
  unfold State.trackPilot; (try dsimp only); simp

@[simp] theorem State.trackPilot_freeCount : (s.trackPilot).freeCount = s.freeCount := by
  unfold State.trackPilot; (try dsimp only); simp


/-! ### loadDecreased -/

@[simp] theorem State.loadDecreased_pending : (s.loadDecreased).pending = s.pending := by
  unfold State.loadDecreased; (repeat' split) <;> simp

@[simp] theorem State.loadDecreased_ports : (s.loadDecreased).ports = s.ports := by
  unfold State.loadDecreased; (repeat' split) <;> simp

@[simp] theorem State.loadDecreased_plan : (s.loadDecreased).plan = s.plan := by
  unfold State.loadDecreased; (repeat' split) <;> simp

@[simp] theorem State.loadDecreased_table_occupancy :
    (s.loadDecreased).table.occupancy = s.table.occupancy := by
  unfold State.loadDecreased; (repeat' split) <;> simp

@[simp] theorem State.loadDecreased_table_counts :
    (s.loadDecreased).table.counts = s.table.counts := by
  unfold State.loadDecreased; (repeat' split) <;> simp

@[simp] theorem State.loadDecreased_table_planFrozen :
    (s.loadDecreased).table.planFrozen = s.table.planFrozen := by
  unfold State.loadDecreased; (repeat' split) <;> simp

@[simp] theorem State.loadDecreased_profiles : (s.loadDecreased).profiles = s.profiles := by
  unfold State.loadDecreased; (repeat' split) <;> simp

@[simp] theorem State.loadDecreased_pool_slots : (s.loadDecreased).pool.slots = s.pool.slots := by
  unfold State.loadDecreased; (repeat' split) <;> simp

@[simp] theorem State.loadDecreased_pool_startUp :
    (s.loadDecreased).pool.startUp = s.pool.startUp := by
  unfold State.loadDecreased; (repeat' split) <;> simp

@[simp] theorem State.loadDecreased_engine : (s.loadDecreased).engine = s.engine := by
  unfold State.loadDecreased; (repeat' split) <;> simp

@[simp] theorem State.loadDecreased_monitor : (s.loadDecreased).monitor = s.monitor := by
  unfold State.loadDecreased; (repeat' split) <;> simp

@[simp] theorem State.loadDecreased_freeCount : (s.loadDecreased).freeCount = s.freeCount := by
  unfold State.loadDecreased; (repeat' split) <;> simp


/-! ### noteLoad -/

@[simp] theorem noteLoad_pending (t : State) : (noteLoad s t).pending = t.pending := by
  unfold noteLoad; (repeat' split) <;> simp

@[simp] theorem noteLoad_ports (t : State) : (noteLoad s t).ports = t.ports := by
  unfold noteLoad; (repeat' split) <;> simp

@[simp] theorem noteLoad_plan (t : State) : (noteLoad s t).plan = t.plan := by
  unfold noteLoad; (repeat' split) <;> simp

@[simp] theorem noteLoad_table_occupancy (t : State) :
    (noteLoad s t).table.occupancy = t.table.occupancy := by
  unfold noteLoad; (repeat' split) <;> simp

@[simp] theorem noteLoad_table_counts (t : State) :
    (noteLoad s t).table.counts = t.table.counts := by
  unfold noteLoad; (repeat' split) <;> simp

@[simp] theorem noteLoad_table_planFrozen (t : State) :
    (noteLoad s t).table.planFrozen = t.table.planFrozen := by
  unfold noteLoad; (repeat' split) <;> simp

@[simp] theorem noteLoad_profiles (t : State) : (noteLoad s t).profiles = t.profiles := by
  unfold noteLoad; (repeat' split) <;> simp

@[simp] theorem noteLoad_pool_slots (t : State) : (noteLoad s t).pool.slots = t.pool.slots := by
  unfold noteLoad; (repeat' split) <;> simp

@[simp] theorem noteLoad_pool_startUp (t : State) :
    (noteLoad s t).pool.startUp = t.pool.startUp := by
  unfold noteLoad; (repeat' split) <;> simp

@[simp] theorem noteLoad_engine (t : State) : (noteLoad s t).engine = t.engine := by
  unfold noteLoad; (repeat' split) <;> simp

@[simp] theorem noteLoad_monitor (t : State) : (noteLoad s t).monitor = t.monitor := by
  unfold noteLoad; (repeat' split) <;> simp

@[simp] theorem noteLoad_freeCount (t : State) : (noteLoad s t).freeCount = t.freeCount := by
  unfold noteLoad; (repeat' split) <;> simp


/-! ### modNamed -/

@[simp] theorem State.modNamed_pending (h : Handle) (f : Grant → Grant) :
    (s.modNamed h f).pending = s.pending := by
  unfold State.modNamed; (repeat' split) <;> simp

@[simp] theorem State.modNamed_ports (h : Handle) (f : Grant → Grant) :
    (s.modNamed h f).ports = s.ports := by
  unfold State.modNamed; (repeat' split) <;> simp

@[simp] theorem State.modNamed_plan (h : Handle) (f : Grant → Grant) :
    (s.modNamed h f).plan = s.plan := by
  unfold State.modNamed; (repeat' split) <;> simp

@[simp] theorem State.modNamed_table_occupancy (h : Handle) (f : Grant → Grant) :
    (s.modNamed h f).table.occupancy = s.table.occupancy := by
  unfold State.modNamed; (repeat' split) <;> simp

@[simp] theorem State.modNamed_table_counts (h : Handle) (f : Grant → Grant) :
    (s.modNamed h f).table.counts = s.table.counts := by
  unfold State.modNamed; (repeat' split) <;> simp

@[simp] theorem State.modNamed_table_planFrozen (h : Handle) (f : Grant → Grant) :
    (s.modNamed h f).table.planFrozen = s.table.planFrozen := by
  unfold State.modNamed; (repeat' split) <;> simp

@[simp] theorem State.modNamed_profiles (h : Handle) (f : Grant → Grant) :
    (s.modNamed h f).profiles = s.profiles := by
  unfold State.modNamed; (repeat' split) <;> simp

@[simp] theorem State.modNamed_pool (h : Handle) (f : Grant → Grant) :
    (s.modNamed h f).pool = s.pool := by
  unfold State.modNamed; (repeat' split) <;> simp

@[simp] theorem State.modNamed_levels (h : Handle) (f : Grant → Grant) :
    (s.modNamed h f).levels = s.levels := by
  unfold State.modNamed; (repeat' split) <;> simp

@[simp] theorem State.modNamed_engine (h : Handle) (f : Grant → Grant) :
    (s.modNamed h f).engine = s.engine := by
  unfold State.modNamed; (repeat' split) <;> simp

@[simp] theorem State.modNamed_monitor (h : Handle) (f : Grant → Grant) :
    (s.modNamed h f).monitor = s.monitor := by
  unfold State.modNamed; (repeat' split) <;> simp

@[simp] theorem State.modNamed_freeCount (h : Handle) (f : Grant → Grant) :
    (s.modNamed h f).freeCount = s.freeCount := by
  unfold State.modNamed; (repeat' split) <;> simp


/-! ### withdrawWatch -/

@[simp] theorem State.withdrawWatch_pending (w : Watch) :
    (s.withdrawWatch w).pending = s.pending := by
  unfold State.withdrawWatch; (repeat' split) <;> simp

@[simp] theorem State.withdrawWatch_ports (w : Watch) : (s.withdrawWatch w).ports = s.ports := by
  unfold State.withdrawWatch; (repeat' split) <;> simp

@[simp] theorem State.withdrawWatch_plan (w : Watch) : (s.withdrawWatch w).plan = s.plan := by
  unfold State.withdrawWatch; (repeat' split) <;> simp

@[simp] theorem State.withdrawWatch_table_occupancy (w : Watch) :
    (s.withdrawWatch w).table.occupancy = s.table.occupancy := by
  unfold State.withdrawWatch; (repeat' split) <;> simp

@[simp] theorem State.withdrawWatch_table_counts (w : Watch) :
    (s.withdrawWatch w).table.counts = s.table.counts := by
  unfold State.withdrawWatch; (repeat' split) <;> simp

@[simp] theorem State.withdrawWatch_table_planFrozen (w : Watch) :
    (s.withdrawWatch w).table.planFrozen = s.table.planFrozen := by
  unfold State.withdrawWatch; (repeat' split) <;> simp

@[simp] theorem State.withdrawWatch_profiles (w : Watch) :
    (s.withdrawWatch w).profiles = s.profiles := by
  unfold State.withdrawWatch; (repeat' split) <;> simp

@[simp] theorem State.withdrawWatch_pool (w : Watch) : (s.withdrawWatch w).pool = s.pool := by
  unfold State.withdrawWatch; (repeat' split) <;> simp

@[simp] theorem State.withdrawWatch_levels (w : Watch) : (s.withdrawWatch w).levels = s.levels := by
  unfold State.withdrawWatch; (repeat' split) <;> simp

@[simp] theorem State.withdrawWatch_engine (w : Watch) : (s.withdrawWatch w).engine = s.engine := by
  unfold State.withdrawWatch; (repeat' split) <;> simp

@[simp] theorem State.withdrawWatch_monitor (w : Watch) :
    (s.withdrawWatch w).monitor = s.monitor := by
  unfold State.withdrawWatch; (repeat' split) <;> simp

@[simp] theorem State.withdrawWatch_freeCount (w : Watch) :
    (s.withdrawWatch w).freeCount = s.freeCount := by
  unfold State.withdrawWatch; (repeat' split) <;> simp


/-! ### removeWatch -/

@[simp] theorem State.removeWatch_pending (n : Fin 32) (w : Watch) :
    (s.removeWatch n w).pending = s.pending := by
  unfold State.removeWatch; (try dsimp only); (repeat' split) <;> simp

@[simp] theorem State.removeWatch_ports (n : Fin 32) (w : Watch) :
    (s.removeWatch n w).ports = s.ports := by
  unfold State.removeWatch; (try dsimp only); (repeat' split) <;> simp

@[simp] theorem State.removeWatch_plan (n : Fin 32) (w : Watch) :
    (s.removeWatch n w).plan = s.plan := by
  unfold State.removeWatch; (try dsimp only); (repeat' split) <;> simp

@[simp] theorem State.removeWatch_table_occupancy (n : Fin 32) (w : Watch) :
    (s.removeWatch n w).table.occupancy = s.table.occupancy := by
  unfold State.removeWatch; (try dsimp only); (repeat' split) <;> simp

@[simp] theorem State.removeWatch_table_counts (n : Fin 32) (w : Watch) :
    (s.removeWatch n w).table.counts = s.table.counts := by
  unfold State.removeWatch; (try dsimp only); (repeat' split) <;> simp

@[simp] theorem State.removeWatch_table_planFrozen (n : Fin 32) (w : Watch) :
    (s.removeWatch n w).table.planFrozen = s.table.planFrozen := by
  unfold State.removeWatch; (try dsimp only); (repeat' split) <;> simp

@[simp] theorem State.removeWatch_profiles (n : Fin 32) (w : Watch) :
    (s.removeWatch n w).profiles = s.profiles := by
  unfold State.removeWatch; (try dsimp only); (repeat' split) <;> simp

@[simp] theorem State.removeWatch_pool (n : Fin 32) (w : Watch) :
    (s.removeWatch n w).pool = s.pool := by
  unfold State.removeWatch; (try dsimp only); (repeat' split) <;> simp

@[simp] theorem State.removeWatch_levels (n : Fin 32) (w : Watch) :
    (s.removeWatch n w).levels = s.levels := by
  unfold State.removeWatch; (try dsimp only); (repeat' split) <;> simp

@[simp] theorem State.removeWatch_engine (n : Fin 32) (w : Watch) :
    (s.removeWatch n w).engine = s.engine := by
  unfold State.removeWatch; (try dsimp only); (repeat' split) <;> simp

@[simp] theorem State.removeWatch_freeCount (n : Fin 32) (w : Watch) :
    (s.removeWatch n w).freeCount = s.freeCount := by
  unfold State.removeWatch; (try dsimp only); (repeat' split) <;> simp


/-! ### emptyPosition -/

@[simp] theorem State.emptyPosition_pending (n : Fin 32) :
    (s.emptyPosition n).pending = s.pending := by
  unfold State.emptyPosition; (repeat' split) <;> simp

@[simp] theorem State.emptyPosition_ports (n : Fin 32) : (s.emptyPosition n).ports = s.ports := by
  unfold State.emptyPosition; (repeat' split) <;> simp

@[simp] theorem State.emptyPosition_plan (n : Fin 32) : (s.emptyPosition n).plan = s.plan := by
  unfold State.emptyPosition; (repeat' split) <;> simp

@[simp] theorem State.emptyPosition_table_occupancy (n : Fin 32) :
    (s.emptyPosition n).table.occupancy = s.table.occupancy := by
  unfold State.emptyPosition; (repeat' split) <;> simp

@[simp] theorem State.emptyPosition_table_counts (n : Fin 32) :
    (s.emptyPosition n).table.counts = s.table.counts := by
  unfold State.emptyPosition; (repeat' split) <;> simp

@[simp] theorem State.emptyPosition_table_planFrozen (n : Fin 32) :
    (s.emptyPosition n).table.planFrozen = s.table.planFrozen := by
  unfold State.emptyPosition; (repeat' split) <;> simp

@[simp] theorem State.emptyPosition_profiles (n : Fin 32) :
    (s.emptyPosition n).profiles = s.profiles := by
  unfold State.emptyPosition; (repeat' split) <;> simp

@[simp] theorem State.emptyPosition_pool (n : Fin 32) : (s.emptyPosition n).pool = s.pool := by
  unfold State.emptyPosition; (repeat' split) <;> simp

@[simp] theorem State.emptyPosition_levels (n : Fin 32) :
    (s.emptyPosition n).levels = s.levels := by
  unfold State.emptyPosition; (repeat' split) <;> simp

@[simp] theorem State.emptyPosition_engine (n : Fin 32) :
    (s.emptyPosition n).engine = s.engine := by
  unfold State.emptyPosition; (repeat' split) <;> simp

@[simp] theorem State.emptyPosition_freeCount (n : Fin 32) :
    (s.emptyPosition n).freeCount = s.freeCount := by
  unfold State.emptyPosition; (repeat' split) <;> simp


/-! ### writeWatch -/

@[simp] theorem State.writeWatch_pending (n : Fin 32) (w : Watch) (l u : Byte) :
    (s.writeWatch n w l u).pending = s.pending := by
  unfold State.writeWatch; (try dsimp only); (repeat' split) <;> simp

@[simp] theorem State.writeWatch_ports (n : Fin 32) (w : Watch) (l u : Byte) :
    (s.writeWatch n w l u).ports = s.ports := by
  unfold State.writeWatch; (try dsimp only); (repeat' split) <;> simp

@[simp] theorem State.writeWatch_plan (n : Fin 32) (w : Watch) (l u : Byte) :
    (s.writeWatch n w l u).plan = s.plan := by
  unfold State.writeWatch; (try dsimp only); (repeat' split) <;> simp

@[simp] theorem State.writeWatch_table (n : Fin 32) (w : Watch) (l u : Byte) :
    (s.writeWatch n w l u).table = s.table := by
  unfold State.writeWatch; (try dsimp only); (repeat' split) <;> simp

@[simp] theorem State.writeWatch_profiles (n : Fin 32) (w : Watch) (l u : Byte) :
    (s.writeWatch n w l u).profiles = s.profiles := by
  unfold State.writeWatch; (try dsimp only); (repeat' split) <;> simp

@[simp] theorem State.writeWatch_pool (n : Fin 32) (w : Watch) (l u : Byte) :
    (s.writeWatch n w l u).pool = s.pool := by
  unfold State.writeWatch; (try dsimp only); (repeat' split) <;> simp

@[simp] theorem State.writeWatch_levels (n : Fin 32) (w : Watch) (l u : Byte) :
    (s.writeWatch n w l u).levels = s.levels := by
  unfold State.writeWatch; (try dsimp only); (repeat' split) <;> simp

@[simp] theorem State.writeWatch_engine (n : Fin 32) (w : Watch) (l u : Byte) :
    (s.writeWatch n w l u).engine = s.engine := by
  unfold State.writeWatch; (try dsimp only); (repeat' split) <;> simp

@[simp] theorem State.writeWatch_freeCount (n : Fin 32) (w : Watch) (l u : Byte) :
    (s.writeWatch n w l u).freeCount = s.freeCount := by
  unfold State.writeWatch; (try dsimp only); (repeat' split) <;> simp


/-! ### sendMeasure -/

@[simp] theorem State.sendMeasure_pending (w : Sweep) (k : Nat) (b : Band) (x y : Nat) (h : Option Handle) :
    (s.sendMeasure w k b x y h).pending = s.pending := by
  unfold State.sendMeasure; simp

@[simp] theorem State.sendMeasure_ports (w : Sweep) (k : Nat) (b : Band) (x y : Nat) (h : Option Handle) :
    (s.sendMeasure w k b x y h).ports = s.ports := by
  unfold State.sendMeasure; simp

@[simp] theorem State.sendMeasure_plan (w : Sweep) (k : Nat) (b : Band) (x y : Nat) (h : Option Handle) :
    (s.sendMeasure w k b x y h).plan = s.plan := by
  unfold State.sendMeasure; simp

@[simp] theorem State.sendMeasure_table (w : Sweep) (k : Nat) (b : Band) (x y : Nat) (h : Option Handle) :
    (s.sendMeasure w k b x y h).table = s.table := by
  unfold State.sendMeasure; simp

@[simp] theorem State.sendMeasure_profiles (w : Sweep) (k : Nat) (b : Band) (x y : Nat) (h : Option Handle) :
    (s.sendMeasure w k b x y h).profiles = s.profiles := by
  unfold State.sendMeasure; simp

@[simp] theorem State.sendMeasure_pool (w : Sweep) (k : Nat) (b : Band) (x y : Nat) (h : Option Handle) :
    (s.sendMeasure w k b x y h).pool = s.pool := by
  unfold State.sendMeasure; simp

@[simp] theorem State.sendMeasure_levels (w : Sweep) (k : Nat) (b : Band) (x y : Nat) (h : Option Handle) :
    (s.sendMeasure w k b x y h).levels = s.levels := by
  unfold State.sendMeasure; simp

@[simp] theorem State.sendMeasure_engine (w : Sweep) (k : Nat) (b : Band) (x y : Nat) (h : Option Handle) :
    (s.sendMeasure w k b x y h).engine = s.engine := by
  unfold State.sendMeasure; simp

@[simp] theorem State.sendMeasure_freeCount (w : Sweep) (k : Nat) (b : Band) (x y : Nat) (h : Option Handle) :
    (s.sendMeasure w k b x y h).freeCount = s.freeCount := by
  unfold State.sendMeasure; simp


/-! ### reportSweep -/

@[simp] theorem State.reportSweep_pending (w : Sweep) : (s.reportSweep w).pending = s.pending := by
  unfold State.reportSweep; (repeat' split) <;> simp

@[simp] theorem State.reportSweep_ports_resetHeld (w : Sweep) :
    (s.reportSweep w).ports.resetHeld = s.ports.resetHeld := by
  unfold State.reportSweep; (repeat' split) <;> simp

@[simp] theorem State.reportSweep_ports_management (w : Sweep) :
    (s.reportSweep w).ports.management = s.ports.management := by
  unfold State.reportSweep; (repeat' split) <;> simp

@[simp] theorem State.reportSweep_ports_tenant (w : Sweep) :
    (s.reportSweep w).ports.tenant = s.ports.tenant := by
  unfold State.reportSweep; (repeat' split) <;> simp

@[simp] theorem State.reportSweep_ports_priority (w : Sweep) :
    (s.reportSweep w).ports.priority = s.ports.priority := by
  unfold State.reportSweep; (repeat' split) <;> simp

@[simp] theorem State.reportSweep_ports_pointer (w : Sweep) :
    (s.reportSweep w).ports.pointer = s.ports.pointer := by
  unfold State.reportSweep; (repeat' split) <;> simp

@[simp] theorem State.reportSweep_ports_mask (w : Sweep) :
    (s.reportSweep w).ports.mask = s.ports.mask := by
  unfold State.reportSweep; (repeat' split) <;> simp

@[simp] theorem State.reportSweep_plan (w : Sweep) : (s.reportSweep w).plan = s.plan := by
  unfold State.reportSweep; (repeat' split) <;> simp

@[simp] theorem State.reportSweep_table (w : Sweep) : (s.reportSweep w).table = s.table := by
  unfold State.reportSweep; (repeat' split) <;> simp

@[simp] theorem State.reportSweep_profiles (w : Sweep) :
    (s.reportSweep w).profiles = s.profiles := by
  unfold State.reportSweep; (repeat' split) <;> simp

@[simp] theorem State.reportSweep_pool (w : Sweep) : (s.reportSweep w).pool = s.pool := by
  unfold State.reportSweep; (repeat' split) <;> simp

@[simp] theorem State.reportSweep_levels (w : Sweep) : (s.reportSweep w).levels = s.levels := by
  unfold State.reportSweep; (repeat' split) <;> simp

@[simp] theorem State.reportSweep_engine (w : Sweep) : (s.reportSweep w).engine = s.engine := by
  unfold State.reportSweep; (repeat' split) <;> simp

@[simp] theorem State.reportSweep_monitor (w : Sweep) : (s.reportSweep w).monitor = s.monitor := by
  unfold State.reportSweep; (repeat' split) <;> simp

@[simp] theorem State.reportSweep_freeCount (w : Sweep) :
    (s.reportSweep w).freeCount = s.freeCount := by
  unfold State.reportSweep; (repeat' split) <;> simp


/-! ### endSweep -/

@[simp] theorem State.endSweep_pending (w : Sweep) : (s.endSweep w).pending = s.pending := by
  unfold State.endSweep; simp

@[simp] theorem State.endSweep_ports_resetHeld (w : Sweep) :
    (s.endSweep w).ports.resetHeld = s.ports.resetHeld := by
  unfold State.endSweep; simp

@[simp] theorem State.endSweep_ports_management (w : Sweep) :
    (s.endSweep w).ports.management = s.ports.management := by
  unfold State.endSweep; simp

@[simp] theorem State.endSweep_ports_tenant (w : Sweep) :
    (s.endSweep w).ports.tenant = s.ports.tenant := by
  unfold State.endSweep; simp

@[simp] theorem State.endSweep_ports_priority (w : Sweep) :
    (s.endSweep w).ports.priority = s.ports.priority := by
  unfold State.endSweep; simp

@[simp] theorem State.endSweep_ports_pointer (w : Sweep) :
    (s.endSweep w).ports.pointer = s.ports.pointer := by
  unfold State.endSweep; simp

@[simp] theorem State.endSweep_ports_mask (w : Sweep) :
    (s.endSweep w).ports.mask = s.ports.mask := by
  unfold State.endSweep; simp

@[simp] theorem State.endSweep_plan (w : Sweep) : (s.endSweep w).plan = s.plan := by
  unfold State.endSweep; simp

@[simp] theorem State.endSweep_table (w : Sweep) : (s.endSweep w).table = s.table := by
  unfold State.endSweep; simp

@[simp] theorem State.endSweep_profiles (w : Sweep) : (s.endSweep w).profiles = s.profiles := by
  unfold State.endSweep; simp

@[simp] theorem State.endSweep_pool (w : Sweep) : (s.endSweep w).pool = s.pool := by
  unfold State.endSweep; simp

@[simp] theorem State.endSweep_levels (w : Sweep) : (s.endSweep w).levels = s.levels := by
  unfold State.endSweep; simp

@[simp] theorem State.endSweep_engine (w : Sweep) : (s.endSweep w).engine = s.engine := by
  unfold State.endSweep; simp

@[simp] theorem State.endSweep_freeCount (w : Sweep) : (s.endSweep w).freeCount = s.freeCount := by
  unfold State.endSweep; simp


/-! ### startSweep -/

@[simp] theorem State.startSweep_pending : (s.startSweep).pending = s.pending := by
  unfold State.startSweep; (try dsimp only); (repeat' split) <;> simp

@[simp] theorem State.startSweep_ports_resetHeld :
    (s.startSweep).ports.resetHeld = s.ports.resetHeld := by
  unfold State.startSweep; (try dsimp only); (repeat' split) <;> simp

@[simp] theorem State.startSweep_ports_management :
    (s.startSweep).ports.management = s.ports.management := by
  unfold State.startSweep; (try dsimp only); (repeat' split) <;> simp

@[simp] theorem State.startSweep_ports_tenant : (s.startSweep).ports.tenant = s.ports.tenant := by
  unfold State.startSweep; (try dsimp only); (repeat' split) <;> simp

@[simp] theorem State.startSweep_ports_priority :
    (s.startSweep).ports.priority = s.ports.priority := by
  unfold State.startSweep; (try dsimp only); (repeat' split) <;> simp

@[simp] theorem State.startSweep_ports_pointer :
    (s.startSweep).ports.pointer = s.ports.pointer := by
  unfold State.startSweep; (try dsimp only); (repeat' split) <;> simp

@[simp] theorem State.startSweep_ports_mask : (s.startSweep).ports.mask = s.ports.mask := by
  unfold State.startSweep; (try dsimp only); (repeat' split) <;> simp

@[simp] theorem State.startSweep_plan : (s.startSweep).plan = s.plan := by
  unfold State.startSweep; (try dsimp only); (repeat' split) <;> simp

@[simp] theorem State.startSweep_table : (s.startSweep).table = s.table := by
  unfold State.startSweep; (try dsimp only); (repeat' split) <;> simp

@[simp] theorem State.startSweep_profiles : (s.startSweep).profiles = s.profiles := by
  unfold State.startSweep; (try dsimp only); (repeat' split) <;> simp

@[simp] theorem State.startSweep_pool : (s.startSweep).pool = s.pool := by
  unfold State.startSweep; (try dsimp only); (repeat' split) <;> simp

@[simp] theorem State.startSweep_levels : (s.startSweep).levels = s.levels := by
  unfold State.startSweep; (try dsimp only); (repeat' split) <;> simp

@[simp] theorem State.startSweep_engine : (s.startSweep).engine = s.engine := by
  unfold State.startSweep; (try dsimp only); (repeat' split) <;> simp

@[simp] theorem State.startSweep_freeCount : (s.startSweep).freeCount = s.freeCount := by
  unfold State.startSweep; (try dsimp only); (repeat' split) <;> simp


/-! ### continueSweep -/

@[simp] theorem State.continueSweep_pending : (s.continueSweep).pending = s.pending := by
  unfold State.continueSweep; (try dsimp only); (repeat' split) <;> simp

@[simp] theorem State.continueSweep_ports_resetHeld :
    (s.continueSweep).ports.resetHeld = s.ports.resetHeld := by
  unfold State.continueSweep; (try dsimp only); (repeat' split) <;> simp

@[simp] theorem State.continueSweep_ports_management :
    (s.continueSweep).ports.management = s.ports.management := by
  unfold State.continueSweep; (try dsimp only); (repeat' split) <;> simp

@[simp] theorem State.continueSweep_ports_tenant :
    (s.continueSweep).ports.tenant = s.ports.tenant := by
  unfold State.continueSweep; (try dsimp only); (repeat' split) <;> simp

@[simp] theorem State.continueSweep_ports_priority :
    (s.continueSweep).ports.priority = s.ports.priority := by
  unfold State.continueSweep; (try dsimp only); (repeat' split) <;> simp

@[simp] theorem State.continueSweep_ports_pointer :
    (s.continueSweep).ports.pointer = s.ports.pointer := by
  unfold State.continueSweep; (try dsimp only); (repeat' split) <;> simp

@[simp] theorem State.continueSweep_ports_mask : (s.continueSweep).ports.mask = s.ports.mask := by
  unfold State.continueSweep; (try dsimp only); (repeat' split) <;> simp

@[simp] theorem State.continueSweep_plan : (s.continueSweep).plan = s.plan := by
  unfold State.continueSweep; (try dsimp only); (repeat' split) <;> simp

@[simp] theorem State.continueSweep_table : (s.continueSweep).table = s.table := by
  unfold State.continueSweep; (try dsimp only); (repeat' split) <;> simp

@[simp] theorem State.continueSweep_profiles : (s.continueSweep).profiles = s.profiles := by
  unfold State.continueSweep; (try dsimp only); (repeat' split) <;> simp

@[simp] theorem State.continueSweep_pool : (s.continueSweep).pool = s.pool := by
  unfold State.continueSweep; (try dsimp only); (repeat' split) <;> simp

@[simp] theorem State.continueSweep_levels : (s.continueSweep).levels = s.levels := by
  unfold State.continueSweep; (try dsimp only); (repeat' split) <;> simp

@[simp] theorem State.continueSweep_engine : (s.continueSweep).engine = s.engine := by
  unfold State.continueSweep; (try dsimp only); (repeat' split) <;> simp

@[simp] theorem State.continueSweep_freeCount : (s.continueSweep).freeCount = s.freeCount := by
  unfold State.continueSweep; (try dsimp only); (repeat' split) <;> simp


/-! ### sweepIfContinuous -/

@[simp] theorem State.sweepIfContinuous_pending : (s.sweepIfContinuous).pending = s.pending := by
  unfold State.sweepIfContinuous; (repeat' split) <;> simp

@[simp] theorem State.sweepIfContinuous_ports_resetHeld :
    (s.sweepIfContinuous).ports.resetHeld = s.ports.resetHeld := by
  unfold State.sweepIfContinuous; (repeat' split) <;> simp

@[simp] theorem State.sweepIfContinuous_ports_management :
    (s.sweepIfContinuous).ports.management = s.ports.management := by
  unfold State.sweepIfContinuous; (repeat' split) <;> simp

@[simp] theorem State.sweepIfContinuous_ports_tenant :
    (s.sweepIfContinuous).ports.tenant = s.ports.tenant := by
  unfold State.sweepIfContinuous; (repeat' split) <;> simp

@[simp] theorem State.sweepIfContinuous_ports_priority :
    (s.sweepIfContinuous).ports.priority = s.ports.priority := by
  unfold State.sweepIfContinuous; (repeat' split) <;> simp

@[simp] theorem State.sweepIfContinuous_ports_pointer :
    (s.sweepIfContinuous).ports.pointer = s.ports.pointer := by
  unfold State.sweepIfContinuous; (repeat' split) <;> simp

@[simp] theorem State.sweepIfContinuous_ports_mask :
    (s.sweepIfContinuous).ports.mask = s.ports.mask := by
  unfold State.sweepIfContinuous; (repeat' split) <;> simp

@[simp] theorem State.sweepIfContinuous_plan : (s.sweepIfContinuous).plan = s.plan := by
  unfold State.sweepIfContinuous; (repeat' split) <;> simp

@[simp] theorem State.sweepIfContinuous_table : (s.sweepIfContinuous).table = s.table := by
  unfold State.sweepIfContinuous; (repeat' split) <;> simp

@[simp] theorem State.sweepIfContinuous_profiles : (s.sweepIfContinuous).profiles = s.profiles := by
  unfold State.sweepIfContinuous; (repeat' split) <;> simp

@[simp] theorem State.sweepIfContinuous_pool : (s.sweepIfContinuous).pool = s.pool := by
  unfold State.sweepIfContinuous; (repeat' split) <;> simp

@[simp] theorem State.sweepIfContinuous_levels : (s.sweepIfContinuous).levels = s.levels := by
  unfold State.sweepIfContinuous; (repeat' split) <;> simp

@[simp] theorem State.sweepIfContinuous_engine : (s.sweepIfContinuous).engine = s.engine := by
  unfold State.sweepIfContinuous; (repeat' split) <;> simp

@[simp] theorem State.sweepIfContinuous_freeCount :
    (s.sweepIfContinuous).freeCount = s.freeCount := by
  unfold State.sweepIfContinuous; (repeat' split) <;> simp


/-! ### askMove -/

@[simp] theorem State.askMove_pending (h : Handle) : (s.askMove h).pending = s.pending := by
  unfold State.askMove; (try dsimp only); (repeat' split) <;> simp

@[simp] theorem State.askMove_ports (h : Handle) : (s.askMove h).ports = s.ports := by
  unfold State.askMove; (try dsimp only); (repeat' split) <;> simp

@[simp] theorem State.askMove_plan (h : Handle) : (s.askMove h).plan = s.plan := by
  unfold State.askMove; (try dsimp only); (repeat' split) <;> simp

@[simp] theorem State.askMove_table (h : Handle) : (s.askMove h).table = s.table := by
  unfold State.askMove; (try dsimp only); (repeat' split) <;> simp

@[simp] theorem State.askMove_profiles (h : Handle) : (s.askMove h).profiles = s.profiles := by
  unfold State.askMove; (try dsimp only); (repeat' split) <;> simp

@[simp] theorem State.askMove_pool (h : Handle) : (s.askMove h).pool = s.pool := by
  unfold State.askMove; (try dsimp only); (repeat' split) <;> simp

@[simp] theorem State.askMove_levels (h : Handle) : (s.askMove h).levels = s.levels := by
  unfold State.askMove; (try dsimp only); (repeat' split) <;> simp

@[simp] theorem State.askMove_engine_repack (h : Handle) :
    (s.askMove h).engine.repack = s.engine.repack := by
  unfold State.askMove; (try dsimp only); (repeat' split) <;> simp

@[simp] theorem State.askMove_engine_frag (h : Handle) :
    (s.askMove h).engine.frag = s.engine.frag := by
  unfold State.askMove; (try dsimp only); (repeat' split) <;> simp

@[simp] theorem State.askMove_monitor (h : Handle) : (s.askMove h).monitor = s.monitor := by
  unfold State.askMove; (try dsimp only); (repeat' split) <;> simp

@[simp] theorem State.askMove_freeCount (h : Handle) : (s.askMove h).freeCount = s.freeCount := by
  unfold State.askMove; (try dsimp only); (repeat' split) <;> simp


/-! ### turned -/

@[simp] theorem State.turned_pending (w : Watch) (x : Bool) :
    (s.turned w x).pending = s.pending := by
  unfold State.turned; (try dsimp only); (repeat' split) <;> simp

@[simp] theorem State.turned_ports (w : Watch) (x : Bool) : (s.turned w x).ports = s.ports := by
  unfold State.turned; (try dsimp only); (repeat' split) <;> simp

@[simp] theorem State.turned_plan (w : Watch) (x : Bool) : (s.turned w x).plan = s.plan := by
  unfold State.turned; (try dsimp only); (repeat' split) <;> simp

@[simp] theorem State.turned_table_occupancy (w : Watch) (x : Bool) :
    (s.turned w x).table.occupancy = s.table.occupancy := by
  unfold State.turned; (try dsimp only); (repeat' split) <;> simp

@[simp] theorem State.turned_table_counts (w : Watch) (x : Bool) :
    (s.turned w x).table.counts = s.table.counts := by
  unfold State.turned; (try dsimp only); (repeat' split) <;> simp

@[simp] theorem State.turned_table_planFrozen (w : Watch) (x : Bool) :
    (s.turned w x).table.planFrozen = s.table.planFrozen := by
  unfold State.turned; (try dsimp only); (repeat' split) <;> simp

@[simp] theorem State.turned_profiles (w : Watch) (x : Bool) :
    (s.turned w x).profiles = s.profiles := by
  unfold State.turned; (try dsimp only); (repeat' split) <;> simp

@[simp] theorem State.turned_pool (w : Watch) (x : Bool) : (s.turned w x).pool = s.pool := by
  unfold State.turned; (try dsimp only); (repeat' split) <;> simp

@[simp] theorem State.turned_levels (w : Watch) (x : Bool) : (s.turned w x).levels = s.levels := by
  unfold State.turned; (try dsimp only); (repeat' split) <;> simp

@[simp] theorem State.turned_engine_repack (w : Watch) (x : Bool) :
    (s.turned w x).engine.repack = s.engine.repack := by
  unfold State.turned; (try dsimp only); (repeat' split) <;> simp

@[simp] theorem State.turned_engine_frag (w : Watch) (x : Bool) :
    (s.turned w x).engine.frag = s.engine.frag := by
  unfold State.turned; (try dsimp only); (repeat' split) <;> simp

@[simp] theorem State.turned_monitor (w : Watch) (x : Bool) :
    (s.turned w x).monitor = s.monitor := by
  unfold State.turned; (try dsimp only); (repeat' split) <;> simp

@[simp] theorem State.turned_freeCount (w : Watch) (x : Bool) :
    (s.turned w x).freeCount = s.freeCount := by
  unfold State.turned; (try dsimp only); (repeat' split) <;> simp


/-! ### compareAt -/

@[simp] theorem State.compareAt_pending (n : Fin 32) (w : Watch) (r : Byte) :
    (s.compareAt n w r).pending = s.pending := by
  unfold State.compareAt; (try dsimp only); (repeat' split) <;> simp

@[simp] theorem State.compareAt_ports_resetHeld (n : Fin 32) (w : Watch) (r : Byte) :
    (s.compareAt n w r).ports.resetHeld = s.ports.resetHeld := by
  unfold State.compareAt; (try dsimp only); (repeat' split) <;> simp

@[simp] theorem State.compareAt_ports_management (n : Fin 32) (w : Watch) (r : Byte) :
    (s.compareAt n w r).ports.management = s.ports.management := by
  unfold State.compareAt; (try dsimp only); (repeat' split) <;> simp

@[simp] theorem State.compareAt_ports_tenant (n : Fin 32) (w : Watch) (r : Byte) :
    (s.compareAt n w r).ports.tenant = s.ports.tenant := by
  unfold State.compareAt; (try dsimp only); (repeat' split) <;> simp

@[simp] theorem State.compareAt_ports_priority (n : Fin 32) (w : Watch) (r : Byte) :
    (s.compareAt n w r).ports.priority = s.ports.priority := by
  unfold State.compareAt; (try dsimp only); (repeat' split) <;> simp

@[simp] theorem State.compareAt_ports_pointer (n : Fin 32) (w : Watch) (r : Byte) :
    (s.compareAt n w r).ports.pointer = s.ports.pointer := by
  unfold State.compareAt; (try dsimp only); (repeat' split) <;> simp

@[simp] theorem State.compareAt_ports_mask (n : Fin 32) (w : Watch) (r : Byte) :
    (s.compareAt n w r).ports.mask = s.ports.mask := by
  unfold State.compareAt; (try dsimp only); (repeat' split) <;> simp

@[simp] theorem State.compareAt_plan (n : Fin 32) (w : Watch) (r : Byte) :
    (s.compareAt n w r).plan = s.plan := by
  unfold State.compareAt; (try dsimp only); (repeat' split) <;> simp

@[simp] theorem State.compareAt_table_occupancy (n : Fin 32) (w : Watch) (r : Byte) :
    (s.compareAt n w r).table.occupancy = s.table.occupancy := by
  unfold State.compareAt; (try dsimp only); (repeat' split) <;> simp

@[simp] theorem State.compareAt_table_counts (n : Fin 32) (w : Watch) (r : Byte) :
    (s.compareAt n w r).table.counts = s.table.counts := by
  unfold State.compareAt; (try dsimp only); (repeat' split) <;> simp

@[simp] theorem State.compareAt_table_planFrozen (n : Fin 32) (w : Watch) (r : Byte) :
    (s.compareAt n w r).table.planFrozen = s.table.planFrozen := by
  unfold State.compareAt; (try dsimp only); (repeat' split) <;> simp

@[simp] theorem State.compareAt_profiles (n : Fin 32) (w : Watch) (r : Byte) :
    (s.compareAt n w r).profiles = s.profiles := by
  unfold State.compareAt; (try dsimp only); (repeat' split) <;> simp

@[simp] theorem State.compareAt_pool (n : Fin 32) (w : Watch) (r : Byte) :
    (s.compareAt n w r).pool = s.pool := by
  unfold State.compareAt; (try dsimp only); (repeat' split) <;> simp

@[simp] theorem State.compareAt_levels (n : Fin 32) (w : Watch) (r : Byte) :
    (s.compareAt n w r).levels = s.levels := by
  unfold State.compareAt; (try dsimp only); (repeat' split) <;> simp

@[simp] theorem State.compareAt_engine_repack (n : Fin 32) (w : Watch) (r : Byte) :
    (s.compareAt n w r).engine.repack = s.engine.repack := by
  unfold State.compareAt; (try dsimp only); (repeat' split) <;> simp

@[simp] theorem State.compareAt_engine_frag (n : Fin 32) (w : Watch) (r : Byte) :
    (s.compareAt n w r).engine.frag = s.engine.frag := by
  unfold State.compareAt; (try dsimp only); (repeat' split) <;> simp

@[simp] theorem State.compareAt_freeCount (n : Fin 32) (w : Watch) (r : Byte) :
    (s.compareAt n w r).freeCount = s.freeCount := by
  unfold State.compareAt; (try dsimp only); (repeat' split) <;> simp


/-! ### actOn -/

@[simp] theorem State.actOn_pending (n : Fin 32) (r : Byte) :
    (s.actOn n r).pending = s.pending := by
  unfold State.actOn; (repeat' split) <;> simp

@[simp] theorem State.actOn_ports_resetHeld (n : Fin 32) (r : Byte) :
    (s.actOn n r).ports.resetHeld = s.ports.resetHeld := by
  unfold State.actOn; (repeat' split) <;> simp

@[simp] theorem State.actOn_ports_management (n : Fin 32) (r : Byte) :
    (s.actOn n r).ports.management = s.ports.management := by
  unfold State.actOn; (repeat' split) <;> simp

@[simp] theorem State.actOn_ports_tenant (n : Fin 32) (r : Byte) :
    (s.actOn n r).ports.tenant = s.ports.tenant := by
  unfold State.actOn; (repeat' split) <;> simp

@[simp] theorem State.actOn_ports_priority (n : Fin 32) (r : Byte) :
    (s.actOn n r).ports.priority = s.ports.priority := by
  unfold State.actOn; (repeat' split) <;> simp

@[simp] theorem State.actOn_ports_pointer (n : Fin 32) (r : Byte) :
    (s.actOn n r).ports.pointer = s.ports.pointer := by
  unfold State.actOn; (repeat' split) <;> simp

@[simp] theorem State.actOn_ports_mask (n : Fin 32) (r : Byte) :
    (s.actOn n r).ports.mask = s.ports.mask := by
  unfold State.actOn; (repeat' split) <;> simp

@[simp] theorem State.actOn_plan (n : Fin 32) (r : Byte) : (s.actOn n r).plan = s.plan := by
  unfold State.actOn; (repeat' split) <;> simp

@[simp] theorem State.actOn_table_occupancy (n : Fin 32) (r : Byte) :
    (s.actOn n r).table.occupancy = s.table.occupancy := by
  unfold State.actOn; (repeat' split) <;> simp

@[simp] theorem State.actOn_table_counts (n : Fin 32) (r : Byte) :
    (s.actOn n r).table.counts = s.table.counts := by
  unfold State.actOn; (repeat' split) <;> simp

@[simp] theorem State.actOn_table_planFrozen (n : Fin 32) (r : Byte) :
    (s.actOn n r).table.planFrozen = s.table.planFrozen := by
  unfold State.actOn; (repeat' split) <;> simp

@[simp] theorem State.actOn_profiles (n : Fin 32) (r : Byte) :
    (s.actOn n r).profiles = s.profiles := by
  unfold State.actOn; (repeat' split) <;> simp

@[simp] theorem State.actOn_pool (n : Fin 32) (r : Byte) : (s.actOn n r).pool = s.pool := by
  unfold State.actOn; (repeat' split) <;> simp

@[simp] theorem State.actOn_levels (n : Fin 32) (r : Byte) : (s.actOn n r).levels = s.levels := by
  unfold State.actOn; (repeat' split) <;> simp

@[simp] theorem State.actOn_engine_repack (n : Fin 32) (r : Byte) :
    (s.actOn n r).engine.repack = s.engine.repack := by
  unfold State.actOn; (repeat' split) <;> simp

@[simp] theorem State.actOn_engine_frag (n : Fin 32) (r : Byte) :
    (s.actOn n r).engine.frag = s.engine.frag := by
  unfold State.actOn; (repeat' split) <;> simp

@[simp] theorem State.actOn_freeCount (n : Fin 32) (r : Byte) :
    (s.actOn n r).freeCount = s.freeCount := by
  unfold State.actOn; (repeat' split) <;> simp


/-! ### freeEntry -/

@[simp] theorem State.freeEntry_pending (i : Fin 64) : (s.freeEntry i).pending = s.pending := by
  unfold State.freeEntry; (try dsimp only); (repeat' split) <;> simp

@[simp] theorem State.freeEntry_ports (i : Fin 64) : (s.freeEntry i).ports = s.ports := by
  unfold State.freeEntry; (try dsimp only); (repeat' split) <;> simp

@[simp] theorem State.freeEntry_plan (i : Fin 64) : (s.freeEntry i).plan = s.plan := by
  unfold State.freeEntry; (try dsimp only); (repeat' split) <;> simp

@[simp] theorem State.freeEntry_table_planFrozen (i : Fin 64) :
    (s.freeEntry i).table.planFrozen = s.table.planFrozen := by
  unfold State.freeEntry; (try dsimp only); (repeat' split) <;> simp

@[simp] theorem State.freeEntry_pool (i : Fin 64) : (s.freeEntry i).pool = s.pool := by
  unfold State.freeEntry; (try dsimp only); (repeat' split) <;> simp

@[simp] theorem State.freeEntry_levels (i : Fin 64) : (s.freeEntry i).levels = s.levels := by
  unfold State.freeEntry; (try dsimp only); (repeat' split) <;> simp

@[simp] theorem State.freeEntry_engine (i : Fin 64) : (s.freeEntry i).engine = s.engine := by
  unfold State.freeEntry; (try dsimp only); (repeat' split) <;> simp

@[simp] theorem State.freeEntry_freeCount (i : Fin 64) :
    (s.freeEntry i).freeCount = s.freeCount := by
  unfold State.freeEntry; (try dsimp only); (repeat' split) <;> simp


/-! ### relocate -/

@[simp] theorem State.relocate_pending (i : Fin 64) (n : Nat) :
    (s.relocate i n).pending = s.pending := by
  unfold State.relocate; (try dsimp only); (repeat' split) <;> simp

@[simp] theorem State.relocate_ports (i : Fin 64) (n : Nat) : (s.relocate i n).ports = s.ports := by
  unfold State.relocate; (try dsimp only); (repeat' split) <;> simp

@[simp] theorem State.relocate_plan (i : Fin 64) (n : Nat) : (s.relocate i n).plan = s.plan := by
  unfold State.relocate; (try dsimp only); (repeat' split) <;> simp

@[simp] theorem State.relocate_table_counts (i : Fin 64) (n : Nat) :
    (s.relocate i n).table.counts = s.table.counts := by
  unfold State.relocate; (try dsimp only); (repeat' split) <;> simp

@[simp] theorem State.relocate_table_planFrozen (i : Fin 64) (n : Nat) :
    (s.relocate i n).table.planFrozen = s.table.planFrozen := by
  unfold State.relocate; (try dsimp only); (repeat' split) <;> simp

@[simp] theorem State.relocate_profiles (i : Fin 64) (n : Nat) :
    (s.relocate i n).profiles = s.profiles := by
  unfold State.relocate; (try dsimp only); (repeat' split) <;> simp

@[simp] theorem State.relocate_pool (i : Fin 64) (n : Nat) : (s.relocate i n).pool = s.pool := by
  unfold State.relocate; (try dsimp only); (repeat' split) <;> simp

@[simp] theorem State.relocate_levels (i : Fin 64) (n : Nat) :
    (s.relocate i n).levels = s.levels := by
  unfold State.relocate; (try dsimp only); (repeat' split) <;> simp

@[simp] theorem State.relocate_freeCount (i : Fin 64) (n : Nat) :
    (s.relocate i n).freeCount = s.freeCount := by
  unfold State.relocate; (try dsimp only); (repeat' split) <;> simp


/-! ### moveReserved -/

@[simp] theorem State.moveReserved_pending (i : Fin 64) (n : Nat) (x : Bool) :
    (s.moveReserved i n x).pending = s.pending := by
  unfold State.moveReserved; simp

@[simp] theorem State.moveReserved_ports (i : Fin 64) (n : Nat) (x : Bool) :
    (s.moveReserved i n x).ports = s.ports := by
  unfold State.moveReserved; simp

@[simp] theorem State.moveReserved_plan (i : Fin 64) (n : Nat) (x : Bool) :
    (s.moveReserved i n x).plan = s.plan := by
  unfold State.moveReserved; simp

@[simp] theorem State.moveReserved_table_counts (i : Fin 64) (n : Nat) (x : Bool) :
    (s.moveReserved i n x).table.counts = s.table.counts := by
  unfold State.moveReserved; simp

@[simp] theorem State.moveReserved_table_planFrozen (i : Fin 64) (n : Nat) (x : Bool) :
    (s.moveReserved i n x).table.planFrozen = s.table.planFrozen := by
  unfold State.moveReserved; simp

@[simp] theorem State.moveReserved_profiles (i : Fin 64) (n : Nat) (x : Bool) :
    (s.moveReserved i n x).profiles = s.profiles := by
  unfold State.moveReserved; simp

@[simp] theorem State.moveReserved_pool (i : Fin 64) (n : Nat) (x : Bool) :
    (s.moveReserved i n x).pool = s.pool := by
  unfold State.moveReserved; simp

@[simp] theorem State.moveReserved_levels (i : Fin 64) (n : Nat) (x : Bool) :
    (s.moveReserved i n x).levels = s.levels := by
  unfold State.moveReserved; simp

@[simp] theorem State.moveReserved_freeCount (i : Fin 64) (n : Nat) (x : Bool) :
    (s.moveReserved i n x).freeCount = s.freeCount := by
  unfold State.moveReserved; simp


/-! ### beginMove -/

@[simp] theorem State.beginMove_pending (i : Fin 64) (n : Nat) (k : MoveKind) (o : MoveOrigin) (j : SlotId) (x : Bool) :
    (s.beginMove i n k o j x).pending = s.pending := by
  unfold State.beginMove; (try dsimp only); (repeat' split) <;> simp

@[simp] theorem State.beginMove_ports (i : Fin 64) (n : Nat) (k : MoveKind) (o : MoveOrigin) (j : SlotId) (x : Bool) :
    (s.beginMove i n k o j x).ports = s.ports := by
  unfold State.beginMove; (try dsimp only); (repeat' split) <;> simp

@[simp] theorem State.beginMove_plan (i : Fin 64) (n : Nat) (k : MoveKind) (o : MoveOrigin) (j : SlotId) (x : Bool) :
    (s.beginMove i n k o j x).plan = s.plan := by
  unfold State.beginMove; (try dsimp only); (repeat' split) <;> simp

@[simp] theorem State.beginMove_table_occupancy (i : Fin 64) (n : Nat) (k : MoveKind) (o : MoveOrigin) (j : SlotId) (x : Bool) :
    (s.beginMove i n k o j x).table.occupancy = s.table.occupancy := by
  unfold State.beginMove; (try dsimp only); (repeat' split) <;> simp

@[simp] theorem State.beginMove_table_counts (i : Fin 64) (n : Nat) (k : MoveKind) (o : MoveOrigin) (j : SlotId) (x : Bool) :
    (s.beginMove i n k o j x).table.counts = s.table.counts := by
  unfold State.beginMove; (try dsimp only); (repeat' split) <;> simp

@[simp] theorem State.beginMove_table_planFrozen (i : Fin 64) (n : Nat) (k : MoveKind) (o : MoveOrigin) (j : SlotId) (x : Bool) :
    (s.beginMove i n k o j x).table.planFrozen = s.table.planFrozen := by
  unfold State.beginMove; (try dsimp only); (repeat' split) <;> simp

@[simp] theorem State.beginMove_profiles (i : Fin 64) (n : Nat) (k : MoveKind) (o : MoveOrigin) (j : SlotId) (x : Bool) :
    (s.beginMove i n k o j x).profiles = s.profiles := by
  unfold State.beginMove; (try dsimp only); (repeat' split) <;> simp

@[simp] theorem State.beginMove_pool_startUp (i : Fin 64) (n : Nat) (k : MoveKind) (o : MoveOrigin) (j : SlotId) (x : Bool) :
    (s.beginMove i n k o j x).pool.startUp = s.pool.startUp := by
  unfold State.beginMove; (try dsimp only); (repeat' split) <;> simp

@[simp] theorem State.beginMove_levels (i : Fin 64) (n : Nat) (k : MoveKind) (o : MoveOrigin) (j : SlotId) (x : Bool) :
    (s.beginMove i n k o j x).levels = s.levels := by
  unfold State.beginMove; (try dsimp only); (repeat' split) <;> simp

@[simp] theorem State.beginMove_engine (i : Fin 64) (n : Nat) (k : MoveKind) (o : MoveOrigin) (j : SlotId) (x : Bool) :
    (s.beginMove i n k o j x).engine = s.engine := by
  unfold State.beginMove; (try dsimp only); (repeat' split) <;> simp

@[simp] theorem State.beginMove_monitor (i : Fin 64) (n : Nat) (k : MoveKind) (o : MoveOrigin) (j : SlotId) (x : Bool) :
    (s.beginMove i n k o j x).monitor = s.monitor := by
  unfold State.beginMove; (try dsimp only); (repeat' split) <;> simp

@[simp] theorem State.beginMove_freeCount (i : Fin 64) (n : Nat) (k : MoveKind) (o : MoveOrigin) (j : SlotId) (x : Bool) :
    (s.beginMove i n k o j x).freeCount = s.freeCount := by
  unfold State.beginMove; (try dsimp only); (repeat' split) <;> simp


/-! ### noteFrag -/

@[simp] theorem State.noteFrag_pending (b : Band) : (s.noteFrag b).pending = s.pending := by
  unfold State.noteFrag; simp

@[simp] theorem State.noteFrag_ports_resetHeld (b : Band) :
    (s.noteFrag b).ports.resetHeld = s.ports.resetHeld := by
  unfold State.noteFrag; simp

@[simp] theorem State.noteFrag_ports_management (b : Band) :
    (s.noteFrag b).ports.management = s.ports.management := by
  unfold State.noteFrag; simp

@[simp] theorem State.noteFrag_ports_tenant (b : Band) :
    (s.noteFrag b).ports.tenant = s.ports.tenant := by
  unfold State.noteFrag; simp

@[simp] theorem State.noteFrag_ports_priority (b : Band) :
    (s.noteFrag b).ports.priority = s.ports.priority := by
  unfold State.noteFrag; simp

@[simp] theorem State.noteFrag_ports_pointer (b : Band) :
    (s.noteFrag b).ports.pointer = s.ports.pointer := by
  unfold State.noteFrag; simp

@[simp] theorem State.noteFrag_ports_mask (b : Band) :
    (s.noteFrag b).ports.mask = s.ports.mask := by
  unfold State.noteFrag; simp

@[simp] theorem State.noteFrag_plan (b : Band) : (s.noteFrag b).plan = s.plan := by
  unfold State.noteFrag; simp

@[simp] theorem State.noteFrag_table (b : Band) : (s.noteFrag b).table = s.table := by
  unfold State.noteFrag; simp

@[simp] theorem State.noteFrag_profiles (b : Band) : (s.noteFrag b).profiles = s.profiles := by
  unfold State.noteFrag; simp

@[simp] theorem State.noteFrag_pool (b : Band) : (s.noteFrag b).pool = s.pool := by
  unfold State.noteFrag; simp

@[simp] theorem State.noteFrag_levels (b : Band) : (s.noteFrag b).levels = s.levels := by
  unfold State.noteFrag; simp

@[simp] theorem State.noteFrag_monitor (b : Band) : (s.noteFrag b).monitor = s.monitor := by
  unfold State.noteFrag; simp

@[simp] theorem State.noteFrag_freeCount (b : Band) : (s.noteFrag b).freeCount = s.freeCount := by
  unfold State.noteFrag; simp


/-! ### endRepack -/

@[simp] theorem State.endRepack_pending (r : EndReason) : (s.endRepack r).pending = s.pending := by
  unfold State.endRepack; (try dsimp only); simp

@[simp] theorem State.endRepack_ports_resetHeld (r : EndReason) :
    (s.endRepack r).ports.resetHeld = s.ports.resetHeld := by
  unfold State.endRepack; (try dsimp only); simp

@[simp] theorem State.endRepack_ports_management (r : EndReason) :
    (s.endRepack r).ports.management = s.ports.management := by
  unfold State.endRepack; (try dsimp only); simp

@[simp] theorem State.endRepack_ports_tenant (r : EndReason) :
    (s.endRepack r).ports.tenant = s.ports.tenant := by
  unfold State.endRepack; (try dsimp only); simp

@[simp] theorem State.endRepack_ports_priority (r : EndReason) :
    (s.endRepack r).ports.priority = s.ports.priority := by
  unfold State.endRepack; (try dsimp only); simp

@[simp] theorem State.endRepack_ports_pointer (r : EndReason) :
    (s.endRepack r).ports.pointer = s.ports.pointer := by
  unfold State.endRepack; (try dsimp only); simp

@[simp] theorem State.endRepack_ports_mask (r : EndReason) :
    (s.endRepack r).ports.mask = s.ports.mask := by
  unfold State.endRepack; (try dsimp only); simp

@[simp] theorem State.endRepack_plan (r : EndReason) : (s.endRepack r).plan = s.plan := by
  unfold State.endRepack; (try dsimp only); simp

@[simp] theorem State.endRepack_table (r : EndReason) : (s.endRepack r).table = s.table := by
  unfold State.endRepack; (try dsimp only); simp

@[simp] theorem State.endRepack_profiles (r : EndReason) :
    (s.endRepack r).profiles = s.profiles := by
  unfold State.endRepack; (try dsimp only); simp

@[simp] theorem State.endRepack_pool (r : EndReason) : (s.endRepack r).pool = s.pool := by
  unfold State.endRepack; (try dsimp only); simp

@[simp] theorem State.endRepack_levels (r : EndReason) : (s.endRepack r).levels = s.levels := by
  unfold State.endRepack; (try dsimp only); simp

@[simp] theorem State.endRepack_monitor (r : EndReason) : (s.endRepack r).monitor = s.monitor := by
  unfold State.endRepack; (try dsimp only); simp

@[simp] theorem State.endRepack_freeCount (r : EndReason) :
    (s.endRepack r).freeCount = s.freeCount := by
  unfold State.endRepack; (try dsimp only); simp


/-! ### countMove -/

@[simp] theorem State.countMove_pending : (s.countMove).pending = s.pending := by
  unfold State.countMove; (try dsimp only); simp

@[simp] theorem State.countMove_ports : (s.countMove).ports = s.ports := by
  unfold State.countMove; (try dsimp only); simp

@[simp] theorem State.countMove_plan : (s.countMove).plan = s.plan := by
  unfold State.countMove; (try dsimp only); simp

@[simp] theorem State.countMove_table : (s.countMove).table = s.table := by
  unfold State.countMove; (try dsimp only); simp

@[simp] theorem State.countMove_profiles : (s.countMove).profiles = s.profiles := by
  unfold State.countMove; (try dsimp only); simp

@[simp] theorem State.countMove_pool : (s.countMove).pool = s.pool := by
  unfold State.countMove; (try dsimp only); simp

@[simp] theorem State.countMove_levels : (s.countMove).levels = s.levels := by
  unfold State.countMove; (try dsimp only); simp

@[simp] theorem State.countMove_monitor : (s.countMove).monitor = s.monitor := by
  unfold State.countMove; (try dsimp only); simp

@[simp] theorem State.countMove_freeCount : (s.countMove).freeCount = s.freeCount := by
  unfold State.countMove; (try dsimp only); simp


/-! ### repackSteps -/

@[simp] theorem State.repackSteps_pending (b : Band) (n : Nat) : ∀ s :
    State, (State.repackSteps b n s).pending = s.pending := by
  induction n with
  | zero => intro s; simp [State.repackSteps]
  | succ n ih => intro s; unfold State.repackSteps; (repeat' split) <;> simp [ih]

@[simp] theorem State.repackSteps_ports_resetHeld (b : Band) (n : Nat) : ∀ s :
    State, (State.repackSteps b n s).ports.resetHeld = s.ports.resetHeld := by
  induction n with
  | zero => intro s; simp [State.repackSteps]
  | succ n ih => intro s; unfold State.repackSteps; (repeat' split) <;> simp [ih]

@[simp] theorem State.repackSteps_ports_management (b : Band) (n : Nat) : ∀ s :
    State, (State.repackSteps b n s).ports.management = s.ports.management := by
  induction n with
  | zero => intro s; simp [State.repackSteps]
  | succ n ih => intro s; unfold State.repackSteps; (repeat' split) <;> simp [ih]

@[simp] theorem State.repackSteps_ports_tenant (b : Band) (n : Nat) : ∀ s :
    State, (State.repackSteps b n s).ports.tenant = s.ports.tenant := by
  induction n with
  | zero => intro s; simp [State.repackSteps]
  | succ n ih => intro s; unfold State.repackSteps; (repeat' split) <;> simp [ih]

@[simp] theorem State.repackSteps_ports_priority (b : Band) (n : Nat) : ∀ s :
    State, (State.repackSteps b n s).ports.priority = s.ports.priority := by
  induction n with
  | zero => intro s; simp [State.repackSteps]
  | succ n ih => intro s; unfold State.repackSteps; (repeat' split) <;> simp [ih]

@[simp] theorem State.repackSteps_ports_pointer (b : Band) (n : Nat) : ∀ s :
    State, (State.repackSteps b n s).ports.pointer = s.ports.pointer := by
  induction n with
  | zero => intro s; simp [State.repackSteps]
  | succ n ih => intro s; unfold State.repackSteps; (repeat' split) <;> simp [ih]

@[simp] theorem State.repackSteps_ports_mask (b : Band) (n : Nat) : ∀ s :
    State, (State.repackSteps b n s).ports.mask = s.ports.mask := by
  induction n with
  | zero => intro s; simp [State.repackSteps]
  | succ n ih => intro s; unfold State.repackSteps; (repeat' split) <;> simp [ih]

@[simp] theorem State.repackSteps_plan (b : Band) (n : Nat) : ∀ s :
    State, (State.repackSteps b n s).plan = s.plan := by
  induction n with
  | zero => intro s; simp [State.repackSteps]
  | succ n ih => intro s; unfold State.repackSteps; (repeat' split) <;> simp [ih]

@[simp] theorem State.repackSteps_table_counts (b : Band) (n : Nat) : ∀ s :
    State, (State.repackSteps b n s).table.counts = s.table.counts := by
  induction n with
  | zero => intro s; simp [State.repackSteps]
  | succ n ih => intro s; unfold State.repackSteps; (repeat' split) <;> simp [ih]

@[simp] theorem State.repackSteps_table_planFrozen (b : Band) (n : Nat) : ∀ s :
    State, (State.repackSteps b n s).table.planFrozen = s.table.planFrozen := by
  induction n with
  | zero => intro s; simp [State.repackSteps]
  | succ n ih => intro s; unfold State.repackSteps; (repeat' split) <;> simp [ih]

@[simp] theorem State.repackSteps_profiles (b : Band) (n : Nat) : ∀ s :
    State, (State.repackSteps b n s).profiles = s.profiles := by
  induction n with
  | zero => intro s; simp [State.repackSteps]
  | succ n ih => intro s; unfold State.repackSteps; (repeat' split) <;> simp [ih]

@[simp] theorem State.repackSteps_pool_startUp (b : Band) (n : Nat) : ∀ s :
    State, (State.repackSteps b n s).pool.startUp = s.pool.startUp := by
  induction n with
  | zero => intro s; simp [State.repackSteps]
  | succ n ih => intro s; unfold State.repackSteps; (repeat' split) <;> simp [ih]

@[simp] theorem State.repackSteps_levels (b : Band) (n : Nat) : ∀ s :
    State, (State.repackSteps b n s).levels = s.levels := by
  induction n with
  | zero => intro s; simp [State.repackSteps]
  | succ n ih => intro s; unfold State.repackSteps; (repeat' split) <;> simp [ih]

@[simp] theorem State.repackSteps_freeCount (b : Band) (n : Nat) : ∀ s :
    State, (State.repackSteps b n s).freeCount = s.freeCount := by
  induction n with
  | zero => intro s; simp [State.repackSteps]
  | succ n ih => intro s; unfold State.repackSteps; (repeat' split) <;> simp [ih]


/-! ### continueRepack -/

@[simp] theorem State.continueRepack_pending : (s.continueRepack).pending = s.pending := by
  unfold State.continueRepack; (repeat' split) <;> simp

@[simp] theorem State.continueRepack_ports_resetHeld :
    (s.continueRepack).ports.resetHeld = s.ports.resetHeld := by
  unfold State.continueRepack; (repeat' split) <;> simp

@[simp] theorem State.continueRepack_ports_management :
    (s.continueRepack).ports.management = s.ports.management := by
  unfold State.continueRepack; (repeat' split) <;> simp

@[simp] theorem State.continueRepack_ports_tenant :
    (s.continueRepack).ports.tenant = s.ports.tenant := by
  unfold State.continueRepack; (repeat' split) <;> simp

@[simp] theorem State.continueRepack_ports_priority :
    (s.continueRepack).ports.priority = s.ports.priority := by
  unfold State.continueRepack; (repeat' split) <;> simp

@[simp] theorem State.continueRepack_ports_pointer :
    (s.continueRepack).ports.pointer = s.ports.pointer := by
  unfold State.continueRepack; (repeat' split) <;> simp

@[simp] theorem State.continueRepack_ports_mask : (s.continueRepack).ports.mask = s.ports.mask := by
  unfold State.continueRepack; (repeat' split) <;> simp

@[simp] theorem State.continueRepack_plan : (s.continueRepack).plan = s.plan := by
  unfold State.continueRepack; (repeat' split) <;> simp

@[simp] theorem State.continueRepack_table_counts :
    (s.continueRepack).table.counts = s.table.counts := by
  unfold State.continueRepack; (repeat' split) <;> simp

@[simp] theorem State.continueRepack_table_planFrozen :
    (s.continueRepack).table.planFrozen = s.table.planFrozen := by
  unfold State.continueRepack; (repeat' split) <;> simp

@[simp] theorem State.continueRepack_profiles : (s.continueRepack).profiles = s.profiles := by
  unfold State.continueRepack; (repeat' split) <;> simp

@[simp] theorem State.continueRepack_pool_startUp :
    (s.continueRepack).pool.startUp = s.pool.startUp := by
  unfold State.continueRepack; (repeat' split) <;> simp

@[simp] theorem State.continueRepack_levels : (s.continueRepack).levels = s.levels := by
  unfold State.continueRepack; (repeat' split) <;> simp

@[simp] theorem State.continueRepack_freeCount : (s.continueRepack).freeCount = s.freeCount := by
  unfold State.continueRepack; (repeat' split) <;> simp


/-! ### startRepack -/

@[simp] theorem State.startRepack_pending (b : Band) : (s.startRepack b).pending = s.pending := by
  unfold State.startRepack; (try dsimp only); simp

@[simp] theorem State.startRepack_ports_resetHeld (b : Band) :
    (s.startRepack b).ports.resetHeld = s.ports.resetHeld := by
  unfold State.startRepack; (try dsimp only); simp

@[simp] theorem State.startRepack_ports_management (b : Band) :
    (s.startRepack b).ports.management = s.ports.management := by
  unfold State.startRepack; (try dsimp only); simp

@[simp] theorem State.startRepack_ports_tenant (b : Band) :
    (s.startRepack b).ports.tenant = s.ports.tenant := by
  unfold State.startRepack; (try dsimp only); simp

@[simp] theorem State.startRepack_ports_priority (b : Band) :
    (s.startRepack b).ports.priority = s.ports.priority := by
  unfold State.startRepack; (try dsimp only); simp

@[simp] theorem State.startRepack_ports_pointer (b : Band) :
    (s.startRepack b).ports.pointer = s.ports.pointer := by
  unfold State.startRepack; (try dsimp only); simp

@[simp] theorem State.startRepack_ports_mask (b : Band) :
    (s.startRepack b).ports.mask = s.ports.mask := by
  unfold State.startRepack; (try dsimp only); simp

@[simp] theorem State.startRepack_plan (b : Band) : (s.startRepack b).plan = s.plan := by
  unfold State.startRepack; (try dsimp only); simp

@[simp] theorem State.startRepack_table_counts (b : Band) :
    (s.startRepack b).table.counts = s.table.counts := by
  unfold State.startRepack; (try dsimp only); simp

@[simp] theorem State.startRepack_table_planFrozen (b : Band) :
    (s.startRepack b).table.planFrozen = s.table.planFrozen := by
  unfold State.startRepack; (try dsimp only); simp

@[simp] theorem State.startRepack_profiles (b : Band) :
    (s.startRepack b).profiles = s.profiles := by
  unfold State.startRepack; (try dsimp only); simp

@[simp] theorem State.startRepack_pool_startUp (b : Band) :
    (s.startRepack b).pool.startUp = s.pool.startUp := by
  unfold State.startRepack; (try dsimp only); simp

@[simp] theorem State.startRepack_levels (b : Band) : (s.startRepack b).levels = s.levels := by
  unfold State.startRepack; (try dsimp only); simp

@[simp] theorem State.startRepack_freeCount (b : Band) :
    (s.startRepack b).freeCount = s.freeCount := by
  unfold State.startRepack; (try dsimp only); simp


/-! ### refreshFrag -/

@[simp] theorem State.refreshFrag_pending (b : Band) : (s.refreshFrag b).pending = s.pending := by
  unfold State.refreshFrag; (try dsimp only); (repeat' split) <;> simp

@[simp] theorem State.refreshFrag_ports_resetHeld (b : Band) :
    (s.refreshFrag b).ports.resetHeld = s.ports.resetHeld := by
  unfold State.refreshFrag; (try dsimp only); (repeat' split) <;> simp

@[simp] theorem State.refreshFrag_ports_management (b : Band) :
    (s.refreshFrag b).ports.management = s.ports.management := by
  unfold State.refreshFrag; (try dsimp only); (repeat' split) <;> simp

@[simp] theorem State.refreshFrag_ports_tenant (b : Band) :
    (s.refreshFrag b).ports.tenant = s.ports.tenant := by
  unfold State.refreshFrag; (try dsimp only); (repeat' split) <;> simp

@[simp] theorem State.refreshFrag_ports_priority (b : Band) :
    (s.refreshFrag b).ports.priority = s.ports.priority := by
  unfold State.refreshFrag; (try dsimp only); (repeat' split) <;> simp

@[simp] theorem State.refreshFrag_ports_pointer (b : Band) :
    (s.refreshFrag b).ports.pointer = s.ports.pointer := by
  unfold State.refreshFrag; (try dsimp only); (repeat' split) <;> simp

@[simp] theorem State.refreshFrag_ports_mask (b : Band) :
    (s.refreshFrag b).ports.mask = s.ports.mask := by
  unfold State.refreshFrag; (try dsimp only); (repeat' split) <;> simp

@[simp] theorem State.refreshFrag_plan (b : Band) : (s.refreshFrag b).plan = s.plan := by
  unfold State.refreshFrag; (try dsimp only); (repeat' split) <;> simp

@[simp] theorem State.refreshFrag_table_counts (b : Band) :
    (s.refreshFrag b).table.counts = s.table.counts := by
  unfold State.refreshFrag; (try dsimp only); (repeat' split) <;> simp

@[simp] theorem State.refreshFrag_table_planFrozen (b : Band) :
    (s.refreshFrag b).table.planFrozen = s.table.planFrozen := by
  unfold State.refreshFrag; (try dsimp only); (repeat' split) <;> simp

@[simp] theorem State.refreshFrag_profiles (b : Band) :
    (s.refreshFrag b).profiles = s.profiles := by
  unfold State.refreshFrag; (try dsimp only); (repeat' split) <;> simp

@[simp] theorem State.refreshFrag_pool_startUp (b : Band) :
    (s.refreshFrag b).pool.startUp = s.pool.startUp := by
  unfold State.refreshFrag; (try dsimp only); (repeat' split) <;> simp

@[simp] theorem State.refreshFrag_levels (b : Band) : (s.refreshFrag b).levels = s.levels := by
  unfold State.refreshFrag; (try dsimp only); (repeat' split) <;> simp

@[simp] theorem State.refreshFrag_freeCount (b : Band) :
    (s.refreshFrag b).freeCount = s.freeCount := by
  unfold State.refreshFrag; (try dsimp only); (repeat' split) <;> simp


/-! ### repackAfter -/

@[simp] theorem State.repackAfter_pending (o : MoveOrigin) (e : MoveEnd) :
    (s.repackAfter o e).pending = s.pending := by
  unfold State.repackAfter; (repeat' split) <;> simp

@[simp] theorem State.repackAfter_ports_resetHeld (o : MoveOrigin) (e : MoveEnd) :
    (s.repackAfter o e).ports.resetHeld = s.ports.resetHeld := by
  unfold State.repackAfter; (repeat' split) <;> simp

@[simp] theorem State.repackAfter_ports_management (o : MoveOrigin) (e : MoveEnd) :
    (s.repackAfter o e).ports.management = s.ports.management := by
  unfold State.repackAfter; (repeat' split) <;> simp

@[simp] theorem State.repackAfter_ports_tenant (o : MoveOrigin) (e : MoveEnd) :
    (s.repackAfter o e).ports.tenant = s.ports.tenant := by
  unfold State.repackAfter; (repeat' split) <;> simp

@[simp] theorem State.repackAfter_ports_priority (o : MoveOrigin) (e : MoveEnd) :
    (s.repackAfter o e).ports.priority = s.ports.priority := by
  unfold State.repackAfter; (repeat' split) <;> simp

@[simp] theorem State.repackAfter_ports_pointer (o : MoveOrigin) (e : MoveEnd) :
    (s.repackAfter o e).ports.pointer = s.ports.pointer := by
  unfold State.repackAfter; (repeat' split) <;> simp

@[simp] theorem State.repackAfter_ports_mask (o : MoveOrigin) (e : MoveEnd) :
    (s.repackAfter o e).ports.mask = s.ports.mask := by
  unfold State.repackAfter; (repeat' split) <;> simp

@[simp] theorem State.repackAfter_plan (o : MoveOrigin) (e : MoveEnd) :
    (s.repackAfter o e).plan = s.plan := by
  unfold State.repackAfter; (repeat' split) <;> simp

@[simp] theorem State.repackAfter_table_counts (o : MoveOrigin) (e : MoveEnd) :
    (s.repackAfter o e).table.counts = s.table.counts := by
  unfold State.repackAfter; (repeat' split) <;> simp

@[simp] theorem State.repackAfter_table_planFrozen (o : MoveOrigin) (e : MoveEnd) :
    (s.repackAfter o e).table.planFrozen = s.table.planFrozen := by
  unfold State.repackAfter; (repeat' split) <;> simp

@[simp] theorem State.repackAfter_profiles (o : MoveOrigin) (e : MoveEnd) :
    (s.repackAfter o e).profiles = s.profiles := by
  unfold State.repackAfter; (repeat' split) <;> simp

@[simp] theorem State.repackAfter_pool_startUp (o : MoveOrigin) (e : MoveEnd) :
    (s.repackAfter o e).pool.startUp = s.pool.startUp := by
  unfold State.repackAfter; (repeat' split) <;> simp

@[simp] theorem State.repackAfter_levels (o : MoveOrigin) (e : MoveEnd) :
    (s.repackAfter o e).levels = s.levels := by
  unfold State.repackAfter; (repeat' split) <;> simp

@[simp] theorem State.repackAfter_freeCount (o : MoveOrigin) (e : MoveEnd) :
    (s.repackAfter o e).freeCount = s.freeCount := by
  unfold State.repackAfter; (repeat' split) <;> simp


/-! ### fallBack -/

@[simp] theorem State.fallBack_pending (i : Fin 64) : (s.fallBack i).pending = s.pending := by
  unfold State.fallBack; simp

@[simp] theorem State.fallBack_ports (i : Fin 64) : (s.fallBack i).ports = s.ports := by
  unfold State.fallBack; simp

@[simp] theorem State.fallBack_plan (i : Fin 64) : (s.fallBack i).plan = s.plan := by
  unfold State.fallBack; simp

@[simp] theorem State.fallBack_table_occupancy (i : Fin 64) :
    (s.fallBack i).table.occupancy = s.table.occupancy := by
  unfold State.fallBack; simp

@[simp] theorem State.fallBack_table_counts (i : Fin 64) :
    (s.fallBack i).table.counts = s.table.counts := by
  unfold State.fallBack; simp

@[simp] theorem State.fallBack_table_planFrozen (i : Fin 64) :
    (s.fallBack i).table.planFrozen = s.table.planFrozen := by
  unfold State.fallBack; simp

@[simp] theorem State.fallBack_profiles (i : Fin 64) : (s.fallBack i).profiles = s.profiles := by
  unfold State.fallBack; simp

@[simp] theorem State.fallBack_pool_slots (i : Fin 64) :
    (s.fallBack i).pool.slots = s.pool.slots := by
  unfold State.fallBack; simp

@[simp] theorem State.fallBack_pool_startUp (i : Fin 64) :
    (s.fallBack i).pool.startUp = s.pool.startUp := by
  unfold State.fallBack; simp

@[simp] theorem State.fallBack_engine (i : Fin 64) : (s.fallBack i).engine = s.engine := by
  unfold State.fallBack; simp

@[simp] theorem State.fallBack_monitor (i : Fin 64) : (s.fallBack i).monitor = s.monitor := by
  unfold State.fallBack; simp

@[simp] theorem State.fallBack_freeCount (i : Fin 64) : (s.fallBack i).freeCount = s.freeCount := by
  unfold State.fallBack; simp


/-! ### abandonMove -/

@[simp] theorem State.abandonMove_pending (i : Fin 64) : (s.abandonMove i).pending = s.pending := by
  unfold State.abandonMove; (try dsimp only); (repeat' split) <;> simp

@[simp] theorem State.abandonMove_ports_resetHeld (i : Fin 64) :
    (s.abandonMove i).ports.resetHeld = s.ports.resetHeld := by
  unfold State.abandonMove; (try dsimp only); (repeat' split) <;> simp

@[simp] theorem State.abandonMove_ports_management (i : Fin 64) :
    (s.abandonMove i).ports.management = s.ports.management := by
  unfold State.abandonMove; (try dsimp only); (repeat' split) <;> simp

@[simp] theorem State.abandonMove_ports_tenant (i : Fin 64) :
    (s.abandonMove i).ports.tenant = s.ports.tenant := by
  unfold State.abandonMove; (try dsimp only); (repeat' split) <;> simp

@[simp] theorem State.abandonMove_ports_priority (i : Fin 64) :
    (s.abandonMove i).ports.priority = s.ports.priority := by
  unfold State.abandonMove; (try dsimp only); (repeat' split) <;> simp

@[simp] theorem State.abandonMove_ports_pointer (i : Fin 64) :
    (s.abandonMove i).ports.pointer = s.ports.pointer := by
  unfold State.abandonMove; (try dsimp only); (repeat' split) <;> simp

@[simp] theorem State.abandonMove_ports_mask (i : Fin 64) :
    (s.abandonMove i).ports.mask = s.ports.mask := by
  unfold State.abandonMove; (try dsimp only); (repeat' split) <;> simp

@[simp] theorem State.abandonMove_plan (i : Fin 64) : (s.abandonMove i).plan = s.plan := by
  unfold State.abandonMove; (try dsimp only); (repeat' split) <;> simp

@[simp] theorem State.abandonMove_table_occupancy (i : Fin 64) :
    (s.abandonMove i).table.occupancy = s.table.occupancy := by
  unfold State.abandonMove; (try dsimp only); (repeat' split) <;> simp

@[simp] theorem State.abandonMove_table_counts (i : Fin 64) :
    (s.abandonMove i).table.counts = s.table.counts := by
  unfold State.abandonMove; (try dsimp only); (repeat' split) <;> simp

@[simp] theorem State.abandonMove_table_planFrozen (i : Fin 64) :
    (s.abandonMove i).table.planFrozen = s.table.planFrozen := by
  unfold State.abandonMove; (try dsimp only); (repeat' split) <;> simp

@[simp] theorem State.abandonMove_profiles (i : Fin 64) :
    (s.abandonMove i).profiles = s.profiles := by
  unfold State.abandonMove; (try dsimp only); (repeat' split) <;> simp

@[simp] theorem State.abandonMove_pool_startUp (i : Fin 64) :
    (s.abandonMove i).pool.startUp = s.pool.startUp := by
  unfold State.abandonMove; (try dsimp only); (repeat' split) <;> simp

@[simp] theorem State.abandonMove_monitor (i : Fin 64) : (s.abandonMove i).monitor = s.monitor := by
  unfold State.abandonMove; (try dsimp only); (repeat' split) <;> simp

@[simp] theorem State.abandonMove_freeCount (i : Fin 64) :
    (s.abandonMove i).freeCount = s.freeCount := by
  unfold State.abandonMove; (try dsimp only); (repeat' split) <;> simp


/-! ### stopRepack -/

@[simp] theorem State.stopRepack_pending : (s.stopRepack).pending = s.pending := by
  unfold State.stopRepack; (try dsimp only); (repeat' split) <;> simp

@[simp] theorem State.stopRepack_ports_resetHeld :
    (s.stopRepack).ports.resetHeld = s.ports.resetHeld := by
  unfold State.stopRepack; (try dsimp only); (repeat' split) <;> simp

@[simp] theorem State.stopRepack_ports_management :
    (s.stopRepack).ports.management = s.ports.management := by
  unfold State.stopRepack; (try dsimp only); (repeat' split) <;> simp

@[simp] theorem State.stopRepack_ports_tenant : (s.stopRepack).ports.tenant = s.ports.tenant := by
  unfold State.stopRepack; (try dsimp only); (repeat' split) <;> simp

@[simp] theorem State.stopRepack_ports_priority :
    (s.stopRepack).ports.priority = s.ports.priority := by
  unfold State.stopRepack; (try dsimp only); (repeat' split) <;> simp

@[simp] theorem State.stopRepack_ports_pointer :
    (s.stopRepack).ports.pointer = s.ports.pointer := by
  unfold State.stopRepack; (try dsimp only); (repeat' split) <;> simp

@[simp] theorem State.stopRepack_ports_mask : (s.stopRepack).ports.mask = s.ports.mask := by
  unfold State.stopRepack; (try dsimp only); (repeat' split) <;> simp

@[simp] theorem State.stopRepack_plan : (s.stopRepack).plan = s.plan := by
  unfold State.stopRepack; (try dsimp only); (repeat' split) <;> simp

@[simp] theorem State.stopRepack_table_occupancy :
    (s.stopRepack).table.occupancy = s.table.occupancy := by
  unfold State.stopRepack; (try dsimp only); (repeat' split) <;> simp

@[simp] theorem State.stopRepack_table_counts : (s.stopRepack).table.counts = s.table.counts := by
  unfold State.stopRepack; (try dsimp only); (repeat' split) <;> simp

@[simp] theorem State.stopRepack_table_planFrozen :
    (s.stopRepack).table.planFrozen = s.table.planFrozen := by
  unfold State.stopRepack; (try dsimp only); (repeat' split) <;> simp

@[simp] theorem State.stopRepack_profiles : (s.stopRepack).profiles = s.profiles := by
  unfold State.stopRepack; (try dsimp only); (repeat' split) <;> simp

@[simp] theorem State.stopRepack_pool_startUp : (s.stopRepack).pool.startUp = s.pool.startUp := by
  unfold State.stopRepack; (try dsimp only); (repeat' split) <;> simp

@[simp] theorem State.stopRepack_monitor : (s.stopRepack).monitor = s.monitor := by
  unfold State.stopRepack; (try dsimp only); (repeat' split) <;> simp

@[simp] theorem State.stopRepack_freeCount : (s.stopRepack).freeCount = s.freeCount := by
  unfold State.stopRepack; (try dsimp only); (repeat' split) <;> simp


/-! ### enterQuiet -/

@[simp] theorem State.enterQuiet_pending (i : Fin 64) : (s.enterQuiet i).pending = s.pending := by
  unfold State.enterQuiet; (try dsimp only); (repeat' split) <;> simp

@[simp] theorem State.enterQuiet_ports (i : Fin 64) : (s.enterQuiet i).ports = s.ports := by
  unfold State.enterQuiet; (try dsimp only); (repeat' split) <;> simp

@[simp] theorem State.enterQuiet_plan (i : Fin 64) : (s.enterQuiet i).plan = s.plan := by
  unfold State.enterQuiet; (try dsimp only); (repeat' split) <;> simp

@[simp] theorem State.enterQuiet_table_planFrozen (i : Fin 64) :
    (s.enterQuiet i).table.planFrozen = s.table.planFrozen := by
  unfold State.enterQuiet; (try dsimp only); (repeat' split) <;> simp

@[simp] theorem State.enterQuiet_pool (i : Fin 64) : (s.enterQuiet i).pool = s.pool := by
  unfold State.enterQuiet; (try dsimp only); (repeat' split) <;> simp

@[simp] theorem State.enterQuiet_levels (i : Fin 64) : (s.enterQuiet i).levels = s.levels := by
  unfold State.enterQuiet; (try dsimp only); (repeat' split) <;> simp

@[simp] theorem State.enterQuiet_engine (i : Fin 64) : (s.enterQuiet i).engine = s.engine := by
  unfold State.enterQuiet; (try dsimp only); (repeat' split) <;> simp

@[simp] theorem State.enterQuiet_freeCount (i : Fin 64) :
    (s.enterQuiet i).freeCount = s.freeCount := by
  unfold State.enterQuiet; (try dsimp only); (repeat' split) <;> simp


/-! ### enterDraining -/

@[simp] theorem State.enterDraining_pending (i : Fin 64) (p : Option SlotId) (c : Cls) :
    (s.enterDraining i p c).pending = s.pending := by
  unfold State.enterDraining; (try dsimp only); (repeat' split) <;> simp

@[simp] theorem State.enterDraining_ports (i : Fin 64) (p : Option SlotId) (c : Cls) :
    (s.enterDraining i p c).ports = s.ports := by
  unfold State.enterDraining; (try dsimp only); (repeat' split) <;> simp

@[simp] theorem State.enterDraining_plan (i : Fin 64) (p : Option SlotId) (c : Cls) :
    (s.enterDraining i p c).plan = s.plan := by
  unfold State.enterDraining; (try dsimp only); (repeat' split) <;> simp

@[simp] theorem State.enterDraining_table_occupancy (i : Fin 64) (p : Option SlotId) (c : Cls) :
    (s.enterDraining i p c).table.occupancy = s.table.occupancy := by
  unfold State.enterDraining; (try dsimp only); (repeat' split) <;> simp

@[simp] theorem State.enterDraining_table_counts (i : Fin 64) (p : Option SlotId) (c : Cls) :
    (s.enterDraining i p c).table.counts = s.table.counts := by
  unfold State.enterDraining; (try dsimp only); (repeat' split) <;> simp

@[simp] theorem State.enterDraining_table_planFrozen (i : Fin 64) (p : Option SlotId) (c : Cls) :
    (s.enterDraining i p c).table.planFrozen = s.table.planFrozen := by
  unfold State.enterDraining; (try dsimp only); (repeat' split) <;> simp

@[simp] theorem State.enterDraining_profiles (i : Fin 64) (p : Option SlotId) (c : Cls) :
    (s.enterDraining i p c).profiles = s.profiles := by
  unfold State.enterDraining; (try dsimp only); (repeat' split) <;> simp

@[simp] theorem State.enterDraining_pool_startUp (i : Fin 64) (p : Option SlotId) (c : Cls) :
    (s.enterDraining i p c).pool.startUp = s.pool.startUp := by
  unfold State.enterDraining; (try dsimp only); (repeat' split) <;> simp

@[simp] theorem State.enterDraining_levels (i : Fin 64) (p : Option SlotId) (c : Cls) :
    (s.enterDraining i p c).levels = s.levels := by
  unfold State.enterDraining; (try dsimp only); (repeat' split) <;> simp

@[simp] theorem State.enterDraining_engine (i : Fin 64) (p : Option SlotId) (c : Cls) :
    (s.enterDraining i p c).engine = s.engine := by
  unfold State.enterDraining; (try dsimp only); (repeat' split) <;> simp

@[simp] theorem State.enterDraining_monitor (i : Fin 64) (p : Option SlotId) (c : Cls) :
    (s.enterDraining i p c).monitor = s.monitor := by
  unfold State.enterDraining; (try dsimp only); (repeat' split) <;> simp

@[simp] theorem State.enterDraining_freeCount (i : Fin 64) (p : Option SlotId) (c : Cls) :
    (s.enterDraining i p c).freeCount = s.freeCount := by
  unfold State.enterDraining; (try dsimp only); (repeat' split) <;> simp


/-! ### takeOffAir -/

@[simp] theorem State.takeOffAir_pending (i : Fin 64) (p : Option SlotId) (c : Cls) (x : Bool) :
    (s.takeOffAir i p c x).pending = s.pending := by
  unfold State.takeOffAir; (repeat' split) <;> simp

@[simp] theorem State.takeOffAir_ports (i : Fin 64) (p : Option SlotId) (c : Cls) (x : Bool) :
    (s.takeOffAir i p c x).ports = s.ports := by
  unfold State.takeOffAir; (repeat' split) <;> simp

@[simp] theorem State.takeOffAir_plan (i : Fin 64) (p : Option SlotId) (c : Cls) (x : Bool) :
    (s.takeOffAir i p c x).plan = s.plan := by
  unfold State.takeOffAir; (repeat' split) <;> simp

@[simp] theorem State.takeOffAir_table_planFrozen (i : Fin 64) (p : Option SlotId) (c : Cls) (x : Bool) :
    (s.takeOffAir i p c x).table.planFrozen = s.table.planFrozen := by
  unfold State.takeOffAir; (repeat' split) <;> simp

@[simp] theorem State.takeOffAir_pool_startUp (i : Fin 64) (p : Option SlotId) (c : Cls) (x : Bool) :
    (s.takeOffAir i p c x).pool.startUp = s.pool.startUp := by
  unfold State.takeOffAir; (repeat' split) <;> simp

@[simp] theorem State.takeOffAir_levels (i : Fin 64) (p : Option SlotId) (c : Cls) (x : Bool) :
    (s.takeOffAir i p c x).levels = s.levels := by
  unfold State.takeOffAir; (repeat' split) <;> simp

@[simp] theorem State.takeOffAir_engine (i : Fin 64) (p : Option SlotId) (c : Cls) (x : Bool) :
    (s.takeOffAir i p c x).engine = s.engine := by
  unfold State.takeOffAir; (repeat' split) <;> simp

@[simp] theorem State.takeOffAir_freeCount (i : Fin 64) (p : Option SlotId) (c : Cls) (x : Bool) :
    (s.takeOffAir i p c x).freeCount = s.freeCount := by
  unfold State.takeOffAir; (repeat' split) <;> simp


/-! ### leaveSeamless -/

@[simp] theorem State.leaveSeamless_pending (i : Fin 64) (p : Option SlotId) :
    (s.leaveSeamless i p).pending = s.pending := by
  unfold State.leaveSeamless; simp

@[simp] theorem State.leaveSeamless_ports (i : Fin 64) (p : Option SlotId) :
    (s.leaveSeamless i p).ports = s.ports := by
  unfold State.leaveSeamless; simp

@[simp] theorem State.leaveSeamless_plan (i : Fin 64) (p : Option SlotId) :
    (s.leaveSeamless i p).plan = s.plan := by
  unfold State.leaveSeamless; simp

@[simp] theorem State.leaveSeamless_table_occupancy (i : Fin 64) (p : Option SlotId) :
    (s.leaveSeamless i p).table.occupancy = s.table.occupancy := by
  unfold State.leaveSeamless; simp

@[simp] theorem State.leaveSeamless_table_counts (i : Fin 64) (p : Option SlotId) :
    (s.leaveSeamless i p).table.counts = s.table.counts := by
  unfold State.leaveSeamless; simp

@[simp] theorem State.leaveSeamless_table_planFrozen (i : Fin 64) (p : Option SlotId) :
    (s.leaveSeamless i p).table.planFrozen = s.table.planFrozen := by
  unfold State.leaveSeamless; simp

@[simp] theorem State.leaveSeamless_profiles (i : Fin 64) (p : Option SlotId) :
    (s.leaveSeamless i p).profiles = s.profiles := by
  unfold State.leaveSeamless; simp

@[simp] theorem State.leaveSeamless_pool_startUp (i : Fin 64) (p : Option SlotId) :
    (s.leaveSeamless i p).pool.startUp = s.pool.startUp := by
  unfold State.leaveSeamless; simp

@[simp] theorem State.leaveSeamless_levels (i : Fin 64) (p : Option SlotId) :
    (s.leaveSeamless i p).levels = s.levels := by
  unfold State.leaveSeamless; simp

@[simp] theorem State.leaveSeamless_engine (i : Fin 64) (p : Option SlotId) :
    (s.leaveSeamless i p).engine = s.engine := by
  unfold State.leaveSeamless; simp

@[simp] theorem State.leaveSeamless_monitor (i : Fin 64) (p : Option SlotId) :
    (s.leaveSeamless i p).monitor = s.monitor := by
  unfold State.leaveSeamless; simp

@[simp] theorem State.leaveSeamless_freeCount (i : Fin 64) (p : Option SlotId) :
    (s.leaveSeamless i p).freeCount = s.freeCount := by
  unfold State.leaveSeamless; simp


/-! ### giveUp -/

@[simp] theorem State.giveUp_pending (i : Fin 64) (g : Grant) (x : Bool) :
    (s.giveUp i g x).pending = s.pending := by
  unfold State.giveUp; (repeat' split) <;> simp

@[simp] theorem State.giveUp_ports (i : Fin 64) (g : Grant) (x : Bool) :
    (s.giveUp i g x).ports = s.ports := by
  unfold State.giveUp; (repeat' split) <;> simp

@[simp] theorem State.giveUp_plan (i : Fin 64) (g : Grant) (x : Bool) :
    (s.giveUp i g x).plan = s.plan := by
  unfold State.giveUp; (repeat' split) <;> simp

@[simp] theorem State.giveUp_table_planFrozen (i : Fin 64) (g : Grant) (x : Bool) :
    (s.giveUp i g x).table.planFrozen = s.table.planFrozen := by
  unfold State.giveUp; (repeat' split) <;> simp

@[simp] theorem State.giveUp_pool_startUp (i : Fin 64) (g : Grant) (x : Bool) :
    (s.giveUp i g x).pool.startUp = s.pool.startUp := by
  unfold State.giveUp; (repeat' split) <;> simp

@[simp] theorem State.giveUp_levels (i : Fin 64) (g : Grant) (x : Bool) :
    (s.giveUp i g x).levels = s.levels := by
  unfold State.giveUp; (repeat' split) <;> simp

@[simp] theorem State.giveUp_engine (i : Fin 64) (g : Grant) (x : Bool) :
    (s.giveUp i g x).engine = s.engine := by
  unfold State.giveUp; (repeat' split) <;> simp

@[simp] theorem State.giveUp_freeCount (i : Fin 64) (g : Grant) (x : Bool) :
    (s.giveUp i g x).freeCount = s.freeCount := by
  unfold State.giveUp; (repeat' split) <;> simp


/-! ### endGrant -/

@[simp] theorem State.endGrant_pending (i : Fin 64) (o : LastOutcome) (x y : Bool) :
    (s.endGrant i o x y).pending = s.pending := by
  unfold State.endGrant; (try dsimp only); (repeat' split) <;> simp

@[simp] theorem State.endGrant_ports_resetHeld (i : Fin 64) (o : LastOutcome) (x y : Bool) :
    (s.endGrant i o x y).ports.resetHeld = s.ports.resetHeld := by
  unfold State.endGrant; (try dsimp only); (repeat' split) <;> simp

@[simp] theorem State.endGrant_ports_management (i : Fin 64) (o : LastOutcome) (x y : Bool) :
    (s.endGrant i o x y).ports.management = s.ports.management := by
  unfold State.endGrant; (try dsimp only); (repeat' split) <;> simp

@[simp] theorem State.endGrant_ports_tenant (i : Fin 64) (o : LastOutcome) (x y : Bool) :
    (s.endGrant i o x y).ports.tenant = s.ports.tenant := by
  unfold State.endGrant; (try dsimp only); (repeat' split) <;> simp

@[simp] theorem State.endGrant_ports_priority (i : Fin 64) (o : LastOutcome) (x y : Bool) :
    (s.endGrant i o x y).ports.priority = s.ports.priority := by
  unfold State.endGrant; (try dsimp only); (repeat' split) <;> simp

@[simp] theorem State.endGrant_ports_pointer (i : Fin 64) (o : LastOutcome) (x y : Bool) :
    (s.endGrant i o x y).ports.pointer = s.ports.pointer := by
  unfold State.endGrant; (try dsimp only); (repeat' split) <;> simp

@[simp] theorem State.endGrant_ports_mask (i : Fin 64) (o : LastOutcome) (x y : Bool) :
    (s.endGrant i o x y).ports.mask = s.ports.mask := by
  unfold State.endGrant; (try dsimp only); (repeat' split) <;> simp

@[simp] theorem State.endGrant_plan (i : Fin 64) (o : LastOutcome) (x y : Bool) :
    (s.endGrant i o x y).plan = s.plan := by
  unfold State.endGrant; (try dsimp only); (repeat' split) <;> simp

@[simp] theorem State.endGrant_table_planFrozen (i : Fin 64) (o : LastOutcome) (x y : Bool) :
    (s.endGrant i o x y).table.planFrozen = s.table.planFrozen := by
  unfold State.endGrant; (try dsimp only); (repeat' split) <;> simp

@[simp] theorem State.endGrant_pool_startUp (i : Fin 64) (o : LastOutcome) (x y : Bool) :
    (s.endGrant i o x y).pool.startUp = s.pool.startUp := by
  unfold State.endGrant; (try dsimp only); (repeat' split) <;> simp

@[simp] theorem State.endGrant_freeCount (i : Fin 64) (o : LastOutcome) (x y : Bool) :
    (s.endGrant i o x y).freeCount = s.freeCount := by
  unfold State.endGrant; (try dsimp only); (repeat' split) <;> simp


/-! ### endDrain -/

@[simp] theorem State.endDrain_pending (i : Fin 64) (g : Grant) :
    (s.endDrain i g).pending = s.pending := by
  unfold State.endDrain; (try dsimp only); (repeat' split) <;> simp

@[simp] theorem State.endDrain_ports_resetHeld (i : Fin 64) (g : Grant) :
    (s.endDrain i g).ports.resetHeld = s.ports.resetHeld := by
  unfold State.endDrain; (try dsimp only); (repeat' split) <;> simp

@[simp] theorem State.endDrain_ports_management (i : Fin 64) (g : Grant) :
    (s.endDrain i g).ports.management = s.ports.management := by
  unfold State.endDrain; (try dsimp only); (repeat' split) <;> simp

@[simp] theorem State.endDrain_ports_tenant (i : Fin 64) (g : Grant) :
    (s.endDrain i g).ports.tenant = s.ports.tenant := by
  unfold State.endDrain; (try dsimp only); (repeat' split) <;> simp

@[simp] theorem State.endDrain_ports_priority (i : Fin 64) (g : Grant) :
    (s.endDrain i g).ports.priority = s.ports.priority := by
  unfold State.endDrain; (try dsimp only); (repeat' split) <;> simp

@[simp] theorem State.endDrain_ports_pointer (i : Fin 64) (g : Grant) :
    (s.endDrain i g).ports.pointer = s.ports.pointer := by
  unfold State.endDrain; (try dsimp only); (repeat' split) <;> simp

@[simp] theorem State.endDrain_ports_mask (i : Fin 64) (g : Grant) :
    (s.endDrain i g).ports.mask = s.ports.mask := by
  unfold State.endDrain; (try dsimp only); (repeat' split) <;> simp

@[simp] theorem State.endDrain_plan (i : Fin 64) (g : Grant) : (s.endDrain i g).plan = s.plan := by
  unfold State.endDrain; (try dsimp only); (repeat' split) <;> simp

@[simp] theorem State.endDrain_table_planFrozen (i : Fin 64) (g : Grant) :
    (s.endDrain i g).table.planFrozen = s.table.planFrozen := by
  unfold State.endDrain; (try dsimp only); (repeat' split) <;> simp

@[simp] theorem State.endDrain_pool_startUp (i : Fin 64) (g : Grant) :
    (s.endDrain i g).pool.startUp = s.pool.startUp := by
  unfold State.endDrain; (try dsimp only); (repeat' split) <;> simp

@[simp] theorem State.endDrain_freeCount (i : Fin 64) (g : Grant) :
    (s.endDrain i g).freeCount = s.freeCount := by
  unfold State.endDrain; (try dsimp only); (repeat' split) <;> simp


/-! ### freeByTimer -/

@[simp] theorem State.freeByTimer_pending (i : Fin 64) (g : Grant) :
    (s.freeByTimer i g).pending = s.pending := by
  unfold State.freeByTimer; simp

@[simp] theorem State.freeByTimer_ports_resetHeld (i : Fin 64) (g : Grant) :
    (s.freeByTimer i g).ports.resetHeld = s.ports.resetHeld := by
  unfold State.freeByTimer; simp

@[simp] theorem State.freeByTimer_ports_management (i : Fin 64) (g : Grant) :
    (s.freeByTimer i g).ports.management = s.ports.management := by
  unfold State.freeByTimer; simp

@[simp] theorem State.freeByTimer_ports_tenant (i : Fin 64) (g : Grant) :
    (s.freeByTimer i g).ports.tenant = s.ports.tenant := by
  unfold State.freeByTimer; simp

@[simp] theorem State.freeByTimer_ports_priority (i : Fin 64) (g : Grant) :
    (s.freeByTimer i g).ports.priority = s.ports.priority := by
  unfold State.freeByTimer; simp

@[simp] theorem State.freeByTimer_ports_pointer (i : Fin 64) (g : Grant) :
    (s.freeByTimer i g).ports.pointer = s.ports.pointer := by
  unfold State.freeByTimer; simp

@[simp] theorem State.freeByTimer_ports_mask (i : Fin 64) (g : Grant) :
    (s.freeByTimer i g).ports.mask = s.ports.mask := by
  unfold State.freeByTimer; simp

@[simp] theorem State.freeByTimer_plan (i : Fin 64) (g : Grant) :
    (s.freeByTimer i g).plan = s.plan := by
  unfold State.freeByTimer; simp

@[simp] theorem State.freeByTimer_table_planFrozen (i : Fin 64) (g : Grant) :
    (s.freeByTimer i g).table.planFrozen = s.table.planFrozen := by
  unfold State.freeByTimer; simp

@[simp] theorem State.freeByTimer_pool_startUp (i : Fin 64) (g : Grant) :
    (s.freeByTimer i g).pool.startUp = s.pool.startUp := by
  unfold State.freeByTimer; simp

@[simp] theorem State.freeByTimer_levels (i : Fin 64) (g : Grant) :
    (s.freeByTimer i g).levels = s.levels := by
  unfold State.freeByTimer; simp

@[simp] theorem State.freeByTimer_freeCount (i : Fin 64) (g : Grant) :
    (s.freeByTimer i g).freeCount = s.freeCount := by
  unfold State.freeByTimer; simp


/-! ### carrierUp -/

@[simp] theorem State.carrierUp_pending (i : Fin 64) (j : SlotId) :
    (s.carrierUp i j).pending = s.pending := by
  unfold State.carrierUp; simp

@[simp] theorem State.carrierUp_ports (i : Fin 64) (j : SlotId) :
    (s.carrierUp i j).ports = s.ports := by
  unfold State.carrierUp; simp

@[simp] theorem State.carrierUp_plan (i : Fin 64) (j : SlotId) :
    (s.carrierUp i j).plan = s.plan := by
  unfold State.carrierUp; simp

@[simp] theorem State.carrierUp_table_occupancy (i : Fin 64) (j : SlotId) :
    (s.carrierUp i j).table.occupancy = s.table.occupancy := by
  unfold State.carrierUp; simp

@[simp] theorem State.carrierUp_table_counts (i : Fin 64) (j : SlotId) :
    (s.carrierUp i j).table.counts = s.table.counts := by
  unfold State.carrierUp; simp

@[simp] theorem State.carrierUp_table_planFrozen (i : Fin 64) (j : SlotId) :
    (s.carrierUp i j).table.planFrozen = s.table.planFrozen := by
  unfold State.carrierUp; simp

@[simp] theorem State.carrierUp_profiles (i : Fin 64) (j : SlotId) :
    (s.carrierUp i j).profiles = s.profiles := by
  unfold State.carrierUp; simp

@[simp] theorem State.carrierUp_pool (i : Fin 64) (j : SlotId) :
    (s.carrierUp i j).pool = s.pool := by
  unfold State.carrierUp; simp

@[simp] theorem State.carrierUp_levels (i : Fin 64) (j : SlotId) :
    (s.carrierUp i j).levels = s.levels := by
  unfold State.carrierUp; simp

@[simp] theorem State.carrierUp_engine (i : Fin 64) (j : SlotId) :
    (s.carrierUp i j).engine = s.engine := by
  unfold State.carrierUp; simp

@[simp] theorem State.carrierUp_monitor (i : Fin 64) (j : SlotId) :
    (s.carrierUp i j).monitor = s.monitor := by
  unfold State.carrierUp; simp

@[simp] theorem State.carrierUp_freeCount (i : Fin 64) (j : SlotId) :
    (s.carrierUp i j).freeCount = s.freeCount := by
  unfold State.carrierUp; simp


/-! ### arrive -/

@[simp] theorem State.arrive_pending (i : Fin 64) (j : SlotId) :
    (s.arrive i j).pending = s.pending := by
  unfold State.arrive; (try dsimp only); (repeat' split) <;> simp

@[simp] theorem State.arrive_ports_resetHeld (i : Fin 64) (j : SlotId) :
    (s.arrive i j).ports.resetHeld = s.ports.resetHeld := by
  unfold State.arrive; (try dsimp only); (repeat' split) <;> simp

@[simp] theorem State.arrive_ports_management (i : Fin 64) (j : SlotId) :
    (s.arrive i j).ports.management = s.ports.management := by
  unfold State.arrive; (try dsimp only); (repeat' split) <;> simp

@[simp] theorem State.arrive_ports_tenant (i : Fin 64) (j : SlotId) :
    (s.arrive i j).ports.tenant = s.ports.tenant := by
  unfold State.arrive; (try dsimp only); (repeat' split) <;> simp

@[simp] theorem State.arrive_ports_priority (i : Fin 64) (j : SlotId) :
    (s.arrive i j).ports.priority = s.ports.priority := by
  unfold State.arrive; (try dsimp only); (repeat' split) <;> simp

@[simp] theorem State.arrive_ports_pointer (i : Fin 64) (j : SlotId) :
    (s.arrive i j).ports.pointer = s.ports.pointer := by
  unfold State.arrive; (try dsimp only); (repeat' split) <;> simp

@[simp] theorem State.arrive_ports_mask (i : Fin 64) (j : SlotId) :
    (s.arrive i j).ports.mask = s.ports.mask := by
  unfold State.arrive; (try dsimp only); (repeat' split) <;> simp

@[simp] theorem State.arrive_plan (i : Fin 64) (j : SlotId) : (s.arrive i j).plan = s.plan := by
  unfold State.arrive; (try dsimp only); (repeat' split) <;> simp

@[simp] theorem State.arrive_table_counts (i : Fin 64) (j : SlotId) :
    (s.arrive i j).table.counts = s.table.counts := by
  unfold State.arrive; (try dsimp only); (repeat' split) <;> simp

@[simp] theorem State.arrive_table_planFrozen (i : Fin 64) (j : SlotId) :
    (s.arrive i j).table.planFrozen = s.table.planFrozen := by
  unfold State.arrive; (try dsimp only); (repeat' split) <;> simp

@[simp] theorem State.arrive_profiles (i : Fin 64) (j : SlotId) :
    (s.arrive i j).profiles = s.profiles := by
  unfold State.arrive; (try dsimp only); (repeat' split) <;> simp

@[simp] theorem State.arrive_pool_startUp (i : Fin 64) (j : SlotId) :
    (s.arrive i j).pool.startUp = s.pool.startUp := by
  unfold State.arrive; (try dsimp only); (repeat' split) <;> simp

@[simp] theorem State.arrive_freeCount (i : Fin 64) (j : SlotId) :
    (s.arrive i j).freeCount = s.freeCount := by
  unfold State.arrive; (try dsimp only); (repeat' split) <;> simp


/-! ### stayBehind -/

@[simp] theorem State.stayBehind_pending (i : Fin 64) (p : Option SlotId) :
    (s.stayBehind i p).pending = s.pending := by
  unfold State.stayBehind; (try dsimp only); (repeat' split) <;> simp

@[simp] theorem State.stayBehind_ports_resetHeld (i : Fin 64) (p : Option SlotId) :
    (s.stayBehind i p).ports.resetHeld = s.ports.resetHeld := by
  unfold State.stayBehind; (try dsimp only); (repeat' split) <;> simp

@[simp] theorem State.stayBehind_ports_management (i : Fin 64) (p : Option SlotId) :
    (s.stayBehind i p).ports.management = s.ports.management := by
  unfold State.stayBehind; (try dsimp only); (repeat' split) <;> simp

@[simp] theorem State.stayBehind_ports_tenant (i : Fin 64) (p : Option SlotId) :
    (s.stayBehind i p).ports.tenant = s.ports.tenant := by
  unfold State.stayBehind; (try dsimp only); (repeat' split) <;> simp

@[simp] theorem State.stayBehind_ports_priority (i : Fin 64) (p : Option SlotId) :
    (s.stayBehind i p).ports.priority = s.ports.priority := by
  unfold State.stayBehind; (try dsimp only); (repeat' split) <;> simp

@[simp] theorem State.stayBehind_ports_pointer (i : Fin 64) (p : Option SlotId) :
    (s.stayBehind i p).ports.pointer = s.ports.pointer := by
  unfold State.stayBehind; (try dsimp only); (repeat' split) <;> simp

@[simp] theorem State.stayBehind_ports_mask (i : Fin 64) (p : Option SlotId) :
    (s.stayBehind i p).ports.mask = s.ports.mask := by
  unfold State.stayBehind; (try dsimp only); (repeat' split) <;> simp

@[simp] theorem State.stayBehind_plan (i : Fin 64) (p : Option SlotId) :
    (s.stayBehind i p).plan = s.plan := by
  unfold State.stayBehind; (try dsimp only); (repeat' split) <;> simp

@[simp] theorem State.stayBehind_table_counts (i : Fin 64) (p : Option SlotId) :
    (s.stayBehind i p).table.counts = s.table.counts := by
  unfold State.stayBehind; (try dsimp only); (repeat' split) <;> simp

@[simp] theorem State.stayBehind_table_planFrozen (i : Fin 64) (p : Option SlotId) :
    (s.stayBehind i p).table.planFrozen = s.table.planFrozen := by
  unfold State.stayBehind; (try dsimp only); (repeat' split) <;> simp

@[simp] theorem State.stayBehind_profiles (i : Fin 64) (p : Option SlotId) :
    (s.stayBehind i p).profiles = s.profiles := by
  unfold State.stayBehind; (try dsimp only); (repeat' split) <;> simp

@[simp] theorem State.stayBehind_pool_startUp (i : Fin 64) (p : Option SlotId) :
    (s.stayBehind i p).pool.startUp = s.pool.startUp := by
  unfold State.stayBehind; (try dsimp only); (repeat' split) <;> simp

@[simp] theorem State.stayBehind_freeCount (i : Fin 64) (p : Option SlotId) :
    (s.stayBehind i p).freeCount = s.freeCount := by
  unfold State.stayBehind; (try dsimp only); (repeat' split) <;> simp


/-! ### fallbackFails -/

@[simp] theorem State.fallbackFails_pending (i : Fin 64) :
    (s.fallbackFails i).pending = s.pending := by
  unfold State.fallbackFails; (repeat' split) <;> simp

@[simp] theorem State.fallbackFails_ports_resetHeld (i : Fin 64) :
    (s.fallbackFails i).ports.resetHeld = s.ports.resetHeld := by
  unfold State.fallbackFails; (repeat' split) <;> simp

@[simp] theorem State.fallbackFails_ports_management (i : Fin 64) :
    (s.fallbackFails i).ports.management = s.ports.management := by
  unfold State.fallbackFails; (repeat' split) <;> simp

@[simp] theorem State.fallbackFails_ports_tenant (i : Fin 64) :
    (s.fallbackFails i).ports.tenant = s.ports.tenant := by
  unfold State.fallbackFails; (repeat' split) <;> simp

@[simp] theorem State.fallbackFails_ports_priority (i : Fin 64) :
    (s.fallbackFails i).ports.priority = s.ports.priority := by
  unfold State.fallbackFails; (repeat' split) <;> simp

@[simp] theorem State.fallbackFails_ports_pointer (i : Fin 64) :
    (s.fallbackFails i).ports.pointer = s.ports.pointer := by
  unfold State.fallbackFails; (repeat' split) <;> simp

@[simp] theorem State.fallbackFails_ports_mask (i : Fin 64) :
    (s.fallbackFails i).ports.mask = s.ports.mask := by
  unfold State.fallbackFails; (repeat' split) <;> simp

@[simp] theorem State.fallbackFails_plan (i : Fin 64) : (s.fallbackFails i).plan = s.plan := by
  unfold State.fallbackFails; (repeat' split) <;> simp

@[simp] theorem State.fallbackFails_table_counts (i : Fin 64) :
    (s.fallbackFails i).table.counts = s.table.counts := by
  unfold State.fallbackFails; (repeat' split) <;> simp

@[simp] theorem State.fallbackFails_table_planFrozen (i : Fin 64) :
    (s.fallbackFails i).table.planFrozen = s.table.planFrozen := by
  unfold State.fallbackFails; (repeat' split) <;> simp

@[simp] theorem State.fallbackFails_profiles (i : Fin 64) :
    (s.fallbackFails i).profiles = s.profiles := by
  unfold State.fallbackFails; (repeat' split) <;> simp

@[simp] theorem State.fallbackFails_pool_startUp (i : Fin 64) :
    (s.fallbackFails i).pool.startUp = s.pool.startUp := by
  unfold State.fallbackFails; (repeat' split) <;> simp

@[simp] theorem State.fallbackFails_freeCount (i : Fin 64) :
    (s.fallbackFails i).freeCount = s.freeCount := by
  unfold State.fallbackFails; (repeat' split) <;> simp


/-! ### beginFallback -/

@[simp] theorem State.beginFallback_pending (i : Fin 64) (g : Grant) (m : MoveContext) :
    (s.beginFallback i g m).pending = s.pending := by
  unfold State.beginFallback; (try dsimp only); (repeat' split) <;> simp

@[simp] theorem State.beginFallback_ports_resetHeld (i : Fin 64) (g : Grant) (m : MoveContext) :
    (s.beginFallback i g m).ports.resetHeld = s.ports.resetHeld := by
  unfold State.beginFallback; (try dsimp only); (repeat' split) <;> simp

@[simp] theorem State.beginFallback_ports_management (i : Fin 64) (g : Grant) (m : MoveContext) :
    (s.beginFallback i g m).ports.management = s.ports.management := by
  unfold State.beginFallback; (try dsimp only); (repeat' split) <;> simp

@[simp] theorem State.beginFallback_ports_tenant (i : Fin 64) (g : Grant) (m : MoveContext) :
    (s.beginFallback i g m).ports.tenant = s.ports.tenant := by
  unfold State.beginFallback; (try dsimp only); (repeat' split) <;> simp

@[simp] theorem State.beginFallback_ports_priority (i : Fin 64) (g : Grant) (m : MoveContext) :
    (s.beginFallback i g m).ports.priority = s.ports.priority := by
  unfold State.beginFallback; (try dsimp only); (repeat' split) <;> simp

@[simp] theorem State.beginFallback_ports_pointer (i : Fin 64) (g : Grant) (m : MoveContext) :
    (s.beginFallback i g m).ports.pointer = s.ports.pointer := by
  unfold State.beginFallback; (try dsimp only); (repeat' split) <;> simp

@[simp] theorem State.beginFallback_ports_mask (i : Fin 64) (g : Grant) (m : MoveContext) :
    (s.beginFallback i g m).ports.mask = s.ports.mask := by
  unfold State.beginFallback; (try dsimp only); (repeat' split) <;> simp

@[simp] theorem State.beginFallback_plan (i : Fin 64) (g : Grant) (m : MoveContext) :
    (s.beginFallback i g m).plan = s.plan := by
  unfold State.beginFallback; (try dsimp only); (repeat' split) <;> simp

@[simp] theorem State.beginFallback_table_counts (i : Fin 64) (g : Grant) (m : MoveContext) :
    (s.beginFallback i g m).table.counts = s.table.counts := by
  unfold State.beginFallback; (try dsimp only); (repeat' split) <;> simp

@[simp] theorem State.beginFallback_table_planFrozen (i : Fin 64) (g : Grant) (m : MoveContext) :
    (s.beginFallback i g m).table.planFrozen = s.table.planFrozen := by
  unfold State.beginFallback; (try dsimp only); (repeat' split) <;> simp

@[simp] theorem State.beginFallback_profiles (i : Fin 64) (g : Grant) (m : MoveContext) :
    (s.beginFallback i g m).profiles = s.profiles := by
  unfold State.beginFallback; (try dsimp only); (repeat' split) <;> simp

@[simp] theorem State.beginFallback_pool_startUp (i : Fin 64) (g : Grant) (m : MoveContext) :
    (s.beginFallback i g m).pool.startUp = s.pool.startUp := by
  unfold State.beginFallback; (try dsimp only); (repeat' split) <;> simp

@[simp] theorem State.beginFallback_freeCount (i : Fin 64) (g : Grant) (m : MoveContext) :
    (s.beginFallback i g m).freeCount = s.freeCount := by
  unfold State.beginFallback; (try dsimp only); (repeat' split) <;> simp


/-! ### tuningFails -/

@[simp] theorem State.tuningFails_pending (i : Fin 64) (c : Caller) :
    (s.tuningFails i c).pending = s.pending := by
  unfold State.tuningFails; (repeat' split) <;> simp

@[simp] theorem State.tuningFails_ports_resetHeld (i : Fin 64) (c : Caller) :
    (s.tuningFails i c).ports.resetHeld = s.ports.resetHeld := by
  unfold State.tuningFails; (repeat' split) <;> simp

@[simp] theorem State.tuningFails_ports_management (i : Fin 64) (c : Caller) :
    (s.tuningFails i c).ports.management = s.ports.management := by
  unfold State.tuningFails; (repeat' split) <;> simp

@[simp] theorem State.tuningFails_ports_tenant (i : Fin 64) (c : Caller) :
    (s.tuningFails i c).ports.tenant = s.ports.tenant := by
  unfold State.tuningFails; (repeat' split) <;> simp

@[simp] theorem State.tuningFails_ports_priority (i : Fin 64) (c : Caller) :
    (s.tuningFails i c).ports.priority = s.ports.priority := by
  unfold State.tuningFails; (repeat' split) <;> simp

@[simp] theorem State.tuningFails_ports_pointer (i : Fin 64) (c : Caller) :
    (s.tuningFails i c).ports.pointer = s.ports.pointer := by
  unfold State.tuningFails; (repeat' split) <;> simp

@[simp] theorem State.tuningFails_ports_mask (i : Fin 64) (c : Caller) :
    (s.tuningFails i c).ports.mask = s.ports.mask := by
  unfold State.tuningFails; (repeat' split) <;> simp

@[simp] theorem State.tuningFails_plan (i : Fin 64) (c : Caller) :
    (s.tuningFails i c).plan = s.plan := by
  unfold State.tuningFails; (repeat' split) <;> simp

@[simp] theorem State.tuningFails_table_counts (i : Fin 64) (c : Caller) :
    (s.tuningFails i c).table.counts = s.table.counts := by
  unfold State.tuningFails; (repeat' split) <;> simp

@[simp] theorem State.tuningFails_table_planFrozen (i : Fin 64) (c : Caller) :
    (s.tuningFails i c).table.planFrozen = s.table.planFrozen := by
  unfold State.tuningFails; (repeat' split) <;> simp

@[simp] theorem State.tuningFails_profiles (i : Fin 64) (c : Caller) :
    (s.tuningFails i c).profiles = s.profiles := by
  unfold State.tuningFails; (repeat' split) <;> simp

@[simp] theorem State.tuningFails_pool_startUp (i : Fin 64) (c : Caller) :
    (s.tuningFails i c).pool.startUp = s.pool.startUp := by
  unfold State.tuningFails; (repeat' split) <;> simp

@[simp] theorem State.tuningFails_freeCount (i : Fin 64) (c : Caller) :
    (s.tuningFails i c).freeCount = s.freeCount := by
  unfold State.tuningFails; (repeat' split) <;> simp


/-! ### tuningSucceeds -/

@[simp] theorem State.tuningSucceeds_pending (i : Fin 64) (c : Caller) (j : SlotId) :
    (s.tuningSucceeds i c j).pending = s.pending := by
  unfold State.tuningSucceeds; (repeat' split) <;> simp

@[simp] theorem State.tuningSucceeds_ports_resetHeld (i : Fin 64) (c : Caller) (j : SlotId) :
    (s.tuningSucceeds i c j).ports.resetHeld = s.ports.resetHeld := by
  unfold State.tuningSucceeds; (repeat' split) <;> simp

@[simp] theorem State.tuningSucceeds_ports_management (i : Fin 64) (c : Caller) (j : SlotId) :
    (s.tuningSucceeds i c j).ports.management = s.ports.management := by
  unfold State.tuningSucceeds; (repeat' split) <;> simp

@[simp] theorem State.tuningSucceeds_ports_tenant (i : Fin 64) (c : Caller) (j : SlotId) :
    (s.tuningSucceeds i c j).ports.tenant = s.ports.tenant := by
  unfold State.tuningSucceeds; (repeat' split) <;> simp

@[simp] theorem State.tuningSucceeds_ports_priority (i : Fin 64) (c : Caller) (j : SlotId) :
    (s.tuningSucceeds i c j).ports.priority = s.ports.priority := by
  unfold State.tuningSucceeds; (repeat' split) <;> simp

@[simp] theorem State.tuningSucceeds_ports_pointer (i : Fin 64) (c : Caller) (j : SlotId) :
    (s.tuningSucceeds i c j).ports.pointer = s.ports.pointer := by
  unfold State.tuningSucceeds; (repeat' split) <;> simp

@[simp] theorem State.tuningSucceeds_ports_mask (i : Fin 64) (c : Caller) (j : SlotId) :
    (s.tuningSucceeds i c j).ports.mask = s.ports.mask := by
  unfold State.tuningSucceeds; (repeat' split) <;> simp

@[simp] theorem State.tuningSucceeds_plan (i : Fin 64) (c : Caller) (j : SlotId) :
    (s.tuningSucceeds i c j).plan = s.plan := by
  unfold State.tuningSucceeds; (repeat' split) <;> simp

@[simp] theorem State.tuningSucceeds_table_counts (i : Fin 64) (c : Caller) (j : SlotId) :
    (s.tuningSucceeds i c j).table.counts = s.table.counts := by
  unfold State.tuningSucceeds; (repeat' split) <;> simp

@[simp] theorem State.tuningSucceeds_table_planFrozen (i : Fin 64) (c : Caller) (j : SlotId) :
    (s.tuningSucceeds i c j).table.planFrozen = s.table.planFrozen := by
  unfold State.tuningSucceeds; (repeat' split) <;> simp

@[simp] theorem State.tuningSucceeds_profiles (i : Fin 64) (c : Caller) (j : SlotId) :
    (s.tuningSucceeds i c j).profiles = s.profiles := by
  unfold State.tuningSucceeds; (repeat' split) <;> simp

@[simp] theorem State.tuningSucceeds_pool_startUp (i : Fin 64) (c : Caller) (j : SlotId) :
    (s.tuningSucceeds i c j).pool.startUp = s.pool.startUp := by
  unfold State.tuningSucceeds; (repeat' split) <;> simp

@[simp] theorem State.tuningSucceeds_freeCount (i : Fin 64) (c : Caller) (j : SlotId) :
    (s.tuningSucceeds i c j).freeCount = s.freeCount := by
  unfold State.tuningSucceeds; (repeat' split) <;> simp


/-! ### seekRetry -/

@[simp] theorem State.seekRetry_pending (i : Fin 64) (c : Caller) (j : SlotId) :
    (s.seekRetry i c j).pending = s.pending := by
  unfold State.seekRetry; (repeat' split) <;> simp

@[simp] theorem State.seekRetry_ports_resetHeld (i : Fin 64) (c : Caller) (j : SlotId) :
    (s.seekRetry i c j).ports.resetHeld = s.ports.resetHeld := by
  unfold State.seekRetry; (repeat' split) <;> simp

@[simp] theorem State.seekRetry_ports_management (i : Fin 64) (c : Caller) (j : SlotId) :
    (s.seekRetry i c j).ports.management = s.ports.management := by
  unfold State.seekRetry; (repeat' split) <;> simp

@[simp] theorem State.seekRetry_ports_tenant (i : Fin 64) (c : Caller) (j : SlotId) :
    (s.seekRetry i c j).ports.tenant = s.ports.tenant := by
  unfold State.seekRetry; (repeat' split) <;> simp

@[simp] theorem State.seekRetry_ports_priority (i : Fin 64) (c : Caller) (j : SlotId) :
    (s.seekRetry i c j).ports.priority = s.ports.priority := by
  unfold State.seekRetry; (repeat' split) <;> simp

@[simp] theorem State.seekRetry_ports_pointer (i : Fin 64) (c : Caller) (j : SlotId) :
    (s.seekRetry i c j).ports.pointer = s.ports.pointer := by
  unfold State.seekRetry; (repeat' split) <;> simp

@[simp] theorem State.seekRetry_ports_mask (i : Fin 64) (c : Caller) (j : SlotId) :
    (s.seekRetry i c j).ports.mask = s.ports.mask := by
  unfold State.seekRetry; (repeat' split) <;> simp

@[simp] theorem State.seekRetry_plan (i : Fin 64) (c : Caller) (j : SlotId) :
    (s.seekRetry i c j).plan = s.plan := by
  unfold State.seekRetry; (repeat' split) <;> simp

@[simp] theorem State.seekRetry_table_counts (i : Fin 64) (c : Caller) (j : SlotId) :
    (s.seekRetry i c j).table.counts = s.table.counts := by
  unfold State.seekRetry; (repeat' split) <;> simp

@[simp] theorem State.seekRetry_table_planFrozen (i : Fin 64) (c : Caller) (j : SlotId) :
    (s.seekRetry i c j).table.planFrozen = s.table.planFrozen := by
  unfold State.seekRetry; (repeat' split) <;> simp

@[simp] theorem State.seekRetry_profiles (i : Fin 64) (c : Caller) (j : SlotId) :
    (s.seekRetry i c j).profiles = s.profiles := by
  unfold State.seekRetry; (repeat' split) <;> simp

@[simp] theorem State.seekRetry_pool_startUp (i : Fin 64) (c : Caller) (j : SlotId) :
    (s.seekRetry i c j).pool.startUp = s.pool.startUp := by
  unfold State.seekRetry; (repeat' split) <;> simp

@[simp] theorem State.seekRetry_freeCount (i : Fin 64) (c : Caller) (j : SlotId) :
    (s.seekRetry i c j).freeCount = s.freeCount := by
  unfold State.seekRetry; (repeat' split) <;> simp


/-! ### attemptFails -/

@[simp] theorem State.attemptFails_pending (j : SlotId) (a : Attempt) :
    (s.attemptFails j a).pending = s.pending := by
  unfold State.attemptFails; (repeat' split) <;> simp

@[simp] theorem State.attemptFails_ports_resetHeld (j : SlotId) (a : Attempt) :
    (s.attemptFails j a).ports.resetHeld = s.ports.resetHeld := by
  unfold State.attemptFails; (repeat' split) <;> simp

@[simp] theorem State.attemptFails_ports_management (j : SlotId) (a : Attempt) :
    (s.attemptFails j a).ports.management = s.ports.management := by
  unfold State.attemptFails; (repeat' split) <;> simp

@[simp] theorem State.attemptFails_ports_tenant (j : SlotId) (a : Attempt) :
    (s.attemptFails j a).ports.tenant = s.ports.tenant := by
  unfold State.attemptFails; (repeat' split) <;> simp

@[simp] theorem State.attemptFails_ports_priority (j : SlotId) (a : Attempt) :
    (s.attemptFails j a).ports.priority = s.ports.priority := by
  unfold State.attemptFails; (repeat' split) <;> simp

@[simp] theorem State.attemptFails_ports_pointer (j : SlotId) (a : Attempt) :
    (s.attemptFails j a).ports.pointer = s.ports.pointer := by
  unfold State.attemptFails; (repeat' split) <;> simp

@[simp] theorem State.attemptFails_ports_mask (j : SlotId) (a : Attempt) :
    (s.attemptFails j a).ports.mask = s.ports.mask := by
  unfold State.attemptFails; (repeat' split) <;> simp

@[simp] theorem State.attemptFails_plan (j : SlotId) (a : Attempt) :
    (s.attemptFails j a).plan = s.plan := by
  unfold State.attemptFails; (repeat' split) <;> simp

@[simp] theorem State.attemptFails_table_counts (j : SlotId) (a : Attempt) :
    (s.attemptFails j a).table.counts = s.table.counts := by
  unfold State.attemptFails; (repeat' split) <;> simp

@[simp] theorem State.attemptFails_table_planFrozen (j : SlotId) (a : Attempt) :
    (s.attemptFails j a).table.planFrozen = s.table.planFrozen := by
  unfold State.attemptFails; (repeat' split) <;> simp

@[simp] theorem State.attemptFails_profiles (j : SlotId) (a : Attempt) :
    (s.attemptFails j a).profiles = s.profiles := by
  unfold State.attemptFails; (repeat' split) <;> simp

@[simp] theorem State.attemptFails_freeCount (j : SlotId) (a : Attempt) :
    (s.attemptFails j a).freeCount = s.freeCount := by
  unfold State.attemptFails; (repeat' split) <;> simp


/-! ### attemptLocks -/

@[simp] theorem State.attemptLocks_pending (j : SlotId) (a : Attempt) :
    (s.attemptLocks j a).pending = s.pending := by
  unfold State.attemptLocks; (repeat' split) <;> simp

@[simp] theorem State.attemptLocks_ports_resetHeld (j : SlotId) (a : Attempt) :
    (s.attemptLocks j a).ports.resetHeld = s.ports.resetHeld := by
  unfold State.attemptLocks; (repeat' split) <;> simp

@[simp] theorem State.attemptLocks_ports_management (j : SlotId) (a : Attempt) :
    (s.attemptLocks j a).ports.management = s.ports.management := by
  unfold State.attemptLocks; (repeat' split) <;> simp

@[simp] theorem State.attemptLocks_ports_tenant (j : SlotId) (a : Attempt) :
    (s.attemptLocks j a).ports.tenant = s.ports.tenant := by
  unfold State.attemptLocks; (repeat' split) <;> simp

@[simp] theorem State.attemptLocks_ports_priority (j : SlotId) (a : Attempt) :
    (s.attemptLocks j a).ports.priority = s.ports.priority := by
  unfold State.attemptLocks; (repeat' split) <;> simp

@[simp] theorem State.attemptLocks_ports_pointer (j : SlotId) (a : Attempt) :
    (s.attemptLocks j a).ports.pointer = s.ports.pointer := by
  unfold State.attemptLocks; (repeat' split) <;> simp

@[simp] theorem State.attemptLocks_ports_mask (j : SlotId) (a : Attempt) :
    (s.attemptLocks j a).ports.mask = s.ports.mask := by
  unfold State.attemptLocks; (repeat' split) <;> simp

@[simp] theorem State.attemptLocks_plan (j : SlotId) (a : Attempt) :
    (s.attemptLocks j a).plan = s.plan := by
  unfold State.attemptLocks; (repeat' split) <;> simp

@[simp] theorem State.attemptLocks_table_counts (j : SlotId) (a : Attempt) :
    (s.attemptLocks j a).table.counts = s.table.counts := by
  unfold State.attemptLocks; (repeat' split) <;> simp

@[simp] theorem State.attemptLocks_table_planFrozen (j : SlotId) (a : Attempt) :
    (s.attemptLocks j a).table.planFrozen = s.table.planFrozen := by
  unfold State.attemptLocks; (repeat' split) <;> simp

@[simp] theorem State.attemptLocks_profiles (j : SlotId) (a : Attempt) :
    (s.attemptLocks j a).profiles = s.profiles := by
  unfold State.attemptLocks; (repeat' split) <;> simp

@[simp] theorem State.attemptLocks_freeCount (j : SlotId) (a : Attempt) :
    (s.attemptLocks j a).freeCount = s.freeCount := by
  unfold State.attemptLocks; (repeat' split) <;> simp


/-! ### lockLoss -/

@[simp] theorem State.lockLoss_pending (j : SlotId) (i : Fin 64) (g : Grant) :
    (s.lockLoss j i g).pending = s.pending := by
  unfold State.lockLoss; (try dsimp only); (repeat' split) <;> simp

@[simp] theorem State.lockLoss_ports_resetHeld (j : SlotId) (i : Fin 64) (g : Grant) :
    (s.lockLoss j i g).ports.resetHeld = s.ports.resetHeld := by
  unfold State.lockLoss; (try dsimp only); (repeat' split) <;> simp

@[simp] theorem State.lockLoss_ports_management (j : SlotId) (i : Fin 64) (g : Grant) :
    (s.lockLoss j i g).ports.management = s.ports.management := by
  unfold State.lockLoss; (try dsimp only); (repeat' split) <;> simp

@[simp] theorem State.lockLoss_ports_tenant (j : SlotId) (i : Fin 64) (g : Grant) :
    (s.lockLoss j i g).ports.tenant = s.ports.tenant := by
  unfold State.lockLoss; (try dsimp only); (repeat' split) <;> simp

@[simp] theorem State.lockLoss_ports_priority (j : SlotId) (i : Fin 64) (g : Grant) :
    (s.lockLoss j i g).ports.priority = s.ports.priority := by
  unfold State.lockLoss; (try dsimp only); (repeat' split) <;> simp

@[simp] theorem State.lockLoss_ports_pointer (j : SlotId) (i : Fin 64) (g : Grant) :
    (s.lockLoss j i g).ports.pointer = s.ports.pointer := by
  unfold State.lockLoss; (try dsimp only); (repeat' split) <;> simp

@[simp] theorem State.lockLoss_ports_mask (j : SlotId) (i : Fin 64) (g : Grant) :
    (s.lockLoss j i g).ports.mask = s.ports.mask := by
  unfold State.lockLoss; (try dsimp only); (repeat' split) <;> simp

@[simp] theorem State.lockLoss_plan (j : SlotId) (i : Fin 64) (g : Grant) :
    (s.lockLoss j i g).plan = s.plan := by
  unfold State.lockLoss; (try dsimp only); (repeat' split) <;> simp

@[simp] theorem State.lockLoss_table_counts (j : SlotId) (i : Fin 64) (g : Grant) :
    (s.lockLoss j i g).table.counts = s.table.counts := by
  unfold State.lockLoss; (try dsimp only); (repeat' split) <;> simp

@[simp] theorem State.lockLoss_table_planFrozen (j : SlotId) (i : Fin 64) (g : Grant) :
    (s.lockLoss j i g).table.planFrozen = s.table.planFrozen := by
  unfold State.lockLoss; (try dsimp only); (repeat' split) <;> simp

@[simp] theorem State.lockLoss_profiles (j : SlotId) (i : Fin 64) (g : Grant) :
    (s.lockLoss j i g).profiles = s.profiles := by
  unfold State.lockLoss; (try dsimp only); (repeat' split) <;> simp

@[simp] theorem State.lockLoss_pool_startUp (j : SlotId) (i : Fin 64) (g : Grant) :
    (s.lockLoss j i g).pool.startUp = s.pool.startUp := by
  unfold State.lockLoss; (try dsimp only); (repeat' split) <;> simp

@[simp] theorem State.lockLoss_freeCount (j : SlotId) (i : Fin 64) (g : Grant) :
    (s.lockLoss j i g).freeCount = s.freeCount := by
  unfold State.lockLoss; (try dsimp only); (repeat' split) <;> simp


/-! ### seamlessLoss -/

@[simp] theorem State.seamlessLoss_pending (j : SlotId) (i : Fin 64) (m : MoveContext) :
    (s.seamlessLoss j i m).pending = s.pending := by
  unfold State.seamlessLoss; (try dsimp only); simp

@[simp] theorem State.seamlessLoss_ports_resetHeld (j : SlotId) (i : Fin 64) (m : MoveContext) :
    (s.seamlessLoss j i m).ports.resetHeld = s.ports.resetHeld := by
  unfold State.seamlessLoss; (try dsimp only); simp

@[simp] theorem State.seamlessLoss_ports_management (j : SlotId) (i : Fin 64) (m : MoveContext) :
    (s.seamlessLoss j i m).ports.management = s.ports.management := by
  unfold State.seamlessLoss; (try dsimp only); simp

@[simp] theorem State.seamlessLoss_ports_tenant (j : SlotId) (i : Fin 64) (m : MoveContext) :
    (s.seamlessLoss j i m).ports.tenant = s.ports.tenant := by
  unfold State.seamlessLoss; (try dsimp only); simp

@[simp] theorem State.seamlessLoss_ports_priority (j : SlotId) (i : Fin 64) (m : MoveContext) :
    (s.seamlessLoss j i m).ports.priority = s.ports.priority := by
  unfold State.seamlessLoss; (try dsimp only); simp

@[simp] theorem State.seamlessLoss_ports_pointer (j : SlotId) (i : Fin 64) (m : MoveContext) :
    (s.seamlessLoss j i m).ports.pointer = s.ports.pointer := by
  unfold State.seamlessLoss; (try dsimp only); simp

@[simp] theorem State.seamlessLoss_ports_mask (j : SlotId) (i : Fin 64) (m : MoveContext) :
    (s.seamlessLoss j i m).ports.mask = s.ports.mask := by
  unfold State.seamlessLoss; (try dsimp only); simp

@[simp] theorem State.seamlessLoss_plan (j : SlotId) (i : Fin 64) (m : MoveContext) :
    (s.seamlessLoss j i m).plan = s.plan := by
  unfold State.seamlessLoss; (try dsimp only); simp

@[simp] theorem State.seamlessLoss_table_occupancy (j : SlotId) (i : Fin 64) (m : MoveContext) :
    (s.seamlessLoss j i m).table.occupancy = s.table.occupancy := by
  unfold State.seamlessLoss; (try dsimp only); simp

@[simp] theorem State.seamlessLoss_table_counts (j : SlotId) (i : Fin 64) (m : MoveContext) :
    (s.seamlessLoss j i m).table.counts = s.table.counts := by
  unfold State.seamlessLoss; (try dsimp only); simp

@[simp] theorem State.seamlessLoss_table_planFrozen (j : SlotId) (i : Fin 64) (m : MoveContext) :
    (s.seamlessLoss j i m).table.planFrozen = s.table.planFrozen := by
  unfold State.seamlessLoss; (try dsimp only); simp

@[simp] theorem State.seamlessLoss_profiles (j : SlotId) (i : Fin 64) (m : MoveContext) :
    (s.seamlessLoss j i m).profiles = s.profiles := by
  unfold State.seamlessLoss; (try dsimp only); simp

@[simp] theorem State.seamlessLoss_pool_startUp (j : SlotId) (i : Fin 64) (m : MoveContext) :
    (s.seamlessLoss j i m).pool.startUp = s.pool.startUp := by
  unfold State.seamlessLoss; (try dsimp only); simp

@[simp] theorem State.seamlessLoss_engine (j : SlotId) (i : Fin 64) (m : MoveContext) :
    (s.seamlessLoss j i m).engine = s.engine := by
  unfold State.seamlessLoss; (try dsimp only); simp

@[simp] theorem State.seamlessLoss_monitor (j : SlotId) (i : Fin 64) (m : MoveContext) :
    (s.seamlessLoss j i m).monitor = s.monitor := by
  unfold State.seamlessLoss; (try dsimp only); simp

@[simp] theorem State.seamlessLoss_freeCount (j : SlotId) (i : Fin 64) (m : MoveContext) :
    (s.seamlessLoss j i m).freeCount = s.freeCount := by
  unfold State.seamlessLoss; (try dsimp only); simp


/-! ### lossOfLock -/

@[simp] theorem State.lossOfLock_pending (j : SlotId) : (s.lossOfLock j).pending = s.pending := by
  unfold State.lossOfLock; (repeat' split) <;> simp

@[simp] theorem State.lossOfLock_ports_resetHeld (j : SlotId) :
    (s.lossOfLock j).ports.resetHeld = s.ports.resetHeld := by
  unfold State.lossOfLock; (repeat' split) <;> simp

@[simp] theorem State.lossOfLock_ports_management (j : SlotId) :
    (s.lossOfLock j).ports.management = s.ports.management := by
  unfold State.lossOfLock; (repeat' split) <;> simp

@[simp] theorem State.lossOfLock_ports_tenant (j : SlotId) :
    (s.lossOfLock j).ports.tenant = s.ports.tenant := by
  unfold State.lossOfLock; (repeat' split) <;> simp

@[simp] theorem State.lossOfLock_ports_priority (j : SlotId) :
    (s.lossOfLock j).ports.priority = s.ports.priority := by
  unfold State.lossOfLock; (repeat' split) <;> simp

@[simp] theorem State.lossOfLock_ports_pointer (j : SlotId) :
    (s.lossOfLock j).ports.pointer = s.ports.pointer := by
  unfold State.lossOfLock; (repeat' split) <;> simp

@[simp] theorem State.lossOfLock_ports_mask (j : SlotId) :
    (s.lossOfLock j).ports.mask = s.ports.mask := by
  unfold State.lossOfLock; (repeat' split) <;> simp

@[simp] theorem State.lossOfLock_plan (j : SlotId) : (s.lossOfLock j).plan = s.plan := by
  unfold State.lossOfLock; (repeat' split) <;> simp

@[simp] theorem State.lossOfLock_table_counts (j : SlotId) :
    (s.lossOfLock j).table.counts = s.table.counts := by
  unfold State.lossOfLock; (repeat' split) <;> simp

@[simp] theorem State.lossOfLock_table_planFrozen (j : SlotId) :
    (s.lossOfLock j).table.planFrozen = s.table.planFrozen := by
  unfold State.lossOfLock; (repeat' split) <;> simp

@[simp] theorem State.lossOfLock_profiles (j : SlotId) :
    (s.lossOfLock j).profiles = s.profiles := by
  unfold State.lossOfLock; (repeat' split) <;> simp

@[simp] theorem State.lossOfLock_pool_startUp (j : SlotId) :
    (s.lossOfLock j).pool.startUp = s.pool.startUp := by
  unfold State.lossOfLock; (repeat' split) <;> simp

@[simp] theorem State.lossOfLock_freeCount (j : SlotId) :
    (s.lossOfLock j).freeCount = s.freeCount := by
  unfold State.lossOfLock; (repeat' split) <;> simp


/-! ### lockedOn -/

@[simp] theorem State.lockedOn_pending (j : SlotId) : (s.lockedOn j).pending = s.pending := by
  unfold State.lockedOn; (repeat' split) <;> simp

@[simp] theorem State.lockedOn_ports_resetHeld (j : SlotId) :
    (s.lockedOn j).ports.resetHeld = s.ports.resetHeld := by
  unfold State.lockedOn; (repeat' split) <;> simp

@[simp] theorem State.lockedOn_ports_management (j : SlotId) :
    (s.lockedOn j).ports.management = s.ports.management := by
  unfold State.lockedOn; (repeat' split) <;> simp

@[simp] theorem State.lockedOn_ports_tenant (j : SlotId) :
    (s.lockedOn j).ports.tenant = s.ports.tenant := by
  unfold State.lockedOn; (repeat' split) <;> simp

@[simp] theorem State.lockedOn_ports_priority (j : SlotId) :
    (s.lockedOn j).ports.priority = s.ports.priority := by
  unfold State.lockedOn; (repeat' split) <;> simp

@[simp] theorem State.lockedOn_ports_pointer (j : SlotId) :
    (s.lockedOn j).ports.pointer = s.ports.pointer := by
  unfold State.lockedOn; (repeat' split) <;> simp

@[simp] theorem State.lockedOn_ports_mask (j : SlotId) :
    (s.lockedOn j).ports.mask = s.ports.mask := by
  unfold State.lockedOn; (repeat' split) <;> simp

@[simp] theorem State.lockedOn_plan (j : SlotId) : (s.lockedOn j).plan = s.plan := by
  unfold State.lockedOn; (repeat' split) <;> simp

@[simp] theorem State.lockedOn_table_counts (j : SlotId) :
    (s.lockedOn j).table.counts = s.table.counts := by
  unfold State.lockedOn; (repeat' split) <;> simp

@[simp] theorem State.lockedOn_table_planFrozen (j : SlotId) :
    (s.lockedOn j).table.planFrozen = s.table.planFrozen := by
  unfold State.lockedOn; (repeat' split) <;> simp

@[simp] theorem State.lockedOn_profiles (j : SlotId) : (s.lockedOn j).profiles = s.profiles := by
  unfold State.lockedOn; (repeat' split) <;> simp

@[simp] theorem State.lockedOn_freeCount (j : SlotId) : (s.lockedOn j).freeCount = s.freeCount := by
  unfold State.lockedOn; (repeat' split) <;> simp


/-! ### failedOn -/

@[simp] theorem State.failedOn_pending (j : SlotId) : (s.failedOn j).pending = s.pending := by
  unfold State.failedOn; (repeat' split) <;> simp

@[simp] theorem State.failedOn_ports_resetHeld (j : SlotId) :
    (s.failedOn j).ports.resetHeld = s.ports.resetHeld := by
  unfold State.failedOn; (repeat' split) <;> simp

@[simp] theorem State.failedOn_ports_management (j : SlotId) :
    (s.failedOn j).ports.management = s.ports.management := by
  unfold State.failedOn; (repeat' split) <;> simp

@[simp] theorem State.failedOn_ports_tenant (j : SlotId) :
    (s.failedOn j).ports.tenant = s.ports.tenant := by
  unfold State.failedOn; (repeat' split) <;> simp

@[simp] theorem State.failedOn_ports_priority (j : SlotId) :
    (s.failedOn j).ports.priority = s.ports.priority := by
  unfold State.failedOn; (repeat' split) <;> simp

@[simp] theorem State.failedOn_ports_pointer (j : SlotId) :
    (s.failedOn j).ports.pointer = s.ports.pointer := by
  unfold State.failedOn; (repeat' split) <;> simp

@[simp] theorem State.failedOn_ports_mask (j : SlotId) :
    (s.failedOn j).ports.mask = s.ports.mask := by
  unfold State.failedOn; (repeat' split) <;> simp

@[simp] theorem State.failedOn_plan (j : SlotId) : (s.failedOn j).plan = s.plan := by
  unfold State.failedOn; (repeat' split) <;> simp

@[simp] theorem State.failedOn_table_counts (j : SlotId) :
    (s.failedOn j).table.counts = s.table.counts := by
  unfold State.failedOn; (repeat' split) <;> simp

@[simp] theorem State.failedOn_table_planFrozen (j : SlotId) :
    (s.failedOn j).table.planFrozen = s.table.planFrozen := by
  unfold State.failedOn; (repeat' split) <;> simp

@[simp] theorem State.failedOn_profiles (j : SlotId) : (s.failedOn j).profiles = s.profiles := by
  unfold State.failedOn; (repeat' split) <;> simp

@[simp] theorem State.failedOn_freeCount (j : SlotId) : (s.failedOn j).freeCount = s.freeCount := by
  unfold State.failedOn; (repeat' split) <;> simp


/-! ### lostOn -/

@[simp] theorem State.lostOn_pending (j : SlotId) : (s.lostOn j).pending = s.pending := by
  unfold State.lostOn; (repeat' split) <;> simp

@[simp] theorem State.lostOn_ports_resetHeld (j : SlotId) :
    (s.lostOn j).ports.resetHeld = s.ports.resetHeld := by
  unfold State.lostOn; (repeat' split) <;> simp

@[simp] theorem State.lostOn_ports_management (j : SlotId) :
    (s.lostOn j).ports.management = s.ports.management := by
  unfold State.lostOn; (repeat' split) <;> simp

@[simp] theorem State.lostOn_ports_tenant (j : SlotId) :
    (s.lostOn j).ports.tenant = s.ports.tenant := by
  unfold State.lostOn; (repeat' split) <;> simp

@[simp] theorem State.lostOn_ports_priority (j : SlotId) :
    (s.lostOn j).ports.priority = s.ports.priority := by
  unfold State.lostOn; (repeat' split) <;> simp

@[simp] theorem State.lostOn_ports_pointer (j : SlotId) :
    (s.lostOn j).ports.pointer = s.ports.pointer := by
  unfold State.lostOn; (repeat' split) <;> simp

@[simp] theorem State.lostOn_ports_mask (j : SlotId) : (s.lostOn j).ports.mask = s.ports.mask := by
  unfold State.lostOn; (repeat' split) <;> simp

@[simp] theorem State.lostOn_plan (j : SlotId) : (s.lostOn j).plan = s.plan := by
  unfold State.lostOn; (repeat' split) <;> simp

@[simp] theorem State.lostOn_table_counts (j : SlotId) :
    (s.lostOn j).table.counts = s.table.counts := by
  unfold State.lostOn; (repeat' split) <;> simp

@[simp] theorem State.lostOn_table_planFrozen (j : SlotId) :
    (s.lostOn j).table.planFrozen = s.table.planFrozen := by
  unfold State.lostOn; (repeat' split) <;> simp

@[simp] theorem State.lostOn_profiles (j : SlotId) : (s.lostOn j).profiles = s.profiles := by
  unfold State.lostOn; (repeat' split) <;> simp

@[simp] theorem State.lostOn_freeCount (j : SlotId) : (s.lostOn j).freeCount = s.freeCount := by
  unfold State.lostOn; (repeat' split) <;> simp


/-! ### takeReading -/

@[simp] theorem State.takeReading_pending (t v : Byte) :
    (s.takeReading t v).pending = s.pending := by
  unfold State.takeReading; (try dsimp only); (repeat' split) <;> simp

@[simp] theorem State.takeReading_ports_resetHeld (t v : Byte) :
    (s.takeReading t v).ports.resetHeld = s.ports.resetHeld := by
  unfold State.takeReading; (try dsimp only); (repeat' split) <;> simp

@[simp] theorem State.takeReading_ports_management (t v : Byte) :
    (s.takeReading t v).ports.management = s.ports.management := by
  unfold State.takeReading; (try dsimp only); (repeat' split) <;> simp

@[simp] theorem State.takeReading_ports_tenant (t v : Byte) :
    (s.takeReading t v).ports.tenant = s.ports.tenant := by
  unfold State.takeReading; (try dsimp only); (repeat' split) <;> simp

@[simp] theorem State.takeReading_ports_priority (t v : Byte) :
    (s.takeReading t v).ports.priority = s.ports.priority := by
  unfold State.takeReading; (try dsimp only); (repeat' split) <;> simp

@[simp] theorem State.takeReading_ports_pointer (t v : Byte) :
    (s.takeReading t v).ports.pointer = s.ports.pointer := by
  unfold State.takeReading; (try dsimp only); (repeat' split) <;> simp

@[simp] theorem State.takeReading_ports_mask (t v : Byte) :
    (s.takeReading t v).ports.mask = s.ports.mask := by
  unfold State.takeReading; (try dsimp only); (repeat' split) <;> simp

@[simp] theorem State.takeReading_plan (t v : Byte) : (s.takeReading t v).plan = s.plan := by
  unfold State.takeReading; (try dsimp only); (repeat' split) <;> simp

@[simp] theorem State.takeReading_table_occupancy (t v : Byte) :
    (s.takeReading t v).table.occupancy = s.table.occupancy := by
  unfold State.takeReading; (try dsimp only); (repeat' split) <;> simp

@[simp] theorem State.takeReading_table_counts (t v : Byte) :
    (s.takeReading t v).table.counts = s.table.counts := by
  unfold State.takeReading; (try dsimp only); (repeat' split) <;> simp

@[simp] theorem State.takeReading_table_planFrozen (t v : Byte) :
    (s.takeReading t v).table.planFrozen = s.table.planFrozen := by
  unfold State.takeReading; (try dsimp only); (repeat' split) <;> simp

@[simp] theorem State.takeReading_profiles (t v : Byte) :
    (s.takeReading t v).profiles = s.profiles := by
  unfold State.takeReading; (try dsimp only); (repeat' split) <;> simp

@[simp] theorem State.takeReading_pool (t v : Byte) : (s.takeReading t v).pool = s.pool := by
  unfold State.takeReading; (try dsimp only); (repeat' split) <;> simp

@[simp] theorem State.takeReading_levels (t v : Byte) : (s.takeReading t v).levels = s.levels := by
  unfold State.takeReading; (try dsimp only); (repeat' split) <;> simp

@[simp] theorem State.takeReading_engine_repack (t v : Byte) :
    (s.takeReading t v).engine.repack = s.engine.repack := by
  unfold State.takeReading; (try dsimp only); (repeat' split) <;> simp

@[simp] theorem State.takeReading_engine_frag (t v : Byte) :
    (s.takeReading t v).engine.frag = s.engine.frag := by
  unfold State.takeReading; (try dsimp only); (repeat' split) <;> simp

@[simp] theorem State.takeReading_freeCount (t v : Byte) :
    (s.takeReading t v).freeCount = s.freeCount := by
  unfold State.takeReading; (try dsimp only); (repeat' split) <;> simp


/-! ### takePilot -/

@[simp] theorem State.takePilot_pending (p : Byte) : (s.takePilot p).pending = s.pending := by
  unfold State.takePilot; (try dsimp only); simp

@[simp] theorem State.takePilot_ports_resetHeld (p : Byte) :
    (s.takePilot p).ports.resetHeld = s.ports.resetHeld := by
  unfold State.takePilot; (try dsimp only); simp

@[simp] theorem State.takePilot_ports_management (p : Byte) :
    (s.takePilot p).ports.management = s.ports.management := by
  unfold State.takePilot; (try dsimp only); simp

@[simp] theorem State.takePilot_ports_tenant (p : Byte) :
    (s.takePilot p).ports.tenant = s.ports.tenant := by
  unfold State.takePilot; (try dsimp only); simp

@[simp] theorem State.takePilot_ports_priority (p : Byte) :
    (s.takePilot p).ports.priority = s.ports.priority := by
  unfold State.takePilot; (try dsimp only); simp

@[simp] theorem State.takePilot_ports_pointer (p : Byte) :
    (s.takePilot p).ports.pointer = s.ports.pointer := by
  unfold State.takePilot; (try dsimp only); simp

@[simp] theorem State.takePilot_ports_mask (p : Byte) :
    (s.takePilot p).ports.mask = s.ports.mask := by
  unfold State.takePilot; (try dsimp only); simp

@[simp] theorem State.takePilot_plan (p : Byte) : (s.takePilot p).plan = s.plan := by
  unfold State.takePilot; (try dsimp only); simp

@[simp] theorem State.takePilot_table_occupancy (p : Byte) :
    (s.takePilot p).table.occupancy = s.table.occupancy := by
  unfold State.takePilot; (try dsimp only); simp

@[simp] theorem State.takePilot_table_counts (p : Byte) :
    (s.takePilot p).table.counts = s.table.counts := by
  unfold State.takePilot; (try dsimp only); simp

@[simp] theorem State.takePilot_table_planFrozen (p : Byte) :
    (s.takePilot p).table.planFrozen = s.table.planFrozen := by
  unfold State.takePilot; (try dsimp only); simp

@[simp] theorem State.takePilot_profiles (p : Byte) : (s.takePilot p).profiles = s.profiles := by
  unfold State.takePilot; (try dsimp only); simp

@[simp] theorem State.takePilot_pool_slots (p : Byte) :
    (s.takePilot p).pool.slots = s.pool.slots := by
  unfold State.takePilot; (try dsimp only); simp

@[simp] theorem State.takePilot_pool_startUp (p : Byte) :
    (s.takePilot p).pool.startUp = s.pool.startUp := by
  unfold State.takePilot; (try dsimp only); simp

@[simp] theorem State.takePilot_engine (p : Byte) : (s.takePilot p).engine = s.engine := by
  unfold State.takePilot; (try dsimp only); simp

@[simp] theorem State.takePilot_monitor (p : Byte) : (s.takePilot p).monitor = s.monitor := by
  unfold State.takePilot; (try dsimp only); simp

@[simp] theorem State.takePilot_freeCount (p : Byte) : (s.takePilot p).freeCount = s.freeCount := by
  unfold State.takePilot; (try dsimp only); simp


/-! ### periodElapsed -/

@[simp] theorem State.periodElapsed_pending : (s.periodElapsed).pending = s.pending := by
  unfold State.periodElapsed; (try dsimp only); (repeat' split) <;> simp

@[simp] theorem State.periodElapsed_ports_resetHeld :
    (s.periodElapsed).ports.resetHeld = s.ports.resetHeld := by
  unfold State.periodElapsed; (try dsimp only); (repeat' split) <;> simp

@[simp] theorem State.periodElapsed_ports_management :
    (s.periodElapsed).ports.management = s.ports.management := by
  unfold State.periodElapsed; (try dsimp only); (repeat' split) <;> simp

@[simp] theorem State.periodElapsed_ports_tenant :
    (s.periodElapsed).ports.tenant = s.ports.tenant := by
  unfold State.periodElapsed; (try dsimp only); (repeat' split) <;> simp

@[simp] theorem State.periodElapsed_ports_priority :
    (s.periodElapsed).ports.priority = s.ports.priority := by
  unfold State.periodElapsed; (try dsimp only); (repeat' split) <;> simp

@[simp] theorem State.periodElapsed_ports_pointer :
    (s.periodElapsed).ports.pointer = s.ports.pointer := by
  unfold State.periodElapsed; (try dsimp only); (repeat' split) <;> simp

@[simp] theorem State.periodElapsed_ports_mask : (s.periodElapsed).ports.mask = s.ports.mask := by
  unfold State.periodElapsed; (try dsimp only); (repeat' split) <;> simp

@[simp] theorem State.periodElapsed_plan : (s.periodElapsed).plan = s.plan := by
  unfold State.periodElapsed; (try dsimp only); (repeat' split) <;> simp

@[simp] theorem State.periodElapsed_table : (s.periodElapsed).table = s.table := by
  unfold State.periodElapsed; (try dsimp only); (repeat' split) <;> simp

@[simp] theorem State.periodElapsed_profiles : (s.periodElapsed).profiles = s.profiles := by
  unfold State.periodElapsed; (try dsimp only); (repeat' split) <;> simp

@[simp] theorem State.periodElapsed_pool : (s.periodElapsed).pool = s.pool := by
  unfold State.periodElapsed; (try dsimp only); (repeat' split) <;> simp

@[simp] theorem State.periodElapsed_levels : (s.periodElapsed).levels = s.levels := by
  unfold State.periodElapsed; (try dsimp only); (repeat' split) <;> simp

@[simp] theorem State.periodElapsed_engine : (s.periodElapsed).engine = s.engine := by
  unfold State.periodElapsed; (try dsimp only); (repeat' split) <;> simp

@[simp] theorem State.periodElapsed_freeCount : (s.periodElapsed).freeCount = s.freeCount := by
  unfold State.periodElapsed; (try dsimp only); (repeat' split) <;> simp


/-! ### senseElapsed -/

@[simp] theorem State.senseElapsed_pending : (s.senseElapsed).pending = s.pending := by
  unfold State.senseElapsed; (repeat' split) <;> simp

@[simp] theorem State.senseElapsed_ports_resetHeld :
    (s.senseElapsed).ports.resetHeld = s.ports.resetHeld := by
  unfold State.senseElapsed; (repeat' split) <;> simp

@[simp] theorem State.senseElapsed_ports_management :
    (s.senseElapsed).ports.management = s.ports.management := by
  unfold State.senseElapsed; (repeat' split) <;> simp

@[simp] theorem State.senseElapsed_ports_tenant :
    (s.senseElapsed).ports.tenant = s.ports.tenant := by
  unfold State.senseElapsed; (repeat' split) <;> simp

@[simp] theorem State.senseElapsed_ports_priority :
    (s.senseElapsed).ports.priority = s.ports.priority := by
  unfold State.senseElapsed; (repeat' split) <;> simp

@[simp] theorem State.senseElapsed_ports_pointer :
    (s.senseElapsed).ports.pointer = s.ports.pointer := by
  unfold State.senseElapsed; (repeat' split) <;> simp

@[simp] theorem State.senseElapsed_ports_mask : (s.senseElapsed).ports.mask = s.ports.mask := by
  unfold State.senseElapsed; (repeat' split) <;> simp

@[simp] theorem State.senseElapsed_plan : (s.senseElapsed).plan = s.plan := by
  unfold State.senseElapsed; (repeat' split) <;> simp

@[simp] theorem State.senseElapsed_table : (s.senseElapsed).table = s.table := by
  unfold State.senseElapsed; (repeat' split) <;> simp

@[simp] theorem State.senseElapsed_profiles : (s.senseElapsed).profiles = s.profiles := by
  unfold State.senseElapsed; (repeat' split) <;> simp

@[simp] theorem State.senseElapsed_pool : (s.senseElapsed).pool = s.pool := by
  unfold State.senseElapsed; (repeat' split) <;> simp

@[simp] theorem State.senseElapsed_levels : (s.senseElapsed).levels = s.levels := by
  unfold State.senseElapsed; (repeat' split) <;> simp

@[simp] theorem State.senseElapsed_engine : (s.senseElapsed).engine = s.engine := by
  unfold State.senseElapsed; (repeat' split) <;> simp

@[simp] theorem State.senseElapsed_freeCount : (s.senseElapsed).freeCount = s.freeCount := by
  unfold State.senseElapsed; (repeat' split) <;> simp


/-! ### beginActivation -/

@[simp] theorem State.beginActivation_pending (i : Fin 64) (g : Grant) (j : SlotId) (x : Bool) :
    (s.beginActivation i g j x).pending = s.pending := by
  unfold State.beginActivation; simp

@[simp] theorem State.beginActivation_ports (i : Fin 64) (g : Grant) (j : SlotId) (x : Bool) :
    (s.beginActivation i g j x).ports = s.ports := by
  unfold State.beginActivation; simp

@[simp] theorem State.beginActivation_plan (i : Fin 64) (g : Grant) (j : SlotId) (x : Bool) :
    (s.beginActivation i g j x).plan = s.plan := by
  unfold State.beginActivation; simp

@[simp] theorem State.beginActivation_table_occupancy (i : Fin 64) (g : Grant) (j : SlotId) (x : Bool) :
    (s.beginActivation i g j x).table.occupancy = s.table.occupancy := by
  unfold State.beginActivation; simp

@[simp] theorem State.beginActivation_table_counts (i : Fin 64) (g : Grant) (j : SlotId) (x : Bool) :
    (s.beginActivation i g j x).table.counts = s.table.counts := by
  unfold State.beginActivation; simp

@[simp] theorem State.beginActivation_table_planFrozen (i : Fin 64) (g : Grant) (j : SlotId) (x : Bool) :
    (s.beginActivation i g j x).table.planFrozen = s.table.planFrozen := by
  unfold State.beginActivation; simp

@[simp] theorem State.beginActivation_profiles (i : Fin 64) (g : Grant) (j : SlotId) (x : Bool) :
    (s.beginActivation i g j x).profiles = s.profiles := by
  unfold State.beginActivation; simp

@[simp] theorem State.beginActivation_pool_startUp (i : Fin 64) (g : Grant) (j : SlotId) (x : Bool) :
    (s.beginActivation i g j x).pool.startUp = s.pool.startUp := by
  unfold State.beginActivation; simp

@[simp] theorem State.beginActivation_levels (i : Fin 64) (g : Grant) (j : SlotId) (x : Bool) :
    (s.beginActivation i g j x).levels = s.levels := by
  unfold State.beginActivation; simp

@[simp] theorem State.beginActivation_engine (i : Fin 64) (g : Grant) (j : SlotId) (x : Bool) :
    (s.beginActivation i g j x).engine = s.engine := by
  unfold State.beginActivation; simp

@[simp] theorem State.beginActivation_monitor (i : Fin 64) (g : Grant) (j : SlotId) (x : Bool) :
    (s.beginActivation i g j x).monitor = s.monitor := by
  unfold State.beginActivation; simp

@[simp] theorem State.beginActivation_freeCount (i : Fin 64) (g : Grant) (j : SlotId) (x : Bool) :
    (s.beginActivation i g j x).freeCount = s.freeCount := by
  unfold State.beginActivation; simp


/-! ### makeGrant -/

@[simp] theorem State.makeGrant_pending (r : Req) (w : Wish) (i : Fin 64) (n : Nat) :
    (s.makeGrant r w i n).pending = s.pending := by
  unfold State.makeGrant; (try dsimp only); simp

@[simp] theorem State.makeGrant_ports_resetHeld (r : Req) (w : Wish) (i : Fin 64) (n : Nat) :
    (s.makeGrant r w i n).ports.resetHeld = s.ports.resetHeld := by
  unfold State.makeGrant; (try dsimp only); simp

@[simp] theorem State.makeGrant_ports_management (r : Req) (w : Wish) (i : Fin 64) (n : Nat) :
    (s.makeGrant r w i n).ports.management = s.ports.management := by
  unfold State.makeGrant; (try dsimp only); simp

@[simp] theorem State.makeGrant_ports_tenant (r : Req) (w : Wish) (i : Fin 64) (n : Nat) :
    (s.makeGrant r w i n).ports.tenant = s.ports.tenant := by
  unfold State.makeGrant; (try dsimp only); simp

@[simp] theorem State.makeGrant_ports_priority (r : Req) (w : Wish) (i : Fin 64) (n : Nat) :
    (s.makeGrant r w i n).ports.priority = s.ports.priority := by
  unfold State.makeGrant; (try dsimp only); simp

@[simp] theorem State.makeGrant_ports_pointer (r : Req) (w : Wish) (i : Fin 64) (n : Nat) :
    (s.makeGrant r w i n).ports.pointer = s.ports.pointer := by
  unfold State.makeGrant; (try dsimp only); simp

@[simp] theorem State.makeGrant_ports_mask (r : Req) (w : Wish) (i : Fin 64) (n : Nat) :
    (s.makeGrant r w i n).ports.mask = s.ports.mask := by
  unfold State.makeGrant; (try dsimp only); simp

@[simp] theorem State.makeGrant_plan (r : Req) (w : Wish) (i : Fin 64) (n : Nat) :
    (s.makeGrant r w i n).plan = s.plan := by
  unfold State.makeGrant; (try dsimp only); simp

@[simp] theorem State.makeGrant_table_planFrozen (r : Req) (w : Wish) (i : Fin 64) (n : Nat) :
    (s.makeGrant r w i n).table.planFrozen = s.table.planFrozen := by
  unfold State.makeGrant; (try dsimp only); simp

@[simp] theorem State.makeGrant_pool_startUp (r : Req) (w : Wish) (i : Fin 64) (n : Nat) :
    (s.makeGrant r w i n).pool.startUp = s.pool.startUp := by
  unfold State.makeGrant; (try dsimp only); simp

@[simp] theorem State.makeGrant_levels (r : Req) (w : Wish) (i : Fin 64) (n : Nat) :
    (s.makeGrant r w i n).levels = s.levels := by
  unfold State.makeGrant; (try dsimp only); simp

@[simp] theorem State.makeGrant_freeCount (r : Req) (w : Wish) (i : Fin 64) (n : Nat) :
    (s.makeGrant r w i n).freeCount = s.freeCount := by
  unfold State.makeGrant; (try dsimp only); simp


/-! ### switchStart -/

@[simp] theorem State.switchStart_pending (o : Settings) (b : Band) :
    (s.switchStart o b).pending = s.pending := by
  unfold State.switchStart; (repeat' split) <;> simp

@[simp] theorem State.switchStart_ports_resetHeld (o : Settings) (b : Band) :
    (s.switchStart o b).ports.resetHeld = s.ports.resetHeld := by
  unfold State.switchStart; (repeat' split) <;> simp

@[simp] theorem State.switchStart_ports_management (o : Settings) (b : Band) :
    (s.switchStart o b).ports.management = s.ports.management := by
  unfold State.switchStart; (repeat' split) <;> simp

@[simp] theorem State.switchStart_ports_tenant (o : Settings) (b : Band) :
    (s.switchStart o b).ports.tenant = s.ports.tenant := by
  unfold State.switchStart; (repeat' split) <;> simp

@[simp] theorem State.switchStart_ports_priority (o : Settings) (b : Band) :
    (s.switchStart o b).ports.priority = s.ports.priority := by
  unfold State.switchStart; (repeat' split) <;> simp

@[simp] theorem State.switchStart_ports_pointer (o : Settings) (b : Band) :
    (s.switchStart o b).ports.pointer = s.ports.pointer := by
  unfold State.switchStart; (repeat' split) <;> simp

@[simp] theorem State.switchStart_ports_mask (o : Settings) (b : Band) :
    (s.switchStart o b).ports.mask = s.ports.mask := by
  unfold State.switchStart; (repeat' split) <;> simp

@[simp] theorem State.switchStart_plan (o : Settings) (b : Band) :
    (s.switchStart o b).plan = s.plan := by
  unfold State.switchStart; (repeat' split) <;> simp

@[simp] theorem State.switchStart_table_counts (o : Settings) (b : Band) :
    (s.switchStart o b).table.counts = s.table.counts := by
  unfold State.switchStart; (repeat' split) <;> simp

@[simp] theorem State.switchStart_table_planFrozen (o : Settings) (b : Band) :
    (s.switchStart o b).table.planFrozen = s.table.planFrozen := by
  unfold State.switchStart; (repeat' split) <;> simp

@[simp] theorem State.switchStart_profiles (o : Settings) (b : Band) :
    (s.switchStart o b).profiles = s.profiles := by
  unfold State.switchStart; (repeat' split) <;> simp

@[simp] theorem State.switchStart_pool_startUp (o : Settings) (b : Band) :
    (s.switchStart o b).pool.startUp = s.pool.startUp := by
  unfold State.switchStart; (repeat' split) <;> simp

@[simp] theorem State.switchStart_levels (o : Settings) (b : Band) :
    (s.switchStart o b).levels = s.levels := by
  unfold State.switchStart; (repeat' split) <;> simp

@[simp] theorem State.switchStart_freeCount (o : Settings) (b : Band) :
    (s.switchStart o b).freeCount = s.freeCount := by
  unfold State.switchStart; (repeat' split) <;> simp


/-! ### autoMove -/

@[simp] theorem State.autoMove_pending (i : Fin 64) (g : Grant) :
    (s.autoMove i g).pending = s.pending := by
  unfold State.autoMove; (repeat' split) <;> simp

@[simp] theorem State.autoMove_ports_resetHeld (i : Fin 64) (g : Grant) :
    (s.autoMove i g).ports.resetHeld = s.ports.resetHeld := by
  unfold State.autoMove; (repeat' split) <;> simp

@[simp] theorem State.autoMove_ports_management (i : Fin 64) (g : Grant) :
    (s.autoMove i g).ports.management = s.ports.management := by
  unfold State.autoMove; (repeat' split) <;> simp

@[simp] theorem State.autoMove_ports_tenant (i : Fin 64) (g : Grant) :
    (s.autoMove i g).ports.tenant = s.ports.tenant := by
  unfold State.autoMove; (repeat' split) <;> simp

@[simp] theorem State.autoMove_ports_priority (i : Fin 64) (g : Grant) :
    (s.autoMove i g).ports.priority = s.ports.priority := by
  unfold State.autoMove; (repeat' split) <;> simp

@[simp] theorem State.autoMove_ports_pointer (i : Fin 64) (g : Grant) :
    (s.autoMove i g).ports.pointer = s.ports.pointer := by
  unfold State.autoMove; (repeat' split) <;> simp

@[simp] theorem State.autoMove_ports_mask (i : Fin 64) (g : Grant) :
    (s.autoMove i g).ports.mask = s.ports.mask := by
  unfold State.autoMove; (repeat' split) <;> simp

@[simp] theorem State.autoMove_plan (i : Fin 64) (g : Grant) : (s.autoMove i g).plan = s.plan := by
  unfold State.autoMove; (repeat' split) <;> simp

@[simp] theorem State.autoMove_table_counts (i : Fin 64) (g : Grant) :
    (s.autoMove i g).table.counts = s.table.counts := by
  unfold State.autoMove; (repeat' split) <;> simp

@[simp] theorem State.autoMove_table_planFrozen (i : Fin 64) (g : Grant) :
    (s.autoMove i g).table.planFrozen = s.table.planFrozen := by
  unfold State.autoMove; (repeat' split) <;> simp

@[simp] theorem State.autoMove_profiles (i : Fin 64) (g : Grant) :
    (s.autoMove i g).profiles = s.profiles := by
  unfold State.autoMove; (repeat' split) <;> simp

@[simp] theorem State.autoMove_pool_startUp (i : Fin 64) (g : Grant) :
    (s.autoMove i g).pool.startUp = s.pool.startUp := by
  unfold State.autoMove; (repeat' split) <;> simp

@[simp] theorem State.autoMove_levels (i : Fin 64) (g : Grant) :
    (s.autoMove i g).levels = s.levels := by
  unfold State.autoMove; (repeat' split) <;> simp

@[simp] theorem State.autoMove_freeCount (i : Fin 64) (g : Grant) :
    (s.autoMove i g).freeCount = s.freeCount := by
  unfold State.autoMove; (repeat' split) <;> simp


/-! ### takeAsk -/

@[simp] theorem State.takeAsk_pending : (s.takeAsk).pending = s.pending := by
  unfold State.takeAsk; (try dsimp only); (repeat' split) <;> simp

@[simp] theorem State.takeAsk_ports_resetHeld :
    (s.takeAsk).ports.resetHeld = s.ports.resetHeld := by
  unfold State.takeAsk; (try dsimp only); (repeat' split) <;> simp

@[simp] theorem State.takeAsk_ports_management :
    (s.takeAsk).ports.management = s.ports.management := by
  unfold State.takeAsk; (try dsimp only); (repeat' split) <;> simp

@[simp] theorem State.takeAsk_ports_tenant : (s.takeAsk).ports.tenant = s.ports.tenant := by
  unfold State.takeAsk; (try dsimp only); (repeat' split) <;> simp

@[simp] theorem State.takeAsk_ports_priority : (s.takeAsk).ports.priority = s.ports.priority := by
  unfold State.takeAsk; (try dsimp only); (repeat' split) <;> simp

@[simp] theorem State.takeAsk_ports_pointer : (s.takeAsk).ports.pointer = s.ports.pointer := by
  unfold State.takeAsk; (try dsimp only); (repeat' split) <;> simp

@[simp] theorem State.takeAsk_ports_mask : (s.takeAsk).ports.mask = s.ports.mask := by
  unfold State.takeAsk; (try dsimp only); (repeat' split) <;> simp

@[simp] theorem State.takeAsk_plan : (s.takeAsk).plan = s.plan := by
  unfold State.takeAsk; (try dsimp only); (repeat' split) <;> simp

@[simp] theorem State.takeAsk_table_counts : (s.takeAsk).table.counts = s.table.counts := by
  unfold State.takeAsk; (try dsimp only); (repeat' split) <;> simp

@[simp] theorem State.takeAsk_table_planFrozen :
    (s.takeAsk).table.planFrozen = s.table.planFrozen := by
  unfold State.takeAsk; (try dsimp only); (repeat' split) <;> simp

@[simp] theorem State.takeAsk_profiles : (s.takeAsk).profiles = s.profiles := by
  unfold State.takeAsk; (try dsimp only); (repeat' split) <;> simp

@[simp] theorem State.takeAsk_pool_startUp : (s.takeAsk).pool.startUp = s.pool.startUp := by
  unfold State.takeAsk; (try dsimp only); (repeat' split) <;> simp

@[simp] theorem State.takeAsk_levels : (s.takeAsk).levels = s.levels := by
  unfold State.takeAsk; (try dsimp only); (repeat' split) <;> simp

@[simp] theorem State.takeAsk_freeCount : (s.takeAsk).freeCount = s.freeCount := by
  unfold State.takeAsk; (try dsimp only); (repeat' split) <;> simp


/-! ### restartEngine -/


/-! ### restartEntry -/

@[simp] theorem State.restartEntry_pending (i : Fin 64) :
    (s.restartEntry i).pending = s.pending := by
  unfold State.restartEntry; (try dsimp only); (repeat' split) <;> simp

@[simp] theorem State.restartEntry_ports (i : Fin 64) : (s.restartEntry i).ports = s.ports := by
  unfold State.restartEntry; (try dsimp only); (repeat' split) <;> simp

@[simp] theorem State.restartEntry_plan (i : Fin 64) : (s.restartEntry i).plan = s.plan := by
  unfold State.restartEntry; (try dsimp only); (repeat' split) <;> simp

@[simp] theorem State.restartEntry_table_planFrozen (i : Fin 64) :
    (s.restartEntry i).table.planFrozen = s.table.planFrozen := by
  unfold State.restartEntry; (try dsimp only); (repeat' split) <;> simp

@[simp] theorem State.restartEntry_pool_startUp (i : Fin 64) :
    (s.restartEntry i).pool.startUp = s.pool.startUp := by
  unfold State.restartEntry; (try dsimp only); (repeat' split) <;> simp

@[simp] theorem State.restartEntry_levels (i : Fin 64) : (s.restartEntry i).levels = s.levels := by
  unfold State.restartEntry; (try dsimp only); (repeat' split) <;> simp

@[simp] theorem State.restartEntry_engine (i : Fin 64) : (s.restartEntry i).engine = s.engine := by
  unfold State.restartEntry; (try dsimp only); (repeat' split) <;> simp

@[simp] theorem State.restartEntry_freeCount (i : Fin 64) :
    (s.restartEntry i).freeCount = s.freeCount := by
  unfold State.restartEntry; (try dsimp only); (repeat' split) <;> simp

end Sys2Proof.Machine
end

