-- ==== Sys2Proof/Laws/Levels.lean ====
section
/-! SUPPORT. What a change of levels can do, said once, the search for the pilot trim, and that the re-evaluation of the
clamp at a load decrease reads and writes no last outcome. -/

namespace Sys2Proof.Machine

/-- A handle that names a grant names it in its entry with the present generation. -/
theorem State.grantOf_some {s : State} {h : Handle} {g : Grant} (e : s.grantOf h = some g) : s.grant? h.entry = some g ∧ (s.entry h.entry).generation = h.generation := by
  simp only [State.grantOf] at e
  split at e <;> simp_all

/-- A change that replaces the level unit and asks each grant for a new record, and touches nothing else, is carried out as
`Releveled` says. -/
theorem applyLevels_releveled (u w : State) (ask : Fin 64 → Grant → Grant)
   (hw : ∀ i, w.entry i = { u.entry i with grant := (u.grant? i).map (ask i) })
   (hp : w.pool = u.pool)
   (rest : w.ports = u.ports ∧ w.plan = u.plan ∧ w.profiles = u.profiles ∧ w.engine = u.engine ∧ w.monitor = u.monitor ∧
    w.table.occupancy = u.table.occupancy ∧ w.table.counts = u.table.counts) :
   Releveled u w.levels ask (applyLevels u w) := by
  have en : ∀ i, (applyLevels u w).entry i = relevelEntry u w i := by
    intro i; simp [State.entry, applyLevels]
  constructor
  case grants =>
    intro i g hg
    simp only [en, relevelEntry, hw i, hg, Option.map]
    simp only [effectiveAt, Option.map, ne_eq, Option.some.injEq]
    by_cases h1 : w.levels.effective (ask i g) = u.levels.effective g
    · simp [h1]
    · have h1' : ¬ u.levels.effective g = w.levels.effective (ask i g) := fun h => h1 h.symm
      rw [if_pos h1']
      simp only [h1, not_false_eq_true, true_and]
      by_cases h2 : (ask i g).state.follows = true
      · simp only [h2, if_true]
        cases hst : (ask i g).state <;> simp [hst, GrantState.follows] at h2 <;> simp [LevelUnit.recount, hst, LevelUnit.loadOf]
      · simp [h2]
  case free =>
    intro i hg
    simp only [en, relevelEntry, hw i, hg, Option.map]
    have : u.grant? i = none := hg
    simp only [State.grant?] at this
    cases h : u.entry i
    simp_all
  case slots => simp [applyLevels, hp]
  case levels => simp only [applyLevels]
  case rest => simp only [applyLevels]; exact rest
  case told =>
    intro j h g hh hg
    have hs : w.slot j = u.slot j := State.slot_congr hp j
    have hsent : (applyLevels u w).pool.sent[j] = u.pool.sent[j] ++ levelMessage u w j := by
      simp [applyLevels, hp]
    have hg' := State.grantOf_some hg
    have hw' : w.grantOf h = some (ask h.entry g) := by
      simp [State.grantOf, State.grant?, hw, hg'.2]
      exact ⟨g, hg'.1, rfl⟩
    have lm : levelMessage u w j = if u.levels.effective g ≠ w.levels.effective (ask h.entry g) then (match (u.slot j).state with
        | .tuning _ => [.level (w.levels.effective (ask h.entry g))]
        | .carrying => [.level (w.levels.effective (ask h.entry g))]
        | _ => []) else [] := by
      simp only [levelMessage, hs, hh, hw', effectiveAt, hg'.1, Option.map, ne_eq, Option.some.injEq] <;>
        rfl
    rw [hsent, lm]
    refine ⟨fun h1 h2 => ?_, fun h1 => ?_⟩
    · rw [if_pos (fun h => h1 h.symm)]
      rcases h2 with h2 | ⟨a, h2⟩ <;> simp [h2]
    · rcases h1 with h1 | h1
      · rw [if_neg (fun h => h h1.symm)]; simp
      · cases hst : (u.slot j).state <;> simp [hst] at h1 ⊢
  case untold =>
    intro j h
    have hs : w.slot j = u.slot j := State.slot_congr hp j
    have hsent : (applyLevels u w).pool.sent[j] = u.pool.sent[j] ++ levelMessage u w j := by
      simp [applyLevels, hp]
    rw [hsent]
    simp only [levelMessage, hs]
    cases hh : (u.slot j).holder with
    | none => simp
    | some k =>
      have : w.grantOf k = none := by
        have h2 := h k
        simp only [hh] at h2
        simp only [State.grantOf, State.grant?, hw] at h2 ⊢
        split
        · rename_i h3
          cases hg : u.grant? k.entry with
          | none => simp only [State.grant?] at hg; simp [hg]
          | some g => exact absurd (by simp [h3]; exact hg) (h2 g trivial)
        · rfl
      simp [this]

/-- The trim found by the search fits, or is 0, and every larger one up to the start of the search does not fit. -/
theorem State.searchTrim_spec (s : State) (n : Nat) :
    s.searchTrim n ≤ n ∧ (s.searchTrim n = 0 ∨ s.fitsAt (byte (s.searchTrim n)) = true) ∧
      ∀ m, s.searchTrim n < m → m ≤ n → s.fitsAt (byte m) = false := by
  induction n with
  | zero => exact ⟨Nat.le_refl _, .inl rfl, fun m h1 h2 => absurd h1 (by simp [State.searchTrim]; omega)⟩
  | succ n ih =>
    unfold State.searchTrim
    split
    · rename_i h
      exact ⟨Nat.le_refl _, .inr h, fun m h1 h2 => absurd h1 (by omega)⟩
    · rename_i h
      refine ⟨Nat.le_succ_of_le ih.1, ih.2.1, fun m h1 h2 => ?_⟩
      by_cases hm : m = n + 1
      · subst hm; simpa using h
      · exact ih.2.2 m h1 (by omega)

/-- A payload of a BUDGET refusal is given exactly when a band would exceed its budget, UP first. -/
theorem State.overBudget_none_iff (s : State) (load : Band → Nat) :
    s.overBudget load = none ↔ ∀ b, load b ≤ s.budget b := by
  unfold State.overBudget
  constructor
  · intro h b
    split at h
    · simp at h
    · split at h
      · simp at h
      · cases b <;> omega
  · intro h
    have h1 := h .up
    have h2 := h .down
    rw [if_neg (by omega), if_neg (by omega)]

/-! ### A last outcome beside the load: writing it commutes with the re-evaluation of the clamp -/

/-- No load reads a last outcome (R123). -/
theorem State.bandLoad_setOutcome (s : State) (i : Fin 64) (o : LastOutcome) (b : Band) :
    (s.setOutcome i o).bandLoad b = s.bandLoad b := by
  simp only [State.bandLoad, State.grant_setOutcome]

/-- The search for the trim reads no last outcome (R133). -/
theorem State.searchTrim_setOutcome (s : State) (i : Fin 64) (o : LastOutcome) (n : Nat) :
    (s.setOutcome i o).searchTrim n = s.searchTrim n := by
  have f : ∀ t, (s.setOutcome i o).fitsAt t = s.fitsAt t := by
    intro t; simp only [State.fitsAt, State.loadAt, State.grant_setOutcome]; rfl
  induction n with
  | zero => rfl
  | succ n ih => simp only [State.searchTrim, f, ih]

/-- Applying a trim to P reads no last outcome and writes none (R121, R128, R133). -/
theorem State.setApplied_setOutcome (s : State) (i : Fin 64) (o : LastOutcome) (t : Byte) :
    (s.setOutcome i o).setApplied t = (s.setApplied t).setOutcome i o := by
  have en : ∀ u k, relevelEntry (s.setOutcome i o) { s.setOutcome i o with levels := u } k =
      { relevelEntry s { s with levels := u } k with
        lastOutcome := if k = i then o else (relevelEntry s { s with levels := u } k).lastOutcome } := by
    intro u k
    have n : ({ s.setOutcome i o with levels := u } : State).entry k = (s.setOutcome i o).entry k := rfl
    have n' : ({ s with levels := u } : State).entry k = s.entry k := rfl
    simp only [relevelEntry, n, n', State.grant_setOutcome, State.entry_setOutcome, State.setOutcome_levels]
    obtain ⟨_, _, _, g⟩ := s.entry k
    cases g with
    | none => rfl
    | some g => simp only; split <;> rfl
  have ms : ∀ u j, levelMessage (s.setOutcome i o) { s.setOutcome i o with levels := u } j =
      levelMessage s { s with levels := u } j := by
    intro u j
    have n : ∀ h,
        ({ s.setOutcome i o with levels := u } : State).grantOf h = ({ s with levels := u } : State).grantOf h := by
      intro h
      show (if ((s.setOutcome i o).entry h.entry).generation = h.generation then (s.setOutcome i o).grant? h.entry
        else none) = _
      rw [State.grant_setOutcome, State.entry_setOutcome]
      rfl
    have n' : ({ s.setOutcome i o with levels := u } : State).slot j = s.slot j := rfl
    have n'' : ({ s with levels := u } : State).slot j = s.slot j := rfl
    simp only [levelMessage, n, n', n'', State.grant_setOutcome, State.setOutcome_levels]
  apply State.ext_entries
  · intro k
    rw [State.entry_setOutcome]
    have a : ∀ s' : State, (s'.setApplied t).entry k =
        relevelEntry s' { s' with levels := { s'.levels with pilot := { s'.levels.pilot with applied := t } } } k := by
      intro s'
      simp [State.setApplied, applyLevels, State.entry]
    rw [a, a]
    exact en _ k
  · simp only [State.setApplied, applyLevels]
    simp only [State.setOutcome_levels, ms]
    rfl

/-- The re-evaluation of the clamp at a load decrease reads no last outcome and writes none (R126, R134). -/
theorem noteLoad_setOutcome (s v : State) (i : Fin 64) (o : LastOutcome) :
    noteLoad s (v.setOutcome i o) = (noteLoad s v).setOutcome i o := by
  have h : lowersLoad s (v.setOutcome i o) = lowersLoad s v := by simp only [lowersLoad, State.bandLoad_setOutcome]
  have t : (v.setOutcome i o).trackPilot = v.trackPilot.setOutcome i o := by
    simp only [State.trackPilot, State.searchTrim_setOutcome, State.setApplied_setOutcome]; rfl
  simp only [noteLoad, h, State.loadDecreased, t]
  split
  · show (if v.levels.pilot.clamped = true then _ else _) = _
    split <;> rfl
  · rfl
end Sys2Proof.Machine
end

