-- ==== Sys2Proof/Laws/PerInstr.lean ====
section
/-! SUPPORT. The family of statements made for every command: no word of the table's bits spells it, since the table gives
no row any bits. -/

namespace Sys2Proof.Laws.NoWord

/-- No word decodes to the command. -/
def Statement (i : Instr) : Prop := ∀ nbits w : Nat, decodeTableWord nbits w ≠ some i

/-- A decoder that answers none answers no command. -/
theorem of_none (i : Instr) : Statement i := fun _ _ h => nomatch h

theorem writeRequest (port : Port) (part : WritePart) : Statement (.writeRequest port part) := of_none _

theorem writeRequestPriority (port : Port) (part : WritePart) : Statement (.writeRequestPriority port part) := of_none _

theorem readResponse (port : Port) (part : ReadPart) : Statement (.readResponse port part) := of_none _

theorem readStatus (port : Port) (part : ReadPart) : Statement (.readStatus port part) := of_none _

theorem otherCommandByte (port : Port) (command : Byte) (part : ReadPart) :
    Statement (.otherCommandByte port command part) := of_none _

theorem badRequestFrame : Statement (.badRequestFrame) := of_none _

theorem notReadyAnswer : Statement (.notReadyAnswer) := of_none _

theorem stageRegion : Statement (.stageRegion) := of_none _

theorem discardStaged : Statement (.discardStaged) := of_none _

theorem freezeRegion : Statement (.freezeRegion) := of_none _

theorem readRegion : Statement (.readRegion) := of_none _

theorem setGuard : Statement (.setGuard) := of_none _

theorem setTenant : Statement (.setTenant) := of_none _

theorem readTenant : Statement (.readTenant) := of_none _

theorem setPlanSettings : Statement (.setPlanSettings) := of_none _

theorem readSettings : Statement (.readSettings) := of_none _

theorem reserve : Statement (.reserve) := of_none _

theorem lookup : Statement (.lookup) := of_none _

theorem find : Statement (.find) := of_none _

theorem listOwn : Statement (.listOwn) := of_none _

theorem listBand : Statement (.listBand) := of_none _

theorem activate : Statement (.activate) := of_none _

theorem renew : Statement (.renew) := of_none _

theorem withdraw : Statement (.withdraw) := of_none _

theorem revoke : Statement (.revoke) := of_none _

theorem hold : Statement (.hold) := of_none _

theorem unhold : Statement (.unhold) := of_none _

theorem pin : Statement (.pin) := of_none _

theorem freezePlan : Statement (.freezePlan) := of_none _

theorem writeProfile : Statement (.writeProfile) := of_none _

theorem clearProfile : Statement (.clearProfile) := of_none _

theorem readProfile : Statement (.readProfile) := of_none _

theorem readSlot : Statement (.readSlot) := of_none _

theorem setLevel : Statement (.setLevel) := of_none _

theorem assignGroup : Statement (.assignGroup) := of_none _

theorem setGroup : Statement (.setGroup) := of_none _

theorem setBudget : Statement (.setBudget) := of_none _

theorem readLevels : Statement (.readLevels) := of_none _

theorem move : Statement (.move) := of_none _

theorem repack : Statement (.repack) := of_none _

theorem stopRepack : Statement (.stopRepack) := of_none _

theorem setWatch : Statement (.setWatch) := of_none _

theorem clearWatch : Statement (.clearWatch) := of_none _

theorem readWatch : Statement (.readWatch) := of_none _

theorem setSweep : Statement (.setSweep) := of_none _

theorem sweep : Statement (.sweep) := of_none _

theorem readResults : Statement (.readResults) := of_none _

theorem readHits : Statement (.readHits) := of_none _

theorem clearHits : Statement (.clearHits) := of_none _

theorem readEvents : Statement (.readEvents) := of_none _

theorem setEventMask : Statement (.setEventMask) := of_none _

theorem readNews : Statement (.readNews) := of_none _

theorem status : Statement (.status) := of_none _

theorem restart : Statement (.restart) := of_none _

theorem holdTimerExpiry (entry : Fin 64) : Statement (.holdTimerExpiry entry) := of_none _

theorem leaseExpiry (entry : Fin 64) : Statement (.leaseExpiry entry) := of_none _

theorem drainTimerExpiry (entry : Fin 64) : Statement (.drainTimerExpiry entry) := of_none _

theorem quietTimerExpiry (entry : Fin 64) : Statement (.quietTimerExpiry entry) := of_none _

theorem lockTimeout (band : Band) (number : Nat) : Statement (.lockTimeout band number) := of_none _

theorem settleTimerExpiry (profile : Fin 8) : Statement (.settleTimerExpiry profile) := of_none _

theorem periodTimerExpiry : Statement (.periodTimerExpiry) := of_none _

theorem senseTimeout : Statement (.senseTimeout) := of_none _

theorem pilotReading (value : Byte) : Statement (.pilotReading value) := of_none _

theorem locked (band : Band) (number : Nat) : Statement (.locked band number) := of_none _

theorem failed (band : Band) (number : Nat) : Statement (.failed band number) := of_none _

theorem lost (band : Band) (number : Nat) : Statement (.lost band number) := of_none _

theorem reading (tag : Byte) (value : Byte) : Statement (.reading tag value) := of_none _

theorem automaticMove : Statement (.automaticMove) := of_none _

theorem coldReset : Statement (.coldReset) := of_none _

theorem resetNRelease : Statement (.resetNRelease) := of_none _

end Sys2Proof.Laws.NoWord
end

