-- ==== Sys2Proof/Laws/Requests.lean ====
section
/-! SUPPORT. What the release of select does, and what taking a frame can do: the one lemma about `serve`, its use under
`Takes`, and the passage of each shared check. -/

namespace Sys2Proof.Machine

/-- The release of select on a port whose transaction has no command byte yet ends it, whatever bytes are given with it. -/
theorem State.release_selected {s : State} {p : Port} (hr : s.ports.resetHeld = false)
    (h : (s.port p).progress = some .selected) (f : Frame) :
    s.release p f = s.setPort p { s.port p with progress := none } := by
  simp [State.release, hr, State.endWrite, h, State.returns]

/-- The release of select on a port without a transaction, and with no byte received, changes nothing. -/
theorem State.release_idle {s : State} {p : Port} (h : (s.port p).progress = none) : s.release p [] = s := by
  have e : s.silentBytes p 0 = s := by
    unfold State.silentBytes
    rw [List.replicate_zero, List.append_nil]
    exact s.setPort_self p
  have w : s.endWrite p [] = s := by simp only [State.endWrite, h]
  rw [State.release, w, List.length_nil, e, ite_self]

/-- A request row either finds no frame of its own and changes nothing, or answers the frame the request unit takes. -/
theorem State.serve_cases (s : State) (row : Instr) (handler : Handler) :
    s.serve row handler = s ∨
      ∃ src f, s.nextFrame = some (src, f) ∧ s.rowOf src f = row ∧ s.serve row handler = s.answer handler src f := by
  unfold State.serve
  split
  · exact .inl rfl
  · rename_i src f h
    split
    · rename_i hr
      exact .inr ⟨src, f, h, hr, rfl⟩
    · exact .inl rfl

/-- A frame in good form is the row of its request once start-up is over. -/
theorem State.rowOf_takes {s : State} {src : Source} {f : Frame} {row : Instr} (h : Takes s src f row) :
    s.rowOf src f = row := by
  simp [State.rowOf, h.ready, h.form]

/-- A frame that the request unit takes is answered by its handler. -/
theorem State.serve_takes {s : State} {src : Source} {f : Frame} {row : Instr} (h : Takes s src f row)
    (handler : Handler) : s.serve row handler = s.answer handler src f := by
  simp [State.serve, h.frame, State.rowOf_takes h]

/-- The state after an answer, from what the handler gives. -/
theorem State.answer_eq {s : State} {src : Source} {f : Frame} {handler : Handler} {t : State} {code : ResultCode}
    {payload : List Byte} (h : handler (requestOf src.port f) (s.taken src) = (t, ⟨code, payload⟩)) :
    s.answer handler src f = s.answered src f t code payload := by
  simp [State.answer, State.answered, h]

/-- A request row does what its handler gives. -/
theorem State.serve_answered {s : State} {src : Source} {f : Frame} {row : Instr} {handler : Handler} {t : State}
    {code : ResultCode} {payload : List Byte} (h : Takes s src f row)
    (g : handler (requestOf src.port f) (s.taken src) = (t, ⟨code, payload⟩)) :
    s.serve row handler = s.answered src f t code payload := by
  rw [State.serve_takes h, State.answer_eq g]

/-- What carrying out a request row comes to, from what its handler gives; `hexec` is `rfl` for every request row. -/
theorem does_of_handler {s : State} {src : Source} {f : Frame} {row : Instr} {handler : Handler} {t : State}
    {code : ResultCode} {payload : List Byte} (h : Takes s src f row) (hexec : exec row s = .next (s.serve row handler))
    (g : handler (requestOf src.port f) (s.taken src) = (t, ⟨code, payload⟩)) : Does row s src f t code payload := by
  rw [Does, hexec, State.serve_answered h g]

@[simp] theorem requestOf_port (p : Port) (f : Frame) : (requestOf p f).port = p := rfl

/-- The checks of a management request pass at the management port with its fields in range. -/
theorem managementRequest_pass {r : Req} {s : State} {inRange : Bool} {pass : State × Reply}
    (hp : r.port = .management) (h : inRange = true) : managementRequest r s inRange pass = pass := by
  simp [managementRequest, managementOnly, hp, h]

/-- The checks of a management request refuse it at the tenant port. -/
theorem managementRequest_tenant {r : Req} {s : State} {pass : State × Reply} (hp : r.port = .tenant) :
    managementRequest r s true pass = refuse s .notPermitted := by
  simp [managementRequest, managementOnly, hp]

/-- Management, and an enabled tenant, pass step 3. -/
theorem enabledTenant_pass {r : Req} {s : State} {pass : State × Reply}
    (h : r.port = .management ∨ s.tenantEnabled r.tenant = true) : enabledTenant r s pass = pass := by
  rcases h with h | h <;> simp [enabledTenant, h]

/-- An entry byte in range names its entry. -/
theorem Req.entry_eq {r : Req} {k : Nat} {i : Fin 64} (h : r.byte k = i.val) : r.entry k = some i := by
  have hi := i.isLt
  simp [Req.entry, h]

/-- A current handle names its grant. -/
theorem currentHandle_pass {r : Req} {s : State} {i : Fin 64} {g : Grant} {pass : Grant → State × Reply}
    (h : Names r s i g) : currentHandle r s ⟨i, r.generation 1⟩ pass = pass g := by
  simp [currentHandle, State.grantOf, h.generation, h.grant]

/-- Steps 1 to 5 pass for a sender who may act on the grant it names. -/
theorem ownHandle_pass {r : Req} {s : State} {i : Fin 64} {g : Grant} {inRange : Bool}
    {pass : Fin 64 → Grant → State × Reply} (h : Names r s i g) (m : MayAct r s i) (hr : inRange = true) :
    ownHandle r s inRange pass = pass i g := by
  have hm : r.port = .management ∨ s.tenantEnabled r.tenant = true := m.imp id And.left
  have ho : owned r s i (pass i g) = pass i g := by
    rcases m with m | m <;> simp [owned, m]
  simp [ownHandle, Req.entry_eq h.entry, hr, enabledTenant_pass hm, currentHandle_pass h, ho]

/-- Steps 1, 2 and 4 pass at the management port with a current handle. -/
theorem managementHandle_pass {r : Req} {s : State} {i : Fin 64} {g : Grant} {inRange : Bool}
    {pass : Fin 64 → Grant → State × Reply} (h : Names r s i g) (hp : r.port = .management) (hr : inRange = true) :
    managementHandle r s inRange pass = pass i g := by
  simp [managementHandle, Req.entry_eq h.entry, managementRequest_pass hp hr, currentHandle_pass h]

end Sys2Proof.Machine
end

