-- ==== Sys2Proof/Laws/Search.lean ====
section
/-! SUPPORT. What the searches for a start do: the present regions of a plan, the lowest start of a range at which a test
has an outcome, and the start to which a repack step can lower a grant. -/

namespace Sys2Proof.Machine

/-- The present regions of a plan are its records, each with its index. -/
theorem Plan.mem_present_iff (p : Plan) (k : Nat) (x : Region) :
    (k, x) ∈ p.present ↔ ∃ j : Fin 8, j.val = k ∧ p[j] = some x := by
  unfold Plan.present
  simp only [List.mem_filterMap, Prod.exists]
  constructor
  · rintro ⟨a, i, hm, h⟩
    rw [List.mem_zipIdx_iff_getElem?] at hm
    cases a with
    | none => simp at h
    | some r =>
      simp at h
      obtain ⟨rfl, rfl⟩ := h
      by_cases h8 : i < 8
      · simp [h8] at hm
        exact ⟨⟨i, h8⟩, rfl, hm⟩
      · simp [h8] at hm
  · rintro ⟨j, rfl, h⟩
    refine ⟨some x, j.val, ?_, by simp⟩
    rw [List.mem_zipIdx_iff_getElem?]
    have := j.2
    simpa using h

/-- The candidate regions of a band and a class. -/
theorem Plan.mem_candidates_iff (p : Plan) (b : Band) (c : Cls) (x : Region) :
    x ∈ p.candidates b c ↔ ∃ k : Fin 8, p[k] = some x ∧ x.band = b ∧ x.classes.has c = true := by
  unfold Plan.candidates
  simp only [List.mem_filter, List.mem_map, Prod.exists]
  constructor
  · rintro ⟨⟨k, y, hm, rfl⟩, h⟩
    obtain ⟨j, _, hj⟩ := (Plan.mem_present_iff ..).1 hm
    exact ⟨j, hj, by simpa using h⟩
  · rintro ⟨k, hk, h⟩
    exact ⟨⟨k.val, x, (Plan.mem_present_iff ..).2 ⟨k, rfl, hk⟩, rfl⟩, by simpa using h⟩

/-- The region found for a cell holds it. -/
theorem Plan.holds_of_regionAt {p : Plan} {b : Band} {c : Nat} {y : Nat × Region} (h : p.regionAt b c = some y) :
    y.2.band = b ∧ y.2.first ≤ c ∧ c ≤ y.2.last := by
  simpa [Region.holdsCell, and_assoc] using List.find?_some h

/-- The lowest of `n` starts from `start` on is the first at which the test gives the outcome. -/
theorem Site.lowest_eq_some_iff (x : Site) (want : Placed) (n start m : Nat) :
    x.lowest want n start = some m ↔
      start ≤ m ∧ m < start + n ∧ x.test m = want ∧ ∀ k, start ≤ k → k < m → x.test k ≠ want := by
  induction n generalizing start with
  | zero =>
    simp [Site.lowest]
    omega
  | succ n ih =>
    unfold Site.lowest
    split
    · rename_i h
      constructor
      · rintro ⟨⟩
        exact ⟨Nat.le_refl _, by omega, h, fun k a b => by omega⟩
      · rintro ⟨a, b, c, d⟩
        rcases Nat.eq_or_lt_of_le a with rfl | hl
        · rfl
        · exact absurd h (d start (Nat.le_refl _) hl)
    · rename_i h
      rw [ih]
      constructor
      · rintro ⟨a, b, c, d⟩
        refine ⟨by omega, by omega, c, fun k hk hkm => ?_⟩
        rcases Nat.eq_or_lt_of_le hk with rfl | hl
        · exact h
        · exact d k hl hkm
      · rintro ⟨a, b, c, d⟩
        have : start ≠ m := by
          rintro rfl
          exact h c
        exact ⟨by omega, by omega, c, fun k hk => d k (by omega)⟩

/-- The lower start of a grant: the lowest legal one in its own region, unfrozen, below where it stands. -/
theorem State.lowerStart_eq_some_iff (s : State) (g : Grant) (n : Nat) :
    s.lowerStart g = some n ↔
      ∃ k x, s.plan.active.regionAt g.band g.start = some (k, x) ∧ x.frozen = false ∧ x.first ≤ n ∧
        n + g.width ≤ x.last + 1 ∧ n < g.start ∧ (s.moveSite g).test n = .legal ∧
        ∀ m, x.first ≤ m → m < n → (s.moveSite g).test m ≠ .legal := by
  unfold State.lowerStart
  cases h : s.plan.active.regionAt g.band g.start with
  | none => simp
  | some y =>
    obtain ⟨k, x⟩ := y
    have hx := Plan.holds_of_regionAt h
    simp only at hx ⊢
    by_cases hf : x.frozen = true
    · simp [hf]
    · rw [if_neg hf]
      simp only [Site.lowest_eq_some_iff, Region.starts, Region.size]
      constructor
      · rintro ⟨a, b, c, d⟩
        exact ⟨k, x, rfl, by simpa using hf, a, by omega, by omega, c, d⟩
      · rintro ⟨k', x', e, _, a, b, b', c, d⟩
        cases e
        exact ⟨a, by omega, c, d⟩

end Sys2Proof.Machine
end

