-- ==== Sys2Proof/Laws/Spans.lean ====
section
/-! SUPPORT. What a change of a grant's current span does (R149), what moving a RESERVED grant at once does (R140), what
the beginning and the failure of an attempt do beside the slot (R109, R111), and what the start of a move does (R141). -/

namespace Sys2Proof.Machine

variable (s : State)

/-- A watch names a handle exactly when the handle is its target. -/
theorem Watch.names_iff (w : Watch) (h : Handle) : w.names h = true ↔ w.target = .grant h := by
  unfold Watch.names
  cases w.target <;> simp

/-- A change applied to every watch, position by position. -/
theorem Monitor.position_mapWatches (m : Monitor) (f : Watch → Watch) (n : Fin 32) :
    (m.mapWatches f).position n =
      match m.position n with
      | .watch w => .watch (f w)
      | p => p := by
  simp only [Monitor.mapWatches, Monitor.position, Fin.getElem_fin, Vector.getElem_ofFn] <;>
    cases m.positions[n.val] <;> rfl

/-- Making a measurement void leaves the positions. -/
theorem Monitor.position_voidFor (m : Monitor) (h : Handle) (n : Fin 32) : (m.voidFor h).position n = m.position n := rfl

/-- A span that changes is handed over to the monitor and to the pending asks. -/
theorem State.relocate_handsOver {i : Fin 64} {g : Grant} (hg : s.grant? i = some g) (n : Nat) :
    SpanHandedOver s (s.relocate i n) (s.handleOf i) := by
  have hm : (s.relocate i n).monitor = s.monitor.resetConditions (s.handleOf i) := by
    simp [State.relocate, hg, State.withMonitor]
  have hp : ∀ k, (s.relocate i n).monitor.position k =
      match s.monitor.position k with
      | .watch w => .watch (if w.names (s.handleOf i) then { w with condition := false } else w)
      | p => p := by
    intro k
    rw [hm, Monitor.resetConditions, Monitor.position_voidFor, Monitor.position_mapWatches]
  constructor
  · intro k w h
    simp only [hp, h, Watch.names_iff]
  · intro k h
    rw [hp]
    split
    · rename_i w hw; exact absurd hw (h w)
    · rfl
  · rw [hm]; simp only [Monitor.resetConditions, Monitor.voidFor, Monitor.mapWatches]
  · rw [hm]; simp only [Monitor.resetConditions, Monitor.voidFor, Monitor.mapWatches]
  · simp [State.relocate, hg, State.withMonitor, MoveEngine.markAsks]

/-- The record of a grant whose span has changed. -/
theorem State.entry_relocate_same {i : Fin 64} {g : Grant} (hg : s.grant? i = some g) (n : Nat) :
    (s.relocate i n).entry i = { s.entry i with grant := some { g with start := n, impairing := 0 } } := by
  rw [← State.entry_modGrant_same s hg fun g => { g with start := n, impairing := 0 }]
  apply State.entry_congr
  simp [State.relocate, hg]

/-- A change of span leaves every other entry. -/
theorem EntriesKept.relocate (i : Fin 64) (n : Nat) : EntriesKept s (s.relocate i n) [i] := by
  unfold State.relocate
  cases hg : s.grant? i with
  | none => exact EntriesKept.refl _
  | some g =>
    refine (EntriesKept.modGrant s i fun g => { g with start := n, impairing := 0 }).twice ?_
    exact EntriesKept.of_entries (by simp) _

/-- The value put for a band is the value got. -/
theorem PerBand.get_put {α : Type} (p : PerBand α) (b : Band) (v : α) : (p.put b v).get b = v := by cases b <;> rfl

/-- The other band's value stays. -/
theorem PerBand.get_put_ne {α : Type} (p : PerBand α) {b c : Band} (h : c ≠ b) (v : α) : (p.put b v).get c = p.get c := by
  cases b <;> cases c <;> first | rfl | exact absurd rfl h

/-- The items of both bands after a change of span. -/
theorem State.occupancy_relocate {i : Fin 64} {g : Grant} (hg : s.grant? i = some g) (n : Nat) :
    (s.relocate i n).occupancy g.band =
        insertItem { handle := s.handleOf i, start := n, width := g.width } (removeItem i (s.occupancy g.band)) ∧
      ∀ b, b ≠ g.band → (s.relocate i n).occupancy b = s.occupancy b := by
  have h : (s.relocate i n).table.occupancy = s.table.occupancy.put g.band
      (insertItem { handle := s.handleOf i, start := n, width := g.width } (removeItem i (s.occupancy g.band))) := by
    simp [State.relocate, hg, State.withMonitor, State.setOccupancy, State.occupancy]
  exact ⟨by rw [State.occupancy, h, PerBand.get_put], fun b hb => by rw [State.occupancy, h, PerBand.get_put_ne _ hb]; rfl⟩

/-- A RESERVED grant that is moved at once. -/
theorem State.moveReserved_spec {i : Fin 64} {g : Grant} (hg : s.grant? i = some g) (n : Nat) (byTenant : Bool) :
    MovedAtOnce s (s.moveReserved i n byTenant) i g n (!byTenant) := by
  have h1 : (s.setOutcome i .moved).grant? i = some g := by rw [State.grant_setOutcome]; exact hg
  have he := State.entry_modGrant_same _ h1 (·.withNews byTenant)
  rw [State.entry_setOutcome_same] at he
  have hg2 : ((s.setOutcome i .moved).modGrant i (·.withNews byTenant)).grant? i = some (g.withNews byTenant) := by
    rw [State.grant?, he]
  have hh : ((s.setOutcome i .moved).modGrant i (·.withNews byTenant)).handleOf i = s.handleOf i := by
    rw [State.handleOf, he]; rfl
  have hr := State.relocate_handsOver _ hg2 n
  have ho := State.occupancy_relocate _ hg2 n
  rw [hh] at hr ho
  have oc : ∀ b, ((s.setOutcome i .moved).modGrant i (·.withNews byTenant)).occupancy b = s.occupancy b := by
    intro b; simp [State.occupancy]
  exact
    { entry := by
        rw [State.moveReserved, State.entry_relocate_same _ hg2, he]; rfl
      item := by rw [← oc]; exact ho.1
      otherBand := fun b hb => by rw [← oc b]; exact ho.2 b hb
      span :=
        { watches := by simpa [State.moveReserved] using hr.watches
          others := by simpa [State.moveReserved] using hr.others
          inFlight := by simpa [State.moveReserved] using hr.inFlight
          monitor := by simpa [State.moveReserved] using hr.monitor
          asks := by simpa [State.moveReserved] using hr.asks }
      others := ((EntriesKept.setEntry s i _).twice (EntriesKept.modGrant _ i _)).twice (EntriesKept.relocate _ i n)
      rest := by simp [State.moveReserved] }

/-! ### Attempts begun and failed: all that changes (R109, R111 to R113) -/

/-- An attempt that begins on a slot that is not RETIRED, with a change to its grant's record: the slot, the record, and
nothing else (R109, R112, R147). -/
theorem State.beginAttempt_modGrant_spec (v : State) {i : Fin 64} {g : Grant} (hg : v.grant? i = some g) {k : SlotId}
    (hk : (v.slot k).state ≠ .retired) (c : Caller) (second : Bool) (start : Nat) (f : Grant → Grant) :
    let t := (v.beginAttempt k i c second start).modGrant i f
    SlotSent v t k
        { v.slot k with
          state := .tuning { caller := c, second, timeout := Config.lockTimeout }, holder := some (v.handleOf i) }
      (.tune g.band start g.width (v.profile g.profile).order (v.levels.effective g)) ∧ SlotsKept v t [k] ∧
    t.entry i = { v.entry i with grant := some (f g) } ∧ EntriesKept v t [i] ∧ SurroundingsKept v t ∧ t.ports = v.ports := by
  obtain ⟨⟨a1, a2⟩, b⟩ := State.beginAttempt_spec v hg hk c second start
  have hc : ∀ i', (v.beginAttempt k i c second start).entry i' = v.entry i' := fun i' => State.entry_congr (by simp) i'
  have hgb : (v.beginAttempt k i c second start).grant? i = some g := by rw [State.grant?, hc]; exact hg
  refine ⟨⟨?_, ?_⟩, fun j hj => ⟨?_, ?_⟩, ?_, ?_, ?_, ?_⟩
  · rw [State.slot_congr (State.modGrant_pool _ _ _), a1]
  · rw [State.modGrant_pool, a2]
  · rw [State.slot_congr (State.modGrant_pool _ _ _), (b j hj).1]
  · rw [State.modGrant_pool, (b j hj).2]
  · rw [State.entry_modGrant_same _ hgb, hc]
  · intro i' hi'; rw [State.entry_modGrant_ne _ (by simpa using hi'), hc]
  · constructor <;> simp
  · simp

/-- What a failure on a slot does beside the slot: SLOT_RETIRED when the fail count reaches 3, and nothing else (R111,
R113). -/
theorem State.failSlot_around (s : State) (j : SlotId) :
    SurroundingsKept s (s.failSlot j) ∧ (s.failSlot j).table = s.table ∧
      (s.failSlot j).ports = if (s.slot j).fails + 1 < 3 then s.ports else (s.raise .slotRetired).ports := by
  have hp : (s.failSlot j).ports = if (s.slot j).fails + 1 < 3 then s.ports else (s.raise .slotRetired).ports := by
    unfold State.failSlot State.retireSlot Config.retireCount
    by_cases h : (s.slot j).fails + 1 < 3
    · simp [h, show ¬3 ≤ (s.slot j).fails + 1 by omega]
    · simp [h, show 3 ≤ (s.slot j).fails + 1 by omega]
      rfl
  refine ⟨?_, by simp, hp⟩
  constructor <;> try simp
  rw [hp]
  split <;> rfl

/-! ### The start of a move (R141) -/

/-- A move that starts on a slot that is not RETIRED. -/
theorem State.beginMove_spec {i : Fin 64} {g : Grant} (hg : s.grant? i = some g) (target : Nat) (kind : MoveKind)
    (origin : MoveOrigin) {j : SlotId} (hj : (s.slot j).state ≠ .retired) (byTenant : Bool) :
    MoveStarted s (s.beginMove i target kind origin j byTenant) i g
      { target, kind, origin, phase := .targetTuning, second := if kind = .seamless then some j else none } j
      (!byTenant) := by
  let m : MoveContext :=
    { target, kind, origin, phase := .targetTuning, second := if kind = .seamless then some j else none }
  let g1 : Grant := Grant.withNews { g with state := .moving, move := some m } byTenant
  let s1 := s.modGrant i fun g => Grant.withNews { g with state := .moving, move := some m } byTenant
  let s2 := s1.beginAttempt j i .moveTarget false target
  have e1 : s1.entry i = { s.entry i with grant := some g1 } := State.entry_modGrant_same s hg _
  have hg1 : s1.grant? i = some g1 := by rw [State.grant?, e1]
  have hj1 : (s1.slot j).state ≠ .retired := by simpa [s1, State.slot] using hj
  have sp := State.beginAttempt_spec s1 hg1 hj1 .moveTarget false target
  have e2 : ∀ k, s2.entry k = s1.entry k := fun k => State.entry_congr (by simp [s2]) k
  have hg2 : s2.grant? i = some g1 := by rw [State.grant?, e2]; exact hg1
  have hl : s2.levels = s.levels := by simp [s2, s1]
  have hd : s.beginMove i target kind origin j byTenant = s2.recount i := rfl
  rw [hd]
  have hr : s2.recount i = s2.modGrant i s2.levels.recount := rfl
  have hh : s1.handleOf i = s.handleOf i := by rw [State.handleOf, e1]; rfl
  have hc : g1.copies = if kind = .seamless then 2 else 1 := rfl
  have hf : s.levels.effective g1 = s.levels.effective g := rfl
  refine
    { entry := ?_, slot := ?_, entries := ?_, slots := ?_, around := ?_, rest := ?_ }
  · rw [hr, State.entry_modGrant_same _ hg2, e2, e1, hl, LevelUnit.recount_follows _ rfl, hc, hf]
    rfl
  · have := sp.1
    refine ⟨?_, ?_⟩
    · rw [hr, State.slot_congr (s := s2) (by simp) j, this.1, hh, State.slot_congr (s := s) (t := s1) (by simp [s1]) j]
      rfl
    · rw [hr]
      have h2 : (s2.modGrant i s2.levels.recount).pool = s2.pool := by simp
      rw [h2, this.2]
      have : s1.levels = s.levels ∧ s1.profiles = s.profiles ∧ s1.pool = s.pool := by simp [s1]
      simp only [this, State.profile]
      rfl
  · rw [hr]
    exact (EntriesKept.modGrant s i _).twice ((EntriesKept.of_entries (t := s2) (s := s1) (by simp [s2]) [i]).twice
      (EntriesKept.modGrant s2 i _))
  · rw [hr]
    intro k hk
    have h1 := sp.2 k hk
    have h2 : (s2.modGrant i s2.levels.recount).pool = s2.pool := by simp
    have h3 : s1.pool = s.pool := by simp [s1]
    refine ⟨?_, ?_⟩
    · rw [State.slot_congr h2 k, h1.1, State.slot_congr h3 k]
    · rw [h2, h1.2, h3]
  · rw [hr]
    constructor <;> simp [s2, s1]
  · rw [hr]; simp [s2, s1]

end Sys2Proof.Machine
end

