-- ==== Sys2Proof/Laws/Transactions.lean ====
section
/-! SUPPORT. The rows that transactions are: which bytes are no known command byte, and that every transaction received on a
port is a well-formed command. -/

namespace Sys2Proof

/-- A byte asks for nothing exactly when it is none of the four command bytes. -/
theorem otherCommand_iff (c : Byte) : otherCommand c = true ↔ c ≠ 1 ∧ c ≠ 129 ∧ c ≠ 2 ∧ c ≠ 3 := by
  revert c
  decide +kernel

/-- Every whole transaction is a well-formed command. -/
theorem Instr.wellFormed_ofTransaction (p : Port) (c : Byte) (later : List Byte) :
    (Instr.ofTransaction p c later).wellFormed = true := by
  unfold Instr.ofTransaction
  split <;> simp_all [Instr.wellFormed, otherCommand]

/-- Every arrival of a command byte is a well-formed command. -/
theorem Instr.wellFormed_ofCommandByte (p : Port) (c : Byte) (n : Nat) : (Instr.ofCommandByte p c n).wellFormed = true := by
  unfold Instr.ofCommandByte
  split <;> simp_all [Instr.wellFormed, otherCommand]

end Sys2Proof
end

