-- ==== Sys2Proof/Tests/Slice0.lean ====
section
/-! SUPPORT. Small tests on fixed states: the ill-formed terms that the checks refuse, and for every statement a state and
operands that meet its hypotheses, with what the model answers there. A request is put in the empty queue of its port on
a small state, taken, and its response read. -/

namespace Sys2Proof.Tests

open Sys2Proof.Machine
set_option Elab.async false

/-! ### Well-formedness -/

theorem test_wf_other_command_bytes :
    ([0, 1, 2, 3, 4, 128, 129, 130, 255].map fun n => (Instr.otherCommandByte .tenant (byte n) (.whole 2)).wellFormed) =
      [true, false, false, false, true, true, false, true, true] := by decide

theorem test_wf_lock_timeout : (Instr.lockTimeout .up 16).wellFormed = false := by decide

theorem test_wf_locked : (Instr.locked .down 32).wellFormed = false := by decide

theorem test_wf_failed : (Instr.failed .up 300).wellFormed = false := by decide

theorem test_wf_lost : (Instr.lost .down 33).wellFormed = false := by decide

theorem test_wf_last_slots :
    ((Instr.locked .up 15).wellFormed && (Instr.failed .down 31).wellFormed && (Instr.lost .up 0).wellFormed) = true := by
  decide

theorem test_command_bytes :
    ([1, 129, 2, 3, 0, 128].map fun c => Instr.ofTransaction .tenant c [7, 9]) =
        [.writeRequest .tenant (.whole [7, 9]), .writeRequestPriority .tenant (.whole [7, 9]),
          .readResponse .tenant (.whole 2), .readStatus .tenant (.whole 2), .otherCommandByte .tenant 0 (.whole 2),
          .otherCommandByte .tenant 128 (.whole 2)] ∧
      ([1, 129, 2, 3, 4].map fun c => Instr.ofCommandByte .management c 1) =
        [.writeRequest .management .command, .writeRequestPriority .management .command,
          .readResponse .management (.rest 1), .readStatus .management (.rest 1),
          .otherCommandByte .management 4 (.rest 1)] := by decide

theorem test_no_word_decodes : decodeTableWord 8 1 = none := rfl

theorem test_fetch_word_leaves_state : State.reset.withFetchWord 16 513 = State.reset := rfl

/-! ### Small states -/

/-- The part after start-up with every slot IDLE. -/
def ready : State :=
  { State.reset with
    pool :=
      { slots := Vector.replicate 48 { state := .idle, fails := 0, holder := none }
        sent := Vector.replicate 48 [], startUp := false } }

/-- A RESERVED upstream DATA grant of 4 cells from cell 20, at the full level. -/
def reservedGrant : Grant :=
  { state := .reserved, cls := .data, band := .up, start := 20, payload := 4, profile := 0, width := 4, hold := .opened,
    fixed := false, level := 255, group := .none, impairing := 0, news := false, lease := some 100, leaseMs := 0,
    holdTime := some 30, holdMs := 0, phaseTimer := none, slot := none, move := none, counted := 0 }

/-- The same grant LIVE on slot U0. -/
def liveGrant : Grant := { reservedGrant with state := .live, holdTime := none, slot := some 0, counted := 16 }

/-- The same grant MOVING seamlessly to cell 12 with its second slot U1. -/
def movingGrant : Grant :=
  { liveGrant with
    state := .moving, counted := 32,
    move := some
      { target := 12, kind := .seamless, origin := .request, phase := .targetTuning, second := some 1 } }

/-- A state in which entry 5, generation 3, holds a grant of a tenant. -/
def holding (g : Grant) (tenant : Fin 16) : State :=
  let s := ready.setEntry 5 { generation := 3, tenant, lastOutcome := .none, grant := some g }
  let s := s.setOccupancy g.band [{ handle := ⟨5, 3⟩, start := g.start, width := g.width }]
  (s.changeCount tenant.val (· + 1)).changeReferences g.profile (· + 1)

/-- Gives a slot a state and entry 5 as its holder. -/
def onSlot (s : State) (j : SlotId) (x : SlotState) (fails : Nat) : State :=
  s.setSlot j { state := x, fails, holder := some ⟨5, 3⟩ }

/-- Tenant 2 enabled, class DATA, quota 8. -/
def enabling (s : State) : State :=
  { s with
    plan := { s.plan with directory := s.plan.directory.set 1 { enabled := true, cls := .data, quota := 8 } } }

def reserved : State := holding reservedGrant 0

def live : State := onSlot (holding liveGrant 0) 0 .carrying 0

def moving : State :=
  onSlot (onSlot (holding movingGrant 0) 0 .carrying 0) 1
    (.tuning { caller := .moveTarget, second := false, timeout := 20 }) 0

/-- An attempt of entry 5 on slot U0 in a state whose grant is in the state that awaits it. -/
def tuning (g : Grant) (caller : Caller) (second : Bool) (fails : Nat) : State :=
  onSlot (holding { g with slot := some 0 } 0) 0 (.tuning { caller, second, timeout := 20 }) fails

def tuningGrant : Grant := { liveGrant with state := .tuning }

/-- A hard mover in its target tuning, or in its fallback tuning. -/
def hardGrant (phase : MovePhase) : Grant :=
  { movingGrant with
    counted := 16, slot := some 0
    move := some { target := 12, kind := .hard, origin := .request, phase, second := none } }

/-- A request frame of management, tag 9. -/
def mgmt (code : Nat) (params : List Nat) : Frame := ([code, 9, 0, params.length] ++ params).map byte

/-- A request frame of tenant 2, tag 9. -/
def tenant2 (code : Nat) (params : List Nat) : Frame := ([code, 9, 2, params.length] ++ params).map byte

/-- The state with one frame in the request queue of a port. -/
def queued (s : State) (p : Port) (f : Frame) : State := s.setPort p { s.port p with requests := [f] }

/-- The next state of a command; the state itself where there is none. -/
def next (c : Instr) (s : State) : State :=
  match exec c s with
  | .next t => t
  | .fault _ => s
  | .refused _ => s

/-- The state after the request unit has taken the frame from the queue of a port. -/
def taking (s : State) (p : Port) (f : Frame) : State := next (s.rowOf (.queue p) f) (queued s p f)

/-- The response, from its result code on, to a frame in the queue of a port. -/
def response (s : State) (p : Port) (f : Frame) : List Nat :=
  (((taking s p f).port p).responses.flatMap fun x => (x.drop 2).map BitVec.toNat)

/-- The response to a management request. -/
def asked (s : State) (code : Nat) (params : List Nat) : List Nat := response s .management (mgmt code params)

/-- The request unit takes this frame as this row. -/
def takesB (s : State) (src : Source) (f : Frame) (row : Instr) : Bool :=
  s.nextFrame == some (src, f) && !s.pool.startUp && goodForm src.port f == some row

theorem takes_of {s : State} {src : Source} {f : Frame} {row : Instr} (h : takesB s src f row = true) :
    Takes s src f row := by
  simp only [takesB, Bool.and_eq_true, beq_iff_eq, Bool.not_eq_true'] at h
  exact ⟨h.1.1, h.1.2, h.2⟩

/-- A management request of a row, in the queue, is taken as that row. -/
theorem takes_mgmt {s : State} {code : Nat} {params : List Nat} {row : Instr}
    (h : takesB (queued s .management (mgmt code params)) (.queue .management) (mgmt code params) row = true) :
    Takes (queued s .management (mgmt code params)) (.queue .management) (mgmt code params) row := takes_of h

/-- The handle of entry 5, generation 3, is current in a state, and the sender may act on its grant. -/
def namesB (s : State) (p : Port) (f : Frame) : Bool :=
  let r := requestOf p f
  r.byte 0 == 5 && r.generation 1 == (s.entry 5).generation && (s.grant? 5).isSome
    && (p == .management || (s.tenantEnabled r.tenant && (s.entry 5).tenant.val == r.tenant))

/-! ### The step and resets -/

theorem test_step_runs_front :
    step { ready with pending := [.coldReset, .senseTimeout] } =
      exec .coldReset { ready with pending := [.senseTimeout] } := rfl

theorem test_empty_queue_ticks : ready.ownEvent = none ∧ (ready.tick).freeCount = 0 := by decide +kernel

theorem test_empty_queue_takes_frame :
    (queued ready .management (mgmt 91 [])).ownEvent = some .status ∧
      (queued State.reset .management (mgmt 91 [])).ownEvent = some .notReadyAnswer := by decide +kernel

theorem test_held_reset_idles : (next .coldReset ready).ownEvent = none ∧ (next .coldReset ready).idle.pending = [] := by
  decide +kernel

theorem test_tick_reaches_every_timer :
    (State.reset.tick.slot 7).state = .tuning { caller := .test, second := false, timeout := 19 } ∧
      (live.tick.grant? 5).map (·.leaseMs) = some 1 ∧ (reserved.tick.grant? 5).map (·.holdMs) = some 1 := by
  decide +kernel

theorem test_tick_carries_a_second :
    ((holding { liveGrant with leaseMs := 999 } 0).tick.grant? 5).map (fun g => (g.lease, g.leaseMs)) =
        some (some 99, 0) ∧
      ((holding { liveGrant with lease := some 1, leaseMs := 999 } 0).tick).dueOnGrant 5 = some (.leaseExpiry 5) := by
  decide +kernel

theorem test_release_gives_reset : next .resetNRelease (next .coldReset live) = State.reset := by decide +kernel

theorem test_held_reset_reads_zero :
    ((next (.readStatus .tenant (.whole 2)) (next .coldReset ready)).port .tenant).returned = [0, 0, 0] ∧
      ((next (.otherCommandByte .management 77 (.whole 1)) (next .coldReset ready)).port .management).returned = [0, 0] := by
  decide +kernel

theorem test_held_reset_reads_zero_in_parts :
    let s := next .coldReset ready
    let t := next (.writeRequest .tenant .command) (next (.writeRequest .tenant .select) s)
    ((next (.writeRequest .tenant (.finish [4, 5])) t).port .tenant).returned = [0, 0, 0] ∧
      ((next (.readStatus .tenant (.rest 2)) (next (.readStatus .tenant .select) s)).port .tenant).returned = [0, 0, 0] ∧
      ((next (.writeRequest .tenant (.finish [4, 5])) (next .coldReset (next (.writeRequest .tenant .command)
        (next (.writeRequest .tenant .select) ready)))).port .tenant).returned = [1, 0, 0] := by decide +kernel

theorem test_own_events_in_order :
    let due := onSlot (holding { liveGrant with leaseMs := 1000 } 0) 3
      (.tuning { caller := .relock, second := false, timeout := 0 }) 0
    let due := due.setProfile 7 { (ready.profile 0) with state := .settling, settle := some 1, settleDue := true }
    let due := queued due .management (mgmt 91 [])
    let asking : State :=
      { ready with engine := { ready.engine with asks := [{ handle := ⟨5, 3⟩, spanChanged := false }] } }
    due.ownEvent = some (.leaseExpiry 5) ∧
      (due.setEntry 5 Entry.cold).ownEvent = some (.lockTimeout .up 3) ∧
      ((due.setEntry 5 Entry.cold).setSlot 3 (ready.slot 3)).ownEvent = some (.settleTimerExpiry 7) ∧
      (((due.setEntry 5 Entry.cold).setSlot 3 (ready.slot 3)).setProfile 7 (ready.profile 7)).ownEvent = some .status ∧
      asking.ownEvent = some .automaticMove ∧ (next .coldReset due).ownEvent = none := by decide +kernel

/-! ### Transactions and the request unit -/

theorem test_write_joins_queue :
    ((next (.writeRequest .tenant (.whole [1, 2])) ready).port .tenant).requests = [[1, 2]] ∧
      ((next (.writeRequestPriority .tenant (.whole [1])) ready).port .tenant).requests = [[1]] := by
  decide +kernel

theorem test_write_to_full_queue_is_discarded :
    let full := ready.setPort .tenant { ready.port .tenant with requests := [[], [], [], []] }
    ((next (.writeRequest .tenant (.whole [1])) full).port .tenant).requests = [[], [], [], []] ∧
      full.statusByte .tenant = 3 := by decide +kernel

theorem test_priority_slot :
    (next (.writeRequestPriority .management (.whole [7])) ready).ports.priority = some [7] ∧
      (next (.writeRequestPriority .management (.whole [8]))
        (next (.writeRequestPriority .management (.whole [7])) ready)).ports.priority = some [7] := by decide +kernel

theorem test_write_in_three_parts :
    let t := next (.writeRequest .management .command) (next (.writeRequest .management .select) ready)
    (t.port .management).returned = [1] ∧ (t.port .management).progress = some .queuePlace ∧
      ((next (.writeRequest .management (.finish [4])) t).port .management).requests = [[4]] ∧
      next (.writeRequest .management .command) ready = ready ∧
      ((next (.writeRequest .management (.finish [4])) (next (.writeRequest .management .select) ready)).port
        .management).requests = [] := by decide +kernel

theorem test_release_before_the_command_byte_frees_the_port :
    let t := next (.readStatus .tenant .release) (next (.readStatus .tenant .select) ready)
    (t.port .tenant).progress = none ∧ (t.port .tenant).returned = [1] ∧ (t.port .tenant).requests = [] ∧
      ((next (.writeRequest .tenant (.whole [7])) t).port .tenant).requests = [[7]] ∧
      next (.readResponse .tenant .release) t = t ∧
      ((next (.writeRequest .tenant (.finish [])) (next (.readStatus .tenant .select) ready)).port .tenant).progress =
        none := by decide +kernel

theorem test_claim_after_a_status_byte_showing_full :
    let full := ready.setPort .tenant { ready.port .tenant with requests := [[], [], [], []] }
    let t := next (.writeRequest .tenant .command) (next .badRequestFrame (next (.writeRequest .tenant .select) full))
    (t.port .tenant).returned = [3] ∧ (t.port .tenant).progress = some .queuePlace ∧
      ((next (.writeRequest .tenant (.finish [4])) t).port .tenant).requests = [[], [], [], [4]] := by decide +kernel

theorem test_response_placed_after_the_status_byte_is_read :
    let t := next .status (next (.readResponse .management .select) (queued ready .management (mgmt 91 [])))
    ((next (.readResponse .management (.rest 3)) t).port .management).returned = [1, 91, 9, 0] ∧
      ((next (.readResponse .management (.rest 3)) t).port .management).responses = [] := by decide +kernel

theorem test_counts_are_those_at_the_command_byte :
    let t := next .status (next (.readStatus .management .select) (queued ready .management (mgmt 91 [])))
    ((next (.readStatus .management (.rest 1)) t).port .management).returned = [1, 1] ∧
      ((next (.otherCommandByte .management 7 (.rest 2)) t).port .management).returned = [1, 0, 0] := by decide +kernel

theorem test_restart_across_a_transaction :
    let s := queued (next (.writeRequest .tenant .select) ready) .management (mgmt 92 [])
    let t := next .restart s
    (t.port .tenant).progress = some .selected ∧
      ((next (.writeRequest .tenant .command) t).port .tenant).progress = some .queuePlace ∧
      ((next .restart (queued (next (.writeRequest .tenant .command) (next (.writeRequest .tenant .select) ready))
        .management (mgmt 92 []))).port .tenant).progress = some .nothing := by decide +kernel

theorem test_read_response :
    let s := ready.setPort .tenant { ready.port .tenant with responses := [[1, 2, 3], [4]] }
    ((next (.readResponse .tenant (.whole 2)) s).port .tenant).returned = [21, 1, 2] ∧
      ((next (.readResponse .tenant (.whole 2)) s).port .tenant).responses = [[4]] ∧
      ((next (.readResponse .tenant (.whole 2)) ready).port .tenant).returned = [1, 0, 0] := by decide +kernel

theorem test_read_status_counts :
    let s := ready.setPort .tenant { ready.port .tenant with requests := [[], []], responses := [[1], [2], [3]] }
    ((next (.readStatus .tenant (.whole 1)) s).port .tenant).returned = [21, 35] ∧
      ((next (.readStatus .tenant (.whole 0)) s).port .tenant).returned = [21] := by decide +kernel

theorem test_other_command_byte :
    ((next (.otherCommandByte .tenant 0 (.whole 2)) ready).port .tenant).returned = [1, 0, 0] := by decide +kernel

theorem test_status_byte_of_priority_slot :
    (next (.writeRequestPriority .management (.whole [7])) ready).statusByte .management = 9 := by decide +kernel

theorem test_irq_lines :
    let s := ready.raise .ready
    s.irq .management = true ∧ (s.irq .tenant = false) ∧
      ({ s with ports := { s.ports with mask := 1 } } : State).irq .management = false ∧
      (enabling (holding { liveGrant with news := true } 2)).irq .tenant = true ∧
      (holding { liveGrant with news := true } 2).irq .tenant = false := by decide +kernel

theorem test_request_unit_order :
    let two := queued (queued ready .management (mgmt 91 [])) .tenant (tenant2 91 [])
    two.nextFrame = some (.queue .management, mgmt 91 []) ∧
      (two.removeFrame (.queue .management)).nextFrame = some (.queue .tenant, tenant2 91 []) ∧
      ({ two with ports := { two.ports with priority := some [1] } } : State).nextFrame = some (.priority, [1]) ∧
      ready.nextFrame = none := by decide +kernel

theorem test_request_unit_waits_for_room :
    let full := ready.setPort .management { ready.port .management with responses := [[], [], [], []] }
    (queued { full with ports := { full.ports with priority := some [1] } } .tenant (tenant2 91 [])).nextFrame =
      some (.queue .tenant, tenant2 91 []) := by decide +kernel

theorem test_bad_frames :
    response ready .management [1, 2, 0] = [3, 0] ∧ response ready .management (mgmt 10 []) = [3, 0] ∧
      response ready .management (mgmt 16 [0]) = [3, 0] ∧ response ready .management (tenant2 91 []) = [3, 0] ∧
      response ready .tenant (mgmt 91 []) = [3, 0] := by decide +kernel

theorem test_bad_form_cases :
    goodForm .tenant ([91, 9, 15, 0].map byte) = some .status ∧ goodForm .tenant ([91, 9, 16, 0].map byte) = none ∧
      goodForm .management ([42, 9, 0, 1].map byte) = none := by decide +kernel

theorem test_not_ready_during_start_up : response State.reset .management (mgmt 91 []) = [2, 0] := by decide +kernel

theorem test_port_authority :
    response ready .tenant (tenant2 92 []) = [5, 0] ∧ response ready .management (mgmt 90 []) = [5, 0] := by
  decide +kernel

theorem test_handle_checks :
    asked live 17 [64, 0] = [4, 0] ∧ response live .tenant (tenant2 17 [5, 3]) = [6, 0] ∧
      asked live 17 [5, 2] = [7, 3, 3, 3, 0] ∧ asked live 24 [6, 1] = [7, 3, 0, 0, 0] ∧
      response (enabling live) .tenant (tenant2 26 [5, 3]) = [5, 0] := by decide +kernel

theorem test_handle_requests_refuse :
    response live .tenant (tenant2 27 [5, 3, 1]) = [5, 0] ∧ response live .tenant (tenant2 27 [5, 3, 2]) = [4, 0] ∧
      response live .tenant (tenant2 25 [5, 3, 0, 1]) = [6, 0] ∧
      response (enabling live) .tenant (tenant2 64 [5, 3, 1, 0, 0, 2]) = [5, 0] ∧
      asked live 32 [5, 4] = [7, 3, 3, 3, 0] ∧
      asked (holding { liveGrant with state := .quiet } 0) 57 [6, 0, 4] = [7, 3, 0, 0, 0] := by decide +kernel

theorem test_priority_trailer :
    let s := { ready with ports := { ready.ports with priority := some (mgmt 66 []) } }
    ((next .stopRepack s).port .management).responses = [[66, 9, 0, 6, 0, 0, 0, 0, 0, 0]] := by decide +kernel

theorem test_queues_bounded_somewhere : ready.QueuesBounded := by intro p; cases p <;> decide +kernel

theorem test_read_events :
    asked (ready.raise .ready) 88 [] = [0, 2, 0, 1] ∧
      (taking (ready.raise .ready) .management (mgmt 88 [])).ports.summary = 0 := by decide +kernel

theorem test_event_mask :
    (taking ready .management (mgmt 89 [31, 255])).ports.mask = 8191 ∧ asked ready 89 [32, 0] = [4, 0] := by
  decide +kernel

theorem test_read_news :
    let s := enabling (holding { liveGrant with news := true } 2)
    response s .tenant (tenant2 90 []) = [0, 6, 1, 0, 5, 3, 3, 0] ∧
      ((taking s .tenant (tenant2 90 [])).grant? 5).map (·.news) = some false := by decide +kernel

/-! ### The plan store -/

theorem test_stage_region :
    (taking ready .management (mgmt 1 [7, 1, 1, 9, 132, 9, 131, 1, 0])).plan.staged = none ∧
      ((taking ready .management (mgmt 1 [1, 1, 1, 9, 131, 9, 131, 7, 1])).plan.staged.map fun q => q[1]) =
        some (some { band := .down, first := 2435, last := 2435, classes := 7, frozen := true }) := by decide +kernel

theorem test_stage_region_overlap_and_absent :
    asked ready 1 [2, 1, 0, 1, 151, 1, 151, 1, 0] = [22, 0] ∧
      ((taking ready .management (mgmt 1 [0, 0, 9, 9, 9, 9, 9, 9, 9])).plan.staged.map fun q => q[0]) = some none := by
  decide +kernel

theorem test_discard_staged :
    asked ready 2 [] = [0, 1, 0] ∧ asked (taking ready .management (mgmt 1 [7, 0, 0, 0, 0, 0, 0, 0, 0])) 2 [] =
      [0, 0, 0, 1, 1] := by decide +kernel

theorem test_freeze_region :
    (taking ready .management (mgmt 3 [0, 1, 0])).plan.active.frozenAt .up 10 = true ∧ asked ready 3 [2, 1, 0] = [4, 0] ∧
      asked ready 3 [0, 1, 1] = [4, 0] := by decide +kernel

theorem test_read_region :
    asked ready 4 [0, 1] = [0, 9, 0, 1, 0, 0, 10, 1, 151, 5, 0] ∧ asked ready 4 [7, 0] = [0, 9, 0, 0, 0, 0, 0, 0, 0, 0, 0]
      := by decide +kernel

theorem test_set_guard :
    (taking live .management (mgmt 5 [0, 1, 2, 3, 4, 16])).plan.guards.voiceVoice = 16 ∧
      asked live 5 [17, 0, 0, 0, 0, 0] = [4, 0] := by decide +kernel

theorem test_set_guard_conflict : asked moving 5 [5, 0, 0, 0, 0, 0] = [23, 4, 5, 3, 5, 3] := by decide +kernel

theorem test_set_guard_takes_the_upstream_pair :
    let low : Grant := { liveGrant with band := .down, start := 600 }
    let s := (moving.setEntry 9 { generation := 1, tenant := 0, lastOutcome := .none, grant := some low }).setEntry 11
      { generation := 2, tenant := 0, lastOutcome := .none, grant := some { low with start := 606 } }
    let s := s.setOccupancy .down
      [{ handle := ⟨9, 1⟩, start := 600, width := 4 }, { handle := ⟨11, 2⟩, start := 606, width := 4 }]
    asked s 5 [3, 0, 0, 0, 0, 0] = [23, 4, 9, 1, 11, 2] ∧ asked s 5 [5, 0, 0, 0, 0, 0] = [23, 4, 5, 3, 5, 3] ∧
      asked s 5 [2, 0, 0, 0, 0, 0] = [0, 0] := by decide +kernel

theorem test_set_tenant :
    (taking ready .management (mgmt 6 [15, 1, 2, 64])).plan.directory[14] = { enabled := true, cls := .voice, quota := 64 } ∧
      asked (holding liveGrant 2) 6 [2, 1, 1, 8] = [21, 0] ∧ asked (holding liveGrant 2) 6 [2, 1, 0, 8] = [0, 0] := by
  decide +kernel

theorem test_read_tenant : asked (enabling (holding liveGrant 2)) 7 [2] = [0, 4, 1, 0, 8, 1] := by decide +kernel

theorem test_set_plan_settings :
    (taking ready .management (mgmt 8 [39, 16, 2, 88, 4, 0, 1, 1])).plan.settings =
      { quietInterval := 10000, holdTime := 600, reserve := { up := 4, down := 0 },
        autoRepack := { up := true, down := true } } ∧ asked ready 8 [39, 17, 0, 1, 0, 0, 0, 0] = [4, 0] := by
  decide +kernel

theorem test_switch_turned_on_at_level_3_starts_repack :
    (taking (ready.setFrag .down 3) .management (mgmt 8 [0, 0, 0, 1, 0, 0, 0, 1])).engine.repack =
      { running := false, band := some .down, moves := 0, reason := .complete } := by decide +kernel

theorem test_read_settings :
    asked ready 9 [] = [0, 14, 0, 2, 1, 0, 2, 0, 3, 232, 0, 30, 1, 1, 0, 0] := by decide +kernel

/-! ### Placement and the grant table -/

theorem test_placement_stages :
    let x := live.site .up .voice 0 2
    x.test 22 = .noSpace ∧ x.test 24 = .guard ∧ x.test 25 = .legal ∧ x.test 18 = .guard ∧ x.test 17 = .legal := by
  decide +kernel

theorem test_search_lowest :
    (live.site .up .data 0 4).search (live.plan.active.candidates .up .data) = some 10 ∧
      (live.site .up .data 0 11).search (live.plan.active.candidates .up .data) = some 24 := by decide +kernel

theorem test_reserve_auto :
    asked live 16 [0, 12, 0, 1, 0, 0, 255, 0, 0, 0, 255, 0, 0, 60] = [0, 5, 0, 0, 0, 24, 12] ∧
      asked live 16 [0, 0, 0, 1, 0, 0, 255, 0, 0, 0, 255, 0, 0, 60] = [4, 0] := by decide +kernel

theorem test_reserve_refusals :
    asked live 16 [0, 4, 0, 0, 0, 22, 0, 0, 0, 0, 255, 0, 0, 0] = [17, 0] ∧
      asked live 16 [0, 4, 1, 0, 0, 30, 0, 0, 0, 0, 255, 0, 0, 0] = [12, 0] ∧
      response (enabling live) .tenant (tenant2 16 [0, 4, 0, 0, 0, 30, 0, 0, 1, 0, 255, 0, 0, 0]) = [5, 0] := by
  decide +kernel

theorem test_reserve_witness :
    let f := mgmt 16 [0, 4, 0, 0, 0, 30, 0, 0, 0, 0, 255, 0, 0, 60]
    let s := queued live .management f
    let w : Wish :=
      { band := .up, payload := 4, profile := 0, placement := .explicit, start := 30, region := none, cls := .data,
        hold := .opened, fixed := false, level := 255, group := .none, lease := 60 }
    Takes s (.queue .management) f .reserve ∧ Wishes (requestOf .management f) (s.taken (.queue .management)) w ∧
      WishInRange (s.taken (.queue .management)) w ∧
      (s.taken (.queue .management)).admission (requestOf .management f) w = .ok (0, 30) := by
  refine ⟨takes_of (by decide +kernel), ⟨by decide, by decide, by decide, .inl (by decide), by decide,
    .inl (by decide), by decide, by decide, by decide, by decide, by decide⟩,
    ⟨by decide, by decide, by decide +kernel, fun _ => ⟨by decide +kernel, fun _ => by decide +kernel⟩⟩, ?_⟩
  rfl

theorem test_reserve_auto_refusals :
    let narrow := fun (frozen : Bool) =>
      live.withPlan { live.plan with
        active := live.plan.active.set 0 (some { band := .up, first := 19, last := 24, classes := 1, frozen }) }
    let want := [0, 4, 0, 1, 0, 0, 255, 0, 0, 0, 255, 0, 0, 0]
    asked (narrow false) 16 want = [17, 0] ∧ asked (narrow true) 16 want = [11, 0] ∧
      asked (live.setPlanFrozen true) 16 want = [11, 0] ∧
      asked live 16 [0, 4, 0, 1, 0, 0, 255, 1, 0, 0, 255, 0, 0, 0] = [15, 0] ∧
      asked (live.setProfile 0 { live.profile 0 with classes := 2 }) 16 want = [13, 0] ∧
      response (enabling live) .tenant (tenant2 16 want) = [0, 5, 0, 0, 0, 10, 4] ∧
      response live .tenant (tenant2 16 want) = [6, 0] := by decide +kernel

theorem test_reserve_blocked_and_quota :
    let watch : Watch :=
      { target := .cells .up 10 192, mode := .above, disposition := .compareOnly, action := .block, enabled := true,
        condition := true }
    let s := (live.setPosition 0 (.watch watch)).setPosition 1 (.watch { watch with target := .cells .up 200 192 })
    let s := s.setPosition 2 (.watch { watch with target := .cells .up 390 18 })
    let poor := ready.withPlan { ready.plan with
        directory := ready.plan.directory.set 1 { enabled := true, cls := .data, quota := 0 } }
    let want := [0, 4, 0, 1, 0, 0, 255, 0, 0, 0, 255, 0, 0, 0]
    asked s 16 want = [18, 0] ∧ asked s 16 [0, 4, 0, 0, 0, 30, 0, 0, 0, 0, 255, 0, 0, 0] = [18, 0] ∧
      response poor .tenant (tenant2 16 want) = [14, 0] := by decide +kernel

theorem test_reserved_record :
    let s := taking ready .management (mgmt 16 [0, 4, 0, 0, 0, 30, 0, 0, 0, 0, 255, 0, 0, 60])
    s.grant? 0 = some { reservedGrant with start := 30, lease := some 60 } ∧ (s.profile 0).references = 1 ∧
      s.occupancy .up = [{ handle := ⟨0, 0⟩, start := 30, width := 4 }] := by decide +kernel

theorem test_lookup :
    asked live 17 [5, 3] =
      [0, 32, 5, 3, 3, 0, 0, 0, 0, 20, 4, 0, 4, 0, 0, 255, 0, 9, 0, 100, 0, 0, 0, 0, 0, 0, 0, 0, 0, 0, 0, 0, 0, 0] := by
  decide +kernel

theorem test_lookup_clears_news :
    let s := enabling (holding { liveGrant with news := true } 2)
    ((taking s .tenant (tenant2 17 [5, 3])).grant? 5).map (·.news) = some false ∧
      ((taking s .management (mgmt 17 [5, 3])).grant? 5).map (·.news) = some true ∧
      namesB s .tenant (tenant2 17 [5, 3]) = true := by decide +kernel

theorem test_find :
    asked live 18 [0, 0, 23] = [0, 6, 0, 0, 5, 3, 0, 1] ∧ asked live 18 [0, 0, 24] = [0, 6, 1, 0, 255, 255, 0, 0] ∧
      response (enabling live) .tenant (tenant2 18 [0, 0, 20]) = [0, 6, 0, 0, 255, 255, 0, 0] ∧
      asked moving 18 [0, 0, 12] = [0, 6, 0, 0, 5, 3, 1, 1] := by decide +kernel

theorem test_find_no_region :
    asked { live with plan := { live.plan with active := live.plan.active.set 1 none } } 18 [1, 2, 4] =
      [0, 6, 3, 255, 255, 255, 0, 0] := by decide +kernel

theorem test_list_own : asked live 19 [0] = [0, 5, 1, 0, 5, 3, 3] ∧ asked live 19 [6] = [0, 2, 0, 0] := by decide +kernel

theorem test_list_band : asked live 20 [0, 0, 20] = [0, 6, 1, 0, 5, 3, 0, 20] ∧ asked live 20 [0, 0, 21] = [0, 2, 0, 0] :=
  by decide +kernel

/-! ### The life of a grant -/

theorem test_activate :
    asked reserved 24 [5, 3] = [1, 1, 0] ∧
      (let s := taking reserved .management (mgmt 24 [5, 3])
       (s.grant? 5).map (fun g => (g.state, g.holdTime, g.slot, g.counted, g.news)) =
          some (.tuning, none, some 0, 16, true) ∧
        s.slot 0 =
          { state := .tuning { caller := .activation, second := false, timeout := 20 }, fails := 0,
            holder := some ⟨5, 3⟩ } ∧
        s.pool.sent[0] = [.tune .up 20 4 .qam256 255]) := by decide +kernel

theorem test_activate_refusals :
    asked live 24 [5, 3] = [8, 0] ∧
      asked { reserved with levels := { reserved.levels with budget := { up := 15, down := 0 } } } 24 [5, 3] =
        [19, 5, 0, 0, 16, 0, 15] ∧
      asked { reserved with plan := { reserved.plan with settings := { reserved.plan.settings with reserve := ⟨16, 0⟩ } } }
        24 [5, 3] = [20, 0] ∧
      asked (reserved.setProfile 0 { reserved.profile 0 with classes := 2 }) 24 [5, 3] = [13, 0] ∧
      asked (reserved.setProfile 0 { reserved.profile 0 with state := .settling }) 24 [5, 3] = [12, 0] := by
  decide +kernel

theorem test_activate_witness :
    let f := mgmt 24 [5, 3]
    let s := queued reserved .management f
    let u := s.taken (.queue .management)
    Takes s (.queue .management) f .activate ∧ Names (requestOf .management f) u 5 reservedGrant ∧
      MayAct (requestOf .management f) u 5 ∧ WithinBudget u (u.loadWith .up 16) ∧
      u.selectSlot .up 1 none = some 0 := by
  refine ⟨takes_of (by decide +kernel), ⟨by decide, by decide +kernel, by decide +kernel⟩, .inl rfl, ?_, by decide +kernel⟩
  intro b; cases b <;> decide +kernel

theorem test_renew :
    asked live 25 [5, 3, 255, 255] = [0, 0] ∧ asked live 25 [5, 3, 0, 0] = [4, 0] ∧
      ((taking live .management (mgmt 25 [5, 3, 255, 255])).grant? 5).map (·.lease) = some (some 65535) ∧
      asked (holding { liveGrant with state := .quiet } 0) 25 [5, 3, 0, 1] = [8, 0] := by decide +kernel

theorem test_hold_unhold :
    asked live 32 [5, 3] = [0, 2, 0, 1] ∧ asked (holding { liveGrant with hold := .held } 0) 33 [5, 3] = [0, 2, 1, 0] ∧
      asked (holding { liveGrant with hold := .pinned } 0) 32 [5, 3] = [9, 0] ∧
      asked (holding { liveGrant with hold := .pinned } 0) 33 [5, 3] = [9, 0] := by decide +kernel

theorem test_pin :
    asked reserved 34 [5, 3] = [0, 2, 0, 2] ∧ asked moving 34 [5, 3] = [8, 0] ∧
      ((taking reserved .management (mgmt 34 [5, 3])).grant? 5).map (fun g => (g.hold, g.lease, g.holdTime)) =
        some (.pinned, none, none) ∧
      asked (holding { liveGrant with hold := .pinned, lease := none } 0) 34 [5, 3] = [0, 2, 2, 2] := by decide +kernel

theorem test_withdraw_reserved_frees :
    asked reserved 26 [5, 3] = [0, 1, 0] ∧
      (taking reserved .management (mgmt 26 [5, 3])).entry 5 =
        { generation := 4, tenant := 0, lastOutcome := .withdrawn, grant := none } ∧
      asked (holding { reservedGrant with hold := .pinned } 0) 26 [5, 3] = [9, 0] ∧
      response (enabling (holding { reservedGrant with hold := .held } 2)) .tenant (tenant2 26 [5, 3]) = [10, 0] := by
  decide +kernel

theorem test_withdraw_live_drains :
    asked live 26 [5, 3] = [1, 1, 6] ∧
      (let s := taking live .management (mgmt 26 [5, 3])
       (s.grant? 5).map (fun g => (g.state, g.phaseTimer, g.lease, g.counted)) = some (.draining, some 100, none, 16) ∧
        (s.slot 0).state = .ramping ∧ s.pool.sent[0] = [.ramp 100]) := by decide +kernel

theorem test_revoke_cut_halts :
    asked live 27 [5, 3, 1] = [0, 1, 7] ∧ asked live 27 [5, 3, 2] = [4, 0] ∧
      asked (holding { liveGrant with state := .draining } 0) 27 [5, 3, 0] = [8, 0] ∧
      (let s := taking moving .management (mgmt 27 [5, 3, 1])
       (s.slot 0).state = .idle ∧ (s.slot 1).state = .idle ∧ (s.grant? 5).map (·.state) = some .quiet) := by
  decide +kernel

theorem test_revoke_moving_drains :
    asked moving 27 [5, 3, 0] = [1, 1, 6] ∧
      (let s := taking moving .management (mgmt 27 [5, 3, 0])
       (s.slot 0).state = .ramping ∧ (s.slot 1).state = .idle ∧ (s.grant? 5).map (·.counted) = some 16) := by
  decide +kernel

theorem test_moves_lawful_witness : live.MovesLawful ∧ moving.MovesLawful := by
  have l5 : live.grant? 5 = some liveGrant := by decide +kernel
  have m5 : moving.grant? 5 = some movingGrant := by decide +kernel
  have l : ∀ i : Fin 64, i ≠ 5 → live.grant? i = none := by decide +kernel
  have m : ∀ i : Fin 64, i ≠ 5 → moving.grant? i = none := by decide +kernel
  refine ⟨?_, ?_⟩ <;> intro i g h <;> by_cases e : i = 5
  · subst e; rw [l5] at h; cases h; decide
  · rw [l i e] at h; cases h
  · subst e; rw [m5] at h; cases h; decide
  · rw [m i e] at h; cases h

theorem test_hold_timer :
    (next (.holdTimerExpiry 5) reserved).entry 5 =
        { generation := 4, tenant := 0, lastOutcome := .lapsed, grant := none } ∧
      next (.holdTimerExpiry 5) live = live := by decide +kernel

theorem test_lease_expiry :
    (next (.leaseExpiry 5) live).flagged .leaseExpired = true ∧
      ((next (.leaseExpiry 5) live).entry 5).lastOutcome = .expired ∧ next (.leaseExpiry 5) reserved = reserved := by
  decide +kernel

theorem test_drain_timer :
    let s := onSlot (holding { liveGrant with state := .draining, phaseTimer := some 0, lease := none } 0) 0 .ramping 2
    ((next (.drainTimerExpiry 5) s).grant? 5).map (fun g => (g.state, g.phaseTimer, g.slot, g.counted)) =
        some (.quiet, some 1000, none, 0) ∧
      (next (.drainTimerExpiry 5) s).slot 0 = { state := .idle, fails := 2, holder := none } := by decide +kernel

theorem test_quiet_timer :
    let s := holding { liveGrant with state := .quiet, phaseTimer := some 0, lease := none, slot := none } 2
    (next (.quietTimerExpiry 5) s).occupancy .up = [] ∧ (next (.quietTimerExpiry 5) s).grantCount 2 = 0 ∧
      ((next (.quietTimerExpiry 5) s).profile 0).references = 0 := by decide +kernel

/-! ### Freezes and repack -/

theorem test_freeze_plan :
    asked live 35 [1, 0] = [0, 2, 0, 0] ∧ asked live 35 [1, 1] = [4, 0] ∧ asked live 35 [2, 0] = [4, 0] ∧
      asked (live.setPlanFrozen true) 35 [0, 1] = [0, 2, 1, 0] := by decide +kernel

theorem test_repack_starts_seamless_step :
    asked live 65 [0] = [1, 4, 0, 1, 0, 0] ∧
      ((taking live .management (mgmt 65 [0])).grant? 5).map (fun g => (g.state, g.move.map (·.target), g.counted)) =
        some (.moving, some 10, 32) ∧ asked (live.setPlanFrozen true) 65 [0] = [11, 0] := by decide +kernel

theorem test_repack_of_reserved_grants_completes :
    asked reserved 65 [0] = [1, 4, 0, 0, 0, 1] ∧
      ((taking reserved .management (mgmt 65 [0])).grant? 5).map (·.start) = some 10 := by decide +kernel

theorem test_stop_repack :
    let s := taking live .management (mgmt 65 [0])
    let s := s.setPort .management { s.port .management with responses := [] }
    asked s 66 [] = [0, 3, 1, 0, 0] ∧ asked s 65 [1] = [26, 0] ∧
      (let t := taking s .management (mgmt 66 [])
       (t.entry 5).lastOutcome = .moveAbandoned ∧ (t.grant? 5).map (·.state) = some .live ∧
        t.flagged .repackEnd = true ∧ s.repackMover = some 5) := by decide +kernel

theorem test_stop_repack_halts_the_slot_of_the_tuning :
    let s := taking live .management (mgmt 65 [0])
    let hard := next (.lost .up 0) s
    s.stopRepack.slot 1 = { state := .idle, fails := 0, holder := none } ∧
      s.stopRepack.pool.sent[1] = s.pool.sent[1] ++ [.halt] ∧ s.stopRepack.slot 0 = s.slot 0 ∧
      (hard.stopRepack.grant? 5).map (·.state) = some .reserved ∧
      hard.stopRepack.slot 1 = { state := .idle, fails := 0, holder := none } := by decide +kernel

theorem test_repack_step_choice :
    live.chooseStep .up = some (5, 10) ∧ ready.chooseStep .up = none ∧ reserved.chooseStep .up = some (5, 10) := by
  decide +kernel

theorem test_repack_step_witness : ∃ it ∈ live.occupancy .up, StepsTo live it 10 :=
  ⟨{ handle := ⟨5, 3⟩, start := liveGrant.start, width := liveGrant.width }, by decide +kernel, _, 0, _, rfl,
    by decide, by decide, .inr (by decide), rfl, by decide, by decide, by decide, by decide, by decide +kernel⟩

theorem test_auto_target_witness :
    ∃ g, live.grant? 5 = some g ∧ 1 ≤ g.width ∧ TargetAt live g 10 ∧ live.autoTarget g = some 10 :=
  ⟨_, rfl, by decide, ⟨0, _, rfl, by decide, by decide, by decide, by decide, by decide, by decide +kernel⟩,
    by decide +kernel⟩

theorem test_repack_continues_on_target :
    let s := taking live .management (mgmt 65 [0])
    let t := next (.locked .up 1) s
    t.engine.repack = { running := false, band := some .up, moves := 1, reason := .complete } ∧
      (t.grant? 5).map (·.start) = some 10 ∧
      (next (.failed .up 2) (next (.failed .up 1) s)).engine.repack =
        { running := false, band := some .up, moves := 0, reason := .blocked } := by decide +kernel

/-! ### Profiles and slots -/

theorem test_write_profile :
    asked ready 40 [7, 5, 2, 4, 7] = [0, 1, 0] ∧ asked live 40 [0, 0, 1, 0, 1] = [21, 1, 1] ∧
      (taking ready .management (mgmt 40 [7, 5, 2, 4, 7])).profile 7 =
        { state := .settling, order := .qam4096, expansion := 2, edgeGuard := 4, classes := 7, references := 0,
          settle := some 10, settleDue := false } := by decide +kernel

theorem test_clear_profile : asked ready 41 [0] = [0, 1, 2] ∧ asked live 41 [0] = [21, 1, 1] ∧ asked ready 41 [8] = [4, 0] :=
  by decide +kernel

theorem test_read_profile :
    asked live 42 [0] = [0, 7, 2, 3, 1, 0, 7, 1, 0] ∧ asked live 42 [7] = [0, 7, 0, 0, 0, 0, 0, 0, 0] := by decide +kernel

theorem test_settle_timer :
    let s := taking ready .management (mgmt 40 [7, 5, 2, 4, 7])
    ((next (.settleTimerExpiry 7) s).profile 7).state = .ready ∧ next (.settleTimerExpiry 0) s = s := by decide +kernel

theorem test_settle_time_stays_in_range :
    let p : Profile := { (ready.profile 0) with state := .settling, settle := some 2 }
    let s := ready.setProfile 7 p
    (s.tick.profile 7).settle = some 1 ∧ s.tick.dueOnProfile 7 = none ∧ (s.tick.tick.profile 7).settle = some 1 ∧
      s.tick.tick.dueOnProfile 7 = some (.settleTimerExpiry 7) ∧
      asked s.tick.tick 42 [7] = [0, 7, 1, 3, 1, 0, 7, 0, 1] ∧
      (next (.settleTimerExpiry 7) s.tick.tick).profile 7 = ready.profile 0 := by decide +kernel

theorem test_read_slot :
    asked live 48 [0, 0] = [0, 8, 2, 0, 5, 3, 255, 0, 0, 0] ∧
      asked (onSlot moving 47 (.tuning { caller := .relock, second := true, timeout := 7 }) 1) 48 [1, 31] =
        [0, 8, 1, 1, 5, 3, 1, 2, 7, 0] ∧
      asked live 48 [0, 16] = [4, 0] ∧ asked live 48 [1, 32] = [4, 0] ∧
      response live .tenant (tenant2 48 [0, 0]) = [5, 0] := by decide +kernel

theorem test_select_slot :
    let s := ready.setSlot 0 { state := .idle, fails := 2, holder := none }
    s.selectSlot .up 15 none = some 1 ∧ s.selectSlot .up 16 none = none ∧ s.selectSlot .up 15 (some 1) = none ∧
      s.selectSlot .down 0 none = some 16 := by decide +kernel

theorem test_failed_first_attempt_retries :
    let s := next (.failed .up 0) (tuning tuningGrant .activation false 0)
    s.slot 0 = { state := .idle, fails := 1, holder := none } ∧
      s.slot 1 =
        { state := .tuning { caller := .activation, second := true, timeout := 20 }, fails := 0,
          holder := some ⟨5, 3⟩ } ∧
      (s.grant? 5).map (·.slot) = some (some 1) := by decide +kernel

theorem test_retry_of_a_relock_honours_the_reserve :
    let one := fun (s : State) => s.withPlan { s.plan with
      settings := { s.plan.settings with reserve := { up := 15, down := 0 } } }
    ((next (.failed .up 0) (one (tuning tuningGrant .relock false 0))).grant? 5).map (·.state) = some .reserved ∧
      ((next (.failed .up 0) (one (tuning (hardGrant .targetTuning) .moveTarget false 0))).grant? 5).map (·.slot) =
        some (some 1) := by decide +kernel

theorem test_failed_second_attempt_ends :
    let s := tuning { tuningGrant with hold := .held } .activation true 2
    let t := next (.lockTimeout .up 0) s
    t = next (.lost .up 0) s ∧ (t.slot 0).state = .retired ∧ t.flagged .slotRetired = true ∧
      (t.grant? 5).map (fun g => (g.state, g.holdTime)) = some (.reserved, some 30) ∧
      (t.entry 5).lastOutcome = .activateFailed := by decide +kernel

theorem test_failed_test_retires :
    (next (.failed .down 31) State.reset).slot 47 = { state := .retired, fails := 3, holder := none } ∧
      next (.failed .up 0) ready = ready ∧ next (.lost .up 0) ready = ready := by decide +kernel

theorem test_lock_timeout_of_last_test_ends_start_up :
    let s := onSlot ready 3 (.tuning { caller := .test, second := false, timeout := 0 }) 0
    let s := { s with pool := { s.pool with startUp := true } }
    (next (.lockTimeout .up 3) s).pool.startUp = false ∧ (next (.lockTimeout .up 3) s).flagged .ready = true := by
  decide +kernel

theorem test_hard_move_failure_falls_back :
    let s := next (.failed .up 0) (tuning (hardGrant .targetTuning) .moveTarget true 0)
    (s.grant? 5).map (fun g => (g.slot, g.move.map (·.phase))) = some (some 1, some .fallbackTuning) ∧
      (next (.failed .up 0) (tuning (hardGrant .fallbackTuning) .fallback true 0)).entry 5 =
        { generation := 3, tenant := 0, lastOutcome := .moveFailed,
          grant := some { reservedGrant with news := true } } := by decide +kernel

theorem test_seamless_move_failure_stays :
    let s := onSlot moving 1 (.tuning { caller := .moveTarget, second := true, timeout := 3 }) 0
    let t := next (.failed .up 1) s
    t.grant? 5 = some { liveGrant with news := true } ∧ (t.entry 5).lastOutcome = .moveFailed ∧
      (t.slot 0).state = .carrying := by decide +kernel

theorem test_relock_failure :
    ((next (.failed .up 0) (tuning tuningGrant .relock true 1)).entry 5).lastOutcome = .none ∧
      ((next (.failed .up 0) (tuning tuningGrant .relock true 1)).grant? 5).map (·.state) = some .reserved := by
  decide +kernel

theorem test_failed_relock_lifts_the_clamp :
    let s := tuning tuningGrant .relock true 1
    let s := { s with levels := { s.levels with pilot := { reading := 200, applied := 100, clamped := true } } }
    (next (.failed .up 0) s).levels.pilot = { reading := 200, applied := 200, clamped := false } := by decide +kernel

theorem test_locked_activation :
    let s := next (.locked .up 0) (tuning tuningGrant .activation false 2)
    (s.grant? 5).map (·.state) = some .live ∧ (s.entry 5).lastOutcome = .activated ∧
      s.slot 0 = { state := .carrying, fails := 0, holder := some ⟨5, 3⟩ } ∧ next (.locked .up 1) s = s := by
  decide +kernel

theorem test_locked_target_arrives :
    let s := next (.locked .up 1) moving
    (s.grant? 5).map (fun g => (g.state, g.start, g.slot, g.counted, g.move)) =
        some (.live, 12, some 1, 16, none) ∧
      (s.slot 0).state = .idle ∧ s.occupancy .up = [{ handle := ⟨5, 3⟩, start := 12, width := 4 }] ∧
      (s.entry 5).lastOutcome = .moved := by decide +kernel

theorem test_locked_fallback_stays :
    let s := next (.locked .up 0) (tuning (hardGrant .fallbackTuning) .fallback false 1)
    (s.grant? 5).map (fun g => (g.state, g.start, g.slot)) = some (.live, 20, some 0) ∧
      (s.entry 5).lastOutcome = .moveFailed := by decide +kernel

theorem test_locked_test_passes :
    (next (.locked .up 0) State.reset).slot 0 = { state := .idle, fails := 0, holder := none } := by decide +kernel

theorem test_lost_relocks :
    let s := next (.lost .up 0) live
    (s.grant? 5).map (·.state) = some .tuning ∧ (s.entry 5).lastOutcome = .lost ∧ s.flagged .carrierLost = true ∧
      s.slot 0 =
        { state := .tuning { caller := .relock, second := false, timeout := 20 }, fails := 1, holder := some ⟨5, 3⟩ } ∧
      s.pool.sent[0] = [.tune .up 20 4 .qam256 255] := by decide +kernel

theorem test_own_slot_of_a_seamless_mover_retires :
    let s := next (.lost .up 0) (moving.setSlot 0 { moving.slot 0 with fails := 2 })
    (s.slot 0).state = .retired ∧ s.flagged .slotRetired = true ∧ s.flagged .carrierLost = true ∧
      (next (.lost .up 0) moving).flagged .slotRetired = false := by decide +kernel

theorem test_lost_retires_or_turns_hard :
    let s := next (.lost .up 0) (onSlot live 0 .carrying 2)
    (s.slot 0).state = .retired ∧ (s.grant? 5).map (·.slot) = some (some 1) ∧
      ((next (.lost .up 0) moving).grant? 5).map (fun g => (g.slot, g.move.map (·.kind), g.counted)) =
        some (some 1, some .hard, 16) := by decide +kernel

/-! ### Levels -/

theorem test_effective_levels :
    ratioLevel 100 200 = 45 ∧ ratioLevel 10 100 = 0 ∧ ({ trim := 60, mode := .cap } : GroupRecord).apply 100 = 60 ∧
      weight 63 = 1 ∧ weight 64 = 2 ∧ weight 255 = 4 := by decide

theorem test_set_level :
    asked live 56 [5, 3, 63] = [0, 3, 63, 0, 4] ∧
      (taking live .management (mgmt 56 [5, 3, 63])).pool.sent[0] = [.level 63] ∧
      response (enabling (holding { liveGrant with hold := .pinned } 2)) .tenant (tenant2 56 [5, 3, 0]) = [9, 0] := by
  decide +kernel

theorem test_set_level_over_budget :
    let s := holding { liveGrant with level := 0, counted := 4 } 0
    asked { s with levels := { s.levels with budget := { up := 15, down := 0 } } } 56 [5, 3, 255] =
      [19, 5, 0, 0, 16, 0, 15] := by decide +kernel

theorem test_assign_group :
    asked { live with levels := { live.levels with g3 := { trim := 100, mode := .cap } } } 57 [5, 3, 3] =
        [0, 3, 100, 0, 8] ∧ asked live 57 [5, 3, 5] = [4, 0] := by decide +kernel

theorem test_set_group :
    asked (holding { liveGrant with group := .g1 } 0) 58 [1, 155, 0] = [0, 4, 0, 12, 0, 0] ∧ asked live 58 [0, 1, 0] = [4, 0] ∧
      asked live 58 [4, 1, 0] = [4, 0] := by decide +kernel

theorem test_set_budget :
    asked live 59 [0, 0, 16] = [0, 0] ∧ asked live 59 [0, 0, 15] = [19, 5, 0, 0, 16, 0, 15] ∧
      (taking live .management (mgmt 59 [1, 255, 255])).levels.budget = { up := 1200, down := 65535 } := by decide +kernel

theorem test_read_levels :
    asked live 60 [] = [0, 17, 255, 0, 255, 0, 255, 0, 255, 255, 0, 0, 16, 4, 176, 0, 0, 23, 112] := by decide +kernel

theorem test_pilot_reading :
    let s := holding { liveGrant with group := .pilot, level := 255, counted := 4 } 0
    let s := { s with levels := { s.levels with pilot := { reading := 10, applied := 10, clamped := false }
                                                budget := { up := 8, down := 0 } } }
    let t := next (.pilotReading 255) s
    t.levels.pilot = { reading := 255, applied := 127, clamped := true } ∧ t.flagged .pilotClamp = true ∧
      (t.grant? 5).map (·.counted) = some 8 := by decide +kernel

/-! ### Moves -/

theorem test_move_reserved :
    asked reserved 64 [5, 3, 0, 0, 100, 2] = [0, 5, 1, 255, 0, 100, 255] ∧
      (taking reserved .management (mgmt 64 [5, 3, 0, 0, 100, 2])).occupancy .up =
        [{ handle := ⟨5, 3⟩, start := 100, width := 4 }] := by decide +kernel

theorem test_move_seamless_and_hard :
    asked live 64 [5, 3, 1, 0, 0, 0] = [1, 5, 5, 0, 0, 10, 1] ∧ asked live 64 [5, 3, 0, 0, 12, 1] = [1, 5, 5, 1, 0, 12, 0] ∧
      asked { live with levels := { live.levels with budget := { up := 31, down := 0 } } } 64 [5, 3, 0, 0, 12, 2] =
        [1, 5, 5, 1, 0, 12, 0] ∧
      asked { live with levels := { live.levels with budget := { up := 31, down := 0 } } } 64 [5, 3, 0, 0, 12, 0] =
        [19, 5, 0, 0, 32, 0, 31] := by decide +kernel

theorem test_move_refusals :
    asked moving 64 [5, 3, 1, 0, 0, 0] = [8, 0] ∧ asked (live.setPlanFrozen true) 64 [5, 3, 1, 0, 0, 0] = [11, 0] ∧
      asked live 64 [5, 3, 0, 0, 22, 0] = [17, 0] ∧ asked live 64 [5, 3, 0, 0, 9, 0] = [4, 0] ∧
      asked live 64 [5, 3, 0, 1, 150, 0] = [15, 0] ∧
      asked (holding { liveGrant with hold := .pinned } 0) 64 [5, 3, 1, 0, 0, 0] = [9, 0] := by decide +kernel

theorem test_moved_span_is_handed_over :
    let s := (reserved.setPosition 3 (.watch
      { target := .grant ⟨5, 3⟩, mode := .above, disposition := .compareOnly, action := .impair, enabled := true,
        condition := true })).withMonitor fun m =>
        { m with
          inFlight := some
            { tag := 0, position := 3, band := .up, start := 20, width := 4, handle := some ⟨5, 3⟩, void := false,
              timeout := 9 } }
    let t := taking s .management (mgmt 64 [5, 3, 0, 0, 100, 2])
    (t.monitor.position 3).condition = false ∧ (t.monitor.inFlight.map (·.void)) = some true ∧
      (t.grant? 5).map (fun g => (g.start, g.news)) = some (100, true) := by decide +kernel

theorem test_automatic_move :
    let ask : Ask := { handle := ⟨5, 3⟩, spanChanged := false }
    let asking := fun s : State => { s with engine := { s.engine with asks := [ask] } }
    ((next .automaticMove (asking live)).grant? 5).map (·.state) = some .moving ∧
      (next .automaticMove (asking live)).engine.asks = [] ∧
      next .automaticMove (asking reserved) = reserved ∧
      ((next .automaticMove (asking (live.withPlan { live.plan with
          active := live.plan.active.set 0
            (some { band := .up, first := 20, last := 23, classes := 1, frozen := false }) }))).entry 5).lastOutcome =
        .noTarget := by decide +kernel

theorem test_automatic_move_of_changed_span :
    next .automaticMove
        { live with engine := { live.engine with asks := [{ handle := ⟨5, 3⟩, spanChanged := true }] } } = live ∧
      next .automaticMove live = live := by decide +kernel

theorem test_fragmentation_level :
    [levelOfCounts 0 0, levelOfCounts 10 5, levelOfCounts 11 5, levelOfCounts 20 5, levelOfCounts 21 5, levelOfCounts 40 5,
      levelOfCounts 41 5] = [0, 0, 1, 1, 2, 2, 3] := by decide

theorem test_free_cells_and_largest_run :
    ready.freeCells .up = 398 ∧ live.freeCells .up = 394 ∧ live.largestRun .up = 384 ∧ moving.freeCells .up = 390 ∧
      live.largestRun .down = 1920 := by decide +kernel

/-! ### The ingress monitor -/

/-- A watch on entry 5's grant with limits 50 and 60. -/
def grantWatch (mode : CompareMode) (action : WatchAction) : Watch :=
  { target := .grant ⟨5, 3⟩, mode, disposition := .compareStore, action, enabled := true, condition := false }

/-- The watch at position 15, its limits at 15 and 31. -/
def watched (s : State) (w : Watch) : State := s.writeWatch 15 w 50 60

/-- A sweep that waits for the reading of position 15 at its step 15. -/
def sweeping (s : State) : State := ((watched s (grantWatch .outside .impairAndMove)).startSweep)

theorem test_set_watch_window :
    let s := taking live .management (mgmt 72 [15, 0, 5, 3, 0, 0, 0, 0, 3, 50, 60, 1, 2, 1])
    asked live 72 [15, 0, 5, 3, 0, 0, 0, 0, 3, 50, 60, 1, 2, 1] = [0, 1, 0] ∧
      s.monitor.position 15 = .watch (grantWatch .outside .impairAndMove) ∧ s.monitor.position 31 = .paired ∧
      s.monitor.thresholds[15] = 50 ∧ s.monitor.thresholds[31] = 60 := by decide +kernel

theorem test_set_watch_refusals :
    asked live 72 [16, 0, 5, 3, 0, 0, 0, 0, 3, 50, 60, 1, 2, 1] = [4, 0] ∧
      asked live 72 [15, 0, 5, 2, 0, 0, 0, 0, 3, 50, 60, 1, 2, 1] = [7, 3, 3, 3, 0] ∧
      asked (watched live (grantWatch .outside .impair)) 72 [31, 1, 0, 0, 1, 2, 4, 192, 0, 50, 0, 0, 3, 1] = [24, 0] ∧
      asked (live.writeWatch 31 (grantWatch .above .flag) 1 0) 72 [15, 0, 5, 3, 0, 0, 0, 0, 2, 50, 60, 1, 2, 1] =
        [24, 0] := by decide +kernel

theorem test_clear_watch :
    let s := watched live (grantWatch .outside .impair)
    asked s 73 [15] = [0, 1, 1] ∧ asked s 73 [31] = [24, 0] ∧ asked s 73 [0] = [0, 1, 0] ∧
      ((taking s .management (mgmt 73 [15])).monitor = live.monitor) := by decide +kernel

theorem test_clear_watch_withdraws :
    let s := (holding { liveGrant with state := .impaired, impairing := 1 } 0).setPosition 3
      (.watch { grantWatch .above .impair with condition := true })
    ((taking s .management (mgmt 73 [3])).grant? 5).map (fun g => (g.state, g.impairing, g.news)) =
      some (.live, 0, true) := by decide +kernel

theorem test_read_watch :
    asked (watched live (grantWatch .outside .impair)) 74 [15] =
        [0, 16, 1, 0, 5, 3, 0, 0, 0, 0, 3, 50, 60, 1, 1, 1, 0, 0] ∧
      asked (watched live (grantWatch .outside .impair)) 74 [31] =
        [0, 16, 2, 0, 0, 0, 0, 0, 15, 0, 0, 60, 0, 0, 0, 0, 0, 0] ∧
      asked live 74 [32] = [4, 0] := by decide +kernel

theorem test_set_sweep :
    let s := taking live .management (mgmt 75 [1, 234, 96, 1, 31, 3])
    s.monitor.settings = { mode := .periodic, period := 60000, order := .interleaved, start := 31, report := .eachHit } ∧
      s.monitor.periodTimer = some 60000 ∧ asked live 75 [0, 0, 99, 0, 0, 0] = [4, 0] ∧
      (taking live .management (mgmt 75 [2, 0, 100, 0, 0, 1])).monitor.fill = .b := by decide +kernel

theorem test_sweep_request :
    let s := watched live (grantWatch .above .flag)
    asked s 76 [] = [1, 1, 0] ∧ asked (sweeping live) 76 [] = [25, 0] ∧
      (taking s .management (mgmt 76 [])).monitor.inFlight =
        some { tag := 0, position := 15, band := .up, start := 20, width := 4, handle := some ⟨5, 3⟩, void := false,
               timeout := 50 } ∧
      (taking live .management (mgmt 76 [])).monitor.fill = .b := by decide +kernel

theorem test_period_timer :
    let s := live.withMonitor fun m => { m with periodTimer := some 0 }
    (next .periodTimerExpiry s).monitor.periodTimer = some 1000 ∧ (next .periodTimerExpiry s).monitor.fill = .b ∧
      (next .periodTimerExpiry (sweeping s)).flagged .sweepOverrun = true ∧ next .periodTimerExpiry live = live := by
  decide +kernel

theorem test_sweep_orders :
    let w : Sweep := { start := 2, order := .interleaved, step := 0, hit := false, sentAny := false }
    ((List.range 8).map w.visit) = [2, 3, 0, 1, 6, 7, 4, 5] ∧
      ((List.range 3).map { w with order := .sequential, start := 30 }.visit) = [30, 31, 0] := by decide +kernel

theorem test_reading_outside :
    let s := next (.reading 0 61) (sweeping live)
    s.monitor.hits = 2147516416 ∧ (s.grant? 5).map (fun g => (g.state, g.impairing)) = some (.impaired, 1) ∧
      s.engine.asks = [{ handle := ⟨5, 3⟩, spanChanged := false }] ∧ s.monitor.fill = .b ∧
      s.monitor.halfA[15] = { reading := 61, valid := true } ∧ s.monitor.sweep = none := by decide +kernel

theorem test_reading_on_limit_and_other_tag :
    ((next (.reading 0 60) (sweeping live)).grant? 5).map (·.state) = some .live ∧
      next (.reading 1 61) (sweeping live) = sweeping live ∧ next (.reading 0 61) live = live ∧
      (next (.reading 0 61) ((sweeping live).withMonitor (·.voidAt 15))).monitor.hits = 0 := by decide +kernel

theorem test_sense_timeout :
    (next .senseTimeout (sweeping live)).flagged .measureMissed = true ∧
      (next .senseTimeout (sweeping live)).monitor.inFlight = none ∧ next .senseTimeout live = live := by decide +kernel

theorem test_read_results :
    (asked (next (.reading 0 61) (sweeping live)) 77 []).take 3 = [0, 65, 0] ∧
      ((asked (next (.reading 0 61) (sweeping live)) 77 []).drop 33).take 3 = [61, 1, 0] := by decide +kernel

theorem test_hits :
    let s := next (.reading 0 61) (sweeping live)
    asked s 78 [] = [0, 8, 128, 0, 128, 0, 0, 0, 128, 0] ∧
      (taking s .management (mgmt 79 [128, 0, 0, 0])).monitor.hits = 32768 := by decide +kernel

/-! ### STATUS and RESTART -/

theorem test_status :
    asked live 91 [] =
        [0, 34, 1, 0, 16, 4, 176, 1, 138, 1, 128, 0, 15, 0, 1, 0, 0, 23, 112, 7, 128, 7, 128, 0, 32, 0, 0, 255, 0, 0, 0, 0,
          0, 255, 0, 0] ∧
      response live .tenant (tenant2 91 []) = [6, 0] := by decide +kernel

theorem test_restart_frees :
    let s := taking (live.raise .ready) .management (mgmt 92 [])
    s.entry 5 = { generation := 4, tenant := 0, lastOutcome := .revoked, grant := none } ∧
      (s.slot 0).state = .idle ∧ s.ports.summary = 2 ∧ (s.port .management).responses = [[92, 9, 0, 1, 0]] := by
  decide +kernel

theorem test_restart_keeps_pinned_and_decides :
    let s := onSlot (holding { liveGrant with hold := .pinned, lease := none, news := true } 0) 0 .carrying 0
    let staged := fun q : Plan => { s with plan := { s.plan with staged := some q } }
    (taking s .management (mgmt 92 [])).grant? 5 = some { liveGrant with hold := .pinned, lease := none } ∧
      asked (staged (s.plan.active.set 7 none)) 92 [] = [0, 1, 1] ∧
      asked (staged (s.plan.active.set 0 none)) 92 [] = [0, 1, 2] ∧
      (taking (staged (s.plan.active.set 0 none)) .management (mgmt 92 [])).flagged .planRejected = true := by
  decide +kernel

theorem test_restart_halts_detaches_and_sweeps :
    let s := (live.changeCount 1 (· + 1)).setPosition 3 (.watch
      { target := .grant ⟨5, 3⟩, mode := .above, disposition := .compareOnly, action := .impair, enabled := true,
        condition := true })
    let s := (s.setPosition 4 (.watch
      { target := .cells .up 10 4, mode := .above, disposition := .compareOnly, action := .block, enabled := true,
        condition := true })).withMonitor fun m => { m with settings := { m.settings with mode := .continuous } }
    let t := taking s .management (mgmt 92 [])
    t.pool.sent[0] = [.halt] ∧ t.occupancy .up = [] ∧ (t.profile 0).references = 0 ∧
      t.monitor.position 3 = .watch
        { target := .grant ⟨5, 3⟩, mode := .above, disposition := .compareOnly, action := .impair, enabled := false,
          condition := false } ∧
      (t.monitor.position 4).condition = false ∧ (t.monitor.inFlight.map (·.position)) = some 4 := by decide +kernel

/-! ### Laws -/

theorem test_slots_lawful_witness : ready.SlotsLawful := by
  intro j
  have : ready.slot j = { state := .idle, fails := 0, holder := none } := by simp [ready, State.slot]
  rw [this]
  exact ⟨by decide, by simp, by simp⟩

theorem test_pinned_witness :
    let s := holding { liveGrant with hold := .pinned, lease := none } 0
    (s.grant? 5).map (·.hold) = some .pinned ∧ s.PinsLawful ∧ s.MovesLawful := by
  have h5 : (holding { liveGrant with hold := .pinned, lease := none } 0).grant? 5 =
      some { liveGrant with hold := .pinned, lease := none } := by decide +kernel
  have hi : ∀ i : Fin 64, i ≠ 5 → (holding { liveGrant with hold := .pinned, lease := none } 0).grant? i = none := by
    decide +kernel
  refine ⟨by decide +kernel, ?_, ?_⟩ <;> intro i g h <;> by_cases e : i = 5
  · subst e; rw [h5] at h; cases h; decide
  · rw [hi i e] at h; cases h
  · subst e; rw [h5] at h; cases h; decide
  · rw [hi i e] at h; cases h

/-- The state of `live` holds one grant. -/
theorem live_grants {i : Fin 64} {g : Grant} (h : live.grant? i = some g) : i = 5 ∧ g = liveGrant := by
  have l : ∀ i : Fin 64, i ≠ 5 → live.grant? i = none := by decide +kernel
  by_cases e : i = 5
  · subst e
    have l5 : live.grant? 5 = some liveGrant := by decide +kernel
    exact ⟨rfl, Option.some.inj (h.symm.trans l5)⟩
  · rw [l i e] at h; cases h

theorem test_table_lawful_witness : live.TableLawful where
  items b it := by
    have hu : live.occupancy .up = [{ handle := ⟨5, 3⟩, start := 20, width := 4 }] := by decide +kernel
    have hd : live.occupancy .down = [] := by decide +kernel
    have hh : live.handleOf 5 = ⟨5, 3⟩ := by decide +kernel
    have l5 : live.grant? 5 = some liveGrant := by decide +kernel
    constructor
    · intro h
      cases b
      · rw [hu] at h
        have := List.mem_singleton.mp h
        subst this
        exact ⟨liveGrant, l5, rfl, by rw [hh]; rfl⟩
      · rw [hd] at h; cases h
    · rintro ⟨g, hg, rfl, h⟩
      obtain ⟨e, rfl⟩ := live_grants hg
      rw [h, e, hh]
      exact hu ▸ List.mem_singleton.mpr rfl
  ordered b := by cases b <;> decide +kernel
  spans b := by
    have hu : live.heldSpans .up =
        [{ entry := 5, isTarget := false, start := 20, width := 4, cls := .data, edge := 0 }] := by decide +kernel
    have hd : live.heldSpans .down = [] := by decide +kernel
    cases b
    · rw [hu]; exact List.pairwise_singleton ..
    · rw [hd]; exact List.Pairwise.nil
  widths i g h := by rw [(live_grants h).2]; decide
  counts := by decide +kernel
  references := by decide +kernel
  ready i g h := by rw [(live_grants h).2]; decide +kernel
  expansions := by decide +kernel
  settling := by decide +kernel
  settle k n h := by
    have : ∀ k, (live.profile k).settle = none := by decide +kernel
    rw [this k] at h; cases h

theorem test_regions_lawful_witness : live.RegionsLawful where
  active :=
    { good := by
        intro k x h
        have : ∀ k : Fin 8, ∀ x ∈ live.plan.active[k], bandFirst x.band ≤ x.first ∧ x.first ≤ x.last ∧
            x.last ≤ bandLast x.band ∧ x.classes ≠ 0 := by decide +kernel
        exact this k x h
      apart := by
        intro j k x y hn hx hy
        have : ∀ j k : Fin 8, j ≠ k → ∀ x ∈ live.plan.active[j], ∀ y ∈ live.plan.active[k], x.band = y.band →
            x.last < y.first ∨ y.last < x.first := by decide +kernel
        exact this j k hn x hx y hy }
  staged q h := by
    have : live.plan.staged = none := by decide +kernel
    rw [this] at h; cases h
  current i g h := by rw [(live_grants h).2]; decide +kernel
  target i g m h hm := by rw [(live_grants h).2] at hm; cases hm

theorem test_loads_lawful_witness : live.LoadsLawful where
  follows i g h _ := by rw [(live_grants h).2]; decide +kernel
  silent i g h hs := by rw [(live_grants h).2] at hs; exact absurd hs (by decide)
  budget b := by cases b <;> decide +kernel
  applied := by decide +kernel
  clamped := by decide +kernel

theorem test_monitor_lawful_witness : live.MonitorLawful where
  counts i g h := by rw [(live_grants h).1, (live_grants h).2]; decide +kernel
  live i g h _ := by rw [(live_grants h).2]; rfl
  impaired i g h hs := by rw [(live_grants h).2] at hs; cases hs
  current n w h hn := by
    have : ∀ n, live.monitor.position n = .empty := by decide +kernel
    rw [this n] at hn; cases hn
  windows n w hn := by
    have : ∀ n, live.monitor.position n = .empty := by decide +kernel
    rw [this n] at hn; cases hn
  pairs n := by
    have e : ∀ n, live.monitor.position n = .empty := by decide +kernel
    constructor
    · intro h; rw [e n] at h; cases h
    · rintro ⟨_, w, h, _⟩; rw [e] at h; cases h

end Sys2Proof.Tests
end

section
/-! ## The values that cold reset leaves (R2, R10, R13, R19, R26, R90, R103, R117, R120, R163, R184) -/

namespace Sys2Proof.Machine

theorem State.entry_reset (i : Fin 64) : State.reset.entry i = Entry.cold := by
  simp [State.entry, State.reset, GrantTable.cold]

theorem State.grant_reset (i : Fin 64) : State.reset.grant? i = none := by
  simp [State.grant?, State.entry_reset, Entry.cold]

theorem State.occupancy_reset (b : Band) : State.reset.occupancy b = [] := by
  cases b <;> rfl

theorem State.heldSpans_reset (b : Band) : State.reset.heldSpans b = [] := by
  simp [State.heldSpans, State.occupancy_reset]

theorem State.bandLoad_reset (b : Band) : State.reset.bandLoad b = 0 := by
  simp [State.bandLoad, State.grant_reset]

theorem State.counts_reset (k : Fin 15) : State.reset.table.counts[k] = 0 := by
  simp [State.reset, GrantTable.cold]

theorem State.slot_reset (j : SlotId) : State.reset.slot j = Slot.underTest := by
  simp [State.slot, State.reset, SlotPool.cold]

/-- Profile 0 is READY after cold reset, every other one UNDEFINED (R90). -/
theorem State.profile_reset (k : Fin 8) :
    State.reset.profile k =
      if k = 0 then { Profile.cleared with state := .ready, order := .qam256, expansion := 1, classes := 0b111#3 }
      else Profile.cleared := by
  revert k
  decide

theorem State.position_reset (n : Fin 32) : State.reset.monitor.position n = .empty := by
  simp [Monitor.position, State.reset, Monitor.cold]

/-- No news and no response stand after cold reset, so that both IRQ lines are inactive (R187). -/
theorem State.irq_reset (p : Port) : State.reset.irq p = false := by
  cases p with
  | management => rfl
  | tenant =>
    have : State.reset.newsPending = false := by simp [State.newsPending, State.grant_reset]
    simp [State.irq, State.tenantIrq, this]
    rfl

/-- The plan after cold reset has the two regions that fill the bands (R2). -/
theorem Plan.cold_record {k : Fin 8} {x : Region} (h : Plan.cold[k] = some x) :
    (k = 0 ∧ x = { band := .up, first := 10, last := 407, classes := 0b101#3, frozen := false }) ∨
      (k = 1 ∧ x = { band := .down, first := 516, last := 2435, classes := 0b111#3, frozen := false }) := by
  have records : ∀ k : Fin 8, Plan.cold[k] =
      if k = 0 then some { band := .up, first := 10, last := 407, classes := 0b101#3, frozen := false }
      else if k = 1 then some { band := .down, first := 516, last := 2435, classes := 0b111#3, frozen := false }
      else none := by decide
  rw [records] at h
  split at h
  · exact .inl ⟨‹_›, by simpa using h.symm⟩
  · split at h
    · exact .inr ⟨‹_›, by simpa using h.symm⟩
    · cases h

theorem Plan.cold_lawful : Plan.cold.Lawful where
  good k x h := by
    obtain ⟨-, rfl⟩ | ⟨-, rfl⟩ := Plan.cold_record h <;> decide
  apart j k x y hn hx hy hb := by
    obtain ⟨rfl, rfl⟩ | ⟨rfl, rfl⟩ := Plan.cold_record hx <;>
      obtain ⟨rfl, rfl⟩ | ⟨rfl, rfl⟩ := Plan.cold_record hy <;> simp_all

/-! ### The laws at reset -/

theorem State.queuesBounded_reset : State.reset.QueuesBounded := by
  intro p
  cases p <;> decide

theorem State.slotsLawful_reset : State.reset.SlotsLawful := by
  intro j
  rw [State.slot_reset]
  exact ⟨by decide, by decide, by decide⟩

theorem State.tableLawful_reset : State.reset.TableLawful where
  items b it := by simp [State.occupancy_reset, State.grant_reset]
  ordered b := by simp [State.occupancy_reset]
  spans b := by simp [State.heldSpans_reset]
  widths i g h := by simp [State.grant_reset] at h
  counts k := by
    rw [State.counts_reset]
    simp [State.grant_reset]
  references k := by
    simp only [State.grant_reset, State.profile_reset]
    split <;> simp [Profile.cleared]
  ready i g h := by simp [State.grant_reset] at h
  expansions k h := by
    rw [State.profile_reset] at h ⊢
    split at h <;> simp_all [Profile.cleared]
  settling k := by
    rw [State.profile_reset]
    split <;> simp [Profile.cleared]
  settle k n h := by
    rw [State.profile_reset] at h
    split at h <;> simp [Profile.cleared] at h

theorem State.regionsLawful_reset : State.reset.RegionsLawful where
  active := Plan.cold_lawful
  staged q h := by cases h
  current i g h := by simp [State.grant_reset] at h
  target i g m h := by simp [State.grant_reset] at h

theorem State.loadsLawful_reset : State.reset.LoadsLawful where
  follows i g h := by simp [State.grant_reset] at h
  silent i g h := by simp [State.grant_reset] at h
  budget b := by simp [State.bandLoad_reset]
  applied := by decide
  clamped := by decide

theorem State.monitorLawful_reset : State.reset.MonitorLawful where
  counts i g h := by simp [State.grant_reset] at h
  live i g h := by simp [State.grant_reset] at h
  impaired i g h := by simp [State.grant_reset] at h
  current n w h hn := by simp [State.position_reset] at hn
  windows n w hn := by simp [State.position_reset] at hn
  pairs n := by simp [State.position_reset]

end Sys2Proof.Machine

namespace Sys2Proof.Proofs
open Sys2Proof.Machine

theorem planAndTableAtReset : PlanAndTableAtReset := by
  refine ⟨rfl, rfl, by decide, rfl, rfl, fun k => ?_, rfl, State.entry_reset, State.occupancy_reset, fun k => ?_, rfl⟩
  · simp [State.reset, PlanStore.cold]
  · simp [State.reset, GrantTable.cold]

theorem blocksAtReset : BlocksAtReset := by
  refine ⟨State.profile_reset 0, fun k hk => ?_, State.slot_reset, fun j => ?_, rfl, rfl, rfl, rfl, rfl, rfl, rfl,
    State.bandLoad_reset, rfl, fun b => ?_, rfl⟩
  · simp [State.profile_reset, hk, Profile.cleared]
  · simp [State.reset, SlotPool.cold]
  · cases b <;> rfl

theorem monitorAndPortsAtReset : MonitorAndPortsAtReset := by
  refine ⟨fun n => ⟨State.position_reset n, ?_⟩, rfl, fun n => ?_, rfl, rfl, rfl, rfl, rfl, rfl, fun p => ?_, rfl, rfl,
    rfl, rfl, State.irq_reset⟩
  · simp [State.reset, Monitor.cold]
  · simp [State.reset, Monitor.cold, ResultEntry.cold]
  · cases p <;> exact ⟨rfl, rfl⟩

/-- Settles O3, block by block. -/
theorem resetValues : Obligations.ResetValues :=
  ⟨planAndTableAtReset, blocksAtReset, monitorAndPortsAtReset⟩

/-- Settles O60, law by law: no entry holds a grant after reset, and no position a watch. -/
theorem lawsHoldAtReset : Obligations.LawsHoldAtReset :=
  ⟨State.queuesBounded_reset, State.slotsLawful_reset, fun i g h => by simp [State.grant_reset] at h,
    fun i g h => by simp [State.grant_reset] at h, State.tableLawful_reset, State.regionsLawful_reset,
    State.loadsLawful_reset, State.monitorLawful_reset⟩

end Sys2Proof.Proofs
end

section
/-! ## Coded fields: which value each code names (R40, R93), and what lies in a range (R1) -/

namespace Sys2Proof.Machine

theorem bandOfCode_eq_some_iff (n : Nat) (b : Band) : bandOfCode n = some b ↔ n = bandCode b := by
  unfold bandOfCode
  split <;> cases b <;> simp_all [bandCode]

theorem clsOfCode_eq_some_iff (n : Nat) (c : Cls) : clsOfCode n = some c ↔ n = c.code := by
  unfold clsOfCode
  split <;> cases c <;> simp_all [Cls.code]

theorem yesNoOfCode_eq_some_iff (n : Nat) (x : Bool) : yesNoOfCode n = some x ↔ n = x.toNat := by
  unfold yesNoOfCode
  split <;> cases x <;> simp_all

theorem holdOfCode_eq_some_iff (n : Nat) (h : HoldClass) : holdOfCode n = some h ↔ n = h.code := by
  unfold holdOfCode
  split <;> cases h <;> simp_all [HoldClass.code]

theorem groupOfCode_eq_some_iff (n : Nat) (g : Group) : groupOfCode n = some g ↔ n = g.code := by
  unfold groupOfCode
  split <;> cases g <;> simp_all [Group.code]

theorem compareModeOfCode_eq_some_iff (n : Nat) (m : CompareMode) : compareModeOfCode n = some m ↔ n = m.code := by
  unfold compareModeOfCode
  split <;> cases m <;> simp_all [CompareMode.code]

theorem dispositionOfCode_eq_some_iff (n : Nat) (d : Disposition) : dispositionOfCode n = some d ↔ n = d.code := by
  unfold dispositionOfCode
  split <;> cases d <;> simp_all [Disposition.code]

theorem watchActionOfCode_eq_some_iff (n : Nat) (a : WatchAction) : watchActionOfCode n = some a ↔ n = a.code := by
  unfold watchActionOfCode
  split <;> cases a <;> simp_all [WatchAction.code]

theorem classSetOfCode_eq_some_iff (n : Nat) (c : ClassSet) :
    classSetOfCode n = some c ↔ n < 8 ∧ c = BitVec.ofNat 3 n := by
  simp [classSetOfCode, eq_comm]

theorem indexOf_eq_some_iff (n : Nat) (k : Fin 8) : indexOf n = some k ↔ n = k.val := by
  unfold indexOf
  split <;> simp [Fin.ext_iff]
  omega

theorem positionOf_eq_some_iff (n : Nat) (k : Fin 32) : positionOf n = some k ↔ n = k.val := by
  unfold positionOf
  split <;> simp [Fin.ext_iff]
  omega

theorem Req.entry_eq_some_iff (r : Req) (k : Nat) (i : Fin 64) : r.entry k = some i ↔ r.byte k = i.val := by
  unfold Req.entry
  split <;> simp [Fin.ext_iff]
  omega

theorem tenantPlace_eq_some_iff (t : Nat) (k : Fin 15) : tenantPlace t = some k ↔ t = k.val + 1 := by
  unfold tenantPlace
  split <;> simp [Fin.ext_iff] <;> omega

/-- A set byte and a clear byte are read when exactly one of them is indicated (R7, R84). -/
theorem setOrClear_eq_some_iff (m n : Nat) (x : Bool) : setOrClear m n = some x ↔ m = x.toNat ∧ n = (!x).toNat := by
  unfold setOrClear yesNoOfCode
  match m, n with
  | 0, 0 | 0, 1 | 0, _ + 2 | 1, 0 | 1, 1 | 1, _ + 2 | _ + 2, 0 | _ + 2, 1 | _ + 2, _ + 2 => cases x <;> simp

theorem slotOf_eq_some_iff (b : Band) (n : Nat) (j : SlotId) :
    slotOf b n = some j ↔ b = slotBand j ∧ n = slotNumber j := by
  have hj := j.isLt
  unfold slotOf slotBand slotNumber
  cases b <;> by_cases h : j.val < 16 <;> simp [h, Fin.ext_iff] <;> omega

/-! ### Fields in range, read as bounds -/

theorem isSome_bandOfCode (n : Nat) : (bandOfCode n).isSome = true ↔ n ≤ 1 := by
  match n with
  | 0 | 1 | _ + 2 => simp [bandOfCode]

theorem isSome_yesNoOfCode (n : Nat) : (yesNoOfCode n).isSome = true ↔ n ≤ 1 := by
  match n with
  | 0 | 1 | _ + 2 => simp [yesNoOfCode]

theorem isSome_clsOfCode (n : Nat) : (clsOfCode n).isSome = true ↔ n ≤ 2 := by
  match n with
  | 0 | 1 | 2 | _ + 3 => simp [clsOfCode]

theorem isSome_groupOfCode (n : Nat) : (groupOfCode n).isSome = true ↔ n ≤ 4 := by
  match n with
  | 0 | 1 | 2 | 3 | 4 | _ + 5 => simp [groupOfCode]

theorem isSome_groupModeOfCode (n : Nat) : (groupModeOfCode n).isSome = true ↔ n ≤ 1 := by
  match n with
  | 0 | 1 | _ + 2 => simp [groupModeOfCode]

theorem isSome_modOrderOfCode (n : Nat) : (modOrderOfCode n).isSome = true ↔ n ≤ 5 := by
  match n with
  | 0 | 1 | 2 | 3 | 4 | 5 | _ + 6 => simp [modOrderOfCode]

theorem isSome_sweepModeOfCode (n : Nat) : (sweepModeOfCode n).isSome = true ↔ n ≤ 2 := by
  match n with
  | 0 | 1 | 2 | _ + 3 => simp [sweepModeOfCode]

theorem isSome_sweepOrderOfCode (n : Nat) : (sweepOrderOfCode n).isSome = true ↔ n ≤ 1 := by
  match n with
  | 0 | 1 | _ + 2 => simp [sweepOrderOfCode]

theorem isSome_reportOfCode (n : Nat) : (reportOfCode n).isSome = true ↔ n ≤ 3 := by
  match n with
  | 0 | 1 | 2 | 3 | _ + 4 => simp [reportOfCode]

theorem isSome_moveKindOfCode (n : Nat) : (moveKindOfCode n).isSome = true ↔ n ≤ 2 := by
  match n with
  | 0 | 1 | 2 | _ + 3 => simp [moveKindOfCode]

theorem isSome_indexOf (n : Nat) : (indexOf n).isSome = true ↔ n < 8 := by
  unfold indexOf
  split <;> simp_all

theorem isSome_positionOf (n : Nat) : (positionOf n).isSome = true ↔ n < 32 := by
  unfold positionOf
  split <;> simp_all

theorem isSome_classSetOfCode (n : Nat) : (classSetOfCode n).isSome = true ↔ n < 8 := by
  unfold classSetOfCode
  split <;> simp_all

theorem isSome_tenantPlace (t : Nat) : (tenantPlace t).isSome = true ↔ 1 ≤ t ∧ t ≤ 15 := by
  unfold tenantPlace
  split <;> simp_all

theorem Req.isSome_entry (r : Req) (k : Nat) : (r.entry k).isSome = true ↔ r.byte k < 64 := by
  unfold Req.entry
  split <;> simp_all

theorem isSome_setOrClear (m n : Nat) : (setOrClear m n).isSome = true ↔ m + n = 1 := by
  simp only [Option.isSome_iff_exists, setOrClear_eq_some_iff]
  constructor
  · rintro ⟨x, rfl, rfl⟩
    cases x <;> rfl
  · intro h
    obtain ⟨rfl, rfl⟩ | ⟨rfl, rfl⟩ : (m = 1 ∧ n = 0) ∨ (m = 0 ∧ n = 1) := by omega
    · exact ⟨true, rfl, rfl⟩
    · exact ⟨false, rfl, rfl⟩

theorem cellInBand_iff (b : Band) (c : Nat) : cellInBand b c = true ↔ bandFirst b ≤ c ∧ c ≤ bandLast b := by
  simp [cellInBand]

theorem spanInBand_iff (b : Band) (start width : Nat) :
    spanInBand b start width = true ↔ 1 ≤ width ∧ bandFirst b ≤ start ∧ start + width ≤ bandLast b + 1 := by
  simp [spanInBand, and_assoc]

theorem grantable_iff (c : Nat) : grantable c = true ↔ ∃ b, bandFirst b ≤ c ∧ c ≤ bandLast b := by
  simp only [grantable, Bool.or_eq_true, cellInBand_iff]
  constructor
  · rintro (h | h)
    · exact ⟨.up, h⟩
    · exact ⟨.down, h⟩
  · rintro ⟨_ | _, h⟩
    · exact .inl h
    · exact .inr h

end Sys2Proof.Machine
end

section
/-! ## The plan store requests (R4 to R18) -/

namespace Sys2Proof.Machine

/-! ### Region records staged, frozen and read (R5 to R9) -/

/-- A present record clashes with a plan exactly when it shares a cell with a present record at another index. -/
theorem Plan.clashes_some_iff (p : Plan) (k : Fin 8) (x : Region) :
    p.clashes k (some x) = true ↔
      ∃ (k' : Fin 8) (y : Region), k' ≠ k ∧ p[k'] = some y ∧ y.band = x.band ∧ x.first ≤ y.last ∧ y.first ≤ x.last := by
  simp only [Plan.clashes, List.any_eq_true, Prod.exists, Plan.mem_present_iff, Region.overlaps, Bool.and_eq_true,
    bne_iff_ne, beq_iff_eq, decide_eq_true_eq]
  constructor
  · rintro ⟨_, y, ⟨j, rfl, hj⟩, hn, ⟨hb, h1⟩, h2⟩
    exact ⟨j, y, fun e => hn (congrArg Fin.val e), hj, hb.symm, h1, h2⟩
  · rintro ⟨j, y, hn, hj, hb, h1, h2⟩
    exact ⟨j.val, y, ⟨j, rfl, hj⟩, fun e => hn (Fin.ext e), ⟨hb.symm, h1⟩, h2⟩

/-- A STAGE_REGION of an absent record, whose other fields are not examined (R5). -/
theorem writtenRecord_absent {r : Req} (h : r.byte 1 = 0) : writtenRecord r = some none := by
  simp [writtenRecord, h, yesNoOfCode]

/-- A STAGE_REGION of a present record whose fields are in range (R5). -/
theorem writtenRecord_present {r : Req} {b : Band} {frozen : Bool} (h : r.byte 1 = 1) (hb : r.byte 2 = bandCode b)
    (hf : r.byte 8 = frozen.toNat) (h1 : bandFirst b ≤ r.word 3) (h2 : r.word 3 ≤ r.word 5)
    (h3 : r.word 5 ≤ bandLast b) (h4 : 1 ≤ r.byte 7) (h5 : r.byte 7 ≤ 7) :
    writtenRecord r =
      some (some
        { band := b, first := r.word 3, last := r.word 5, classes := BitVec.ofNat 3 (r.byte 7), frozen }) := by
  have hc : BitVec.ofNat 3 (r.byte 7) ≠ 0#3 := by
    intro e
    have := congrArg BitVec.toNat e
    simp at this
    omega
  have hs : classSetOfCode (r.byte 7) = some (BitVec.ofNat 3 (r.byte 7)) :=
    (classSetOfCode_eq_some_iff ..).2 ⟨by omega, rfl⟩
  have c3 : cellInBand b (r.word 3) = true := (cellInBand_iff ..).2 ⟨h1, by omega⟩
  have c5 : cellInBand b (r.word 5) = true := (cellInBand_iff ..).2 ⟨by omega, h3⟩
  have present : yesNoOfCode (r.byte 1) = some true := by rw [h]; rfl
  simp [writtenRecord, present, presentRecord, (bandOfCode_eq_some_iff ..).2 hb, hs,
    (yesNoOfCode_eq_some_iff ..).2 hf, c3, c5, h2, hc]

/-- STAGE_REGION from management, once its fields are read. -/
theorem stageRegion_eq {r : Req} {s : State} {k : Fin 8} {record : Option Region} (hp : r.port = .management)
    (hk : r.byte 0 = k.val) (hr : writtenRecord r = some record) :
    stageRegion r s =
      if s.plan.base.clashes k record then refuse s .overlap
      else answerDone (s.withPlan { s.plan with staged := some (s.plan.base.set k record) }) := by
  simp only [stageRegion, (indexOf_eq_some_iff ..).2 hk, hr, managementRequest_pass hp]

/-- FREEZE_REGION from management, once its fields are read. -/
theorem freezeRegion_eq {r : Req} {s : State} {k : Fin 8} {flag : Bool} (hp : r.port = .management)
    (hk : r.byte 0 = k.val) (h1 : r.byte 1 = flag.toNat) (h2 : r.byte 2 = (!flag).toNat) :
    freezeRegion r s =
      if s.plan.knows k then
        answerDone (s.withPlan
          { s.plan with
            active := s.plan.active.freeze k flag
            staged := s.plan.staged.map fun (q : Plan) => q.freeze k flag })
      else refuse s .badParam := by
  simp only [freezeRegion, (indexOf_eq_some_iff ..).2 hk, (setOrClear_eq_some_iff ..).2 ⟨h1, h2⟩, managementRequest,
    managementOnly, hp, if_true]

/-- READ_REGION from management, once its fields are read. -/
theorem readRegion_eq {r : Req} {s : State} {k : Fin 8} (hp : r.port = .management) (hk : r.byte 0 = k.val)
    (hs : r.byte 1 < 2) :
    readRegion r s =
      answerDone s
        (flagByte s.plan.staged.isSome :: recordBytes (if r.byte 1 = 1 then s.plan.base else s.plan.active)[k]) := by
  obtain h | h : r.byte 1 = 0 ∨ r.byte 1 = 1 := by omega
  all_goals simp [readRegion, (indexOf_eq_some_iff ..).2 hk, h, yesNoOfCode, managementRequest_pass hp]

/-- A region is known when a present record of its index stands in the active plan or in a present staged one (R7). -/
theorem PlanStore.knows_iff (p : PlanStore) (k : Fin 8) :
    p.knows k = true ↔ p.active[k].isSome = true ∨ ∃ q, p.staged = some q ∧ q[k].isSome = true := by
  unfold PlanStore.knows
  cases p.staged <;> simp

theorem Plan.freeze_eq (p : Plan) (k : Fin 8) (flag : Bool) :
    p.freeze k flag = p.set k (p[k].map fun (x : Region) => { x with frozen := flag }) := rfl

/-! ### The guard check (R12): held spans in order, and the first pair too close -/

theorem insertHeld_perm (h : Held) (l : List Held) : (insertHeld h l).Perm (h :: l) := by
  induction l with
  | nil => rfl
  | cons x xs ih =>
    unfold insertHeld
    split
    · rfl
    · exact (ih.cons x).trans (.swap ..)

theorem sortHeld_perm (l : List Held) : (sortHeld l).Perm l := by
  induction l with
  | nil => rfl
  | cons x xs ih => exact (insertHeld_perm x _).trans (ih.cons x)

theorem insertHeld_sorted (h : Held) {l : List Held} (hl : l.Pairwise fun x y => x.start ≤ y.start) :
    (insertHeld h l).Pairwise fun x y => x.start ≤ y.start := by
  induction l with
  | nil => exact List.pairwise_singleton ..
  | cons x xs ih =>
    obtain ⟨hx, hxs⟩ := List.pairwise_cons.1 hl
    unfold insertHeld
    split
    · rename_i hle
      refine List.pairwise_cons.2 ⟨fun y hy => ?_, hl⟩
      rcases List.mem_cons.1 hy with rfl | hy
      · exact hle
      · exact hle.trans (hx y hy)
    · refine List.pairwise_cons.2 ⟨fun y hy => ?_, ih hxs⟩
      rcases List.mem_cons.1 ((insertHeld_perm h xs).mem_iff.1 hy) with rfl | hy
      · omega
      · exact hx y hy

theorem sortHeld_sorted (l : List Held) : (sortHeld l).Pairwise fun x y => x.start ≤ y.start := by
  induction l with
  | nil => exact .nil
  | cons x xs ih => exact insertHeld_sorted x ih

/-- The lower of two held spans keeps its required gap to the upper one under a matrix (R11). -/
def Held.Keeps (m : GuardMatrix) (x y : Held) : Prop :=
  m.entry x.cls y.cls + max x.edge y.edge ≤ gapBetween x.start x.width y.start y.width

theorem Held.keeps_iff (m : GuardMatrix) (x y : Held) :
    Held.Keeps m x y ↔ ¬gapBetween x.start x.width y.start y.width < requiredGap m x.cls x.edge y := by
  simp [Held.Keeps, requiredGap]

theorem firstOffence_of_pairwise {m : GuardMatrix} {l : List Held} (h : l.Pairwise (Held.Keeps m)) :
    firstOffence m l = none := by
  induction l with
  | nil => rfl
  | cons low rest ih =>
    obtain ⟨hlow, hrest⟩ := List.pairwise_cons.1 h
    have : rest.find? (fun high =>
        gapBetween low.start low.width high.start high.width < requiredGap m low.cls low.edge high) = none :=
      List.find?_eq_none.2 fun y hy => by simpa using (Held.keeps_iff ..).1 (hlow y hy)
    simp only [firstOffence, this, ih hrest]

/-- The pair that the check names is the first that does not keep its gap, by the lower span and then by the upper. -/
theorem firstOffence_of_firstOffending {m : GuardMatrix} {l : List Held} {x y : Held}
    (h : FirstOffending (Held.Keeps m) l x y) : firstOffence m l = some (x, y) := by
  induction l with
  | nil =>
    obtain ⟨i, j, -, hx, -⟩ := h
    simp at hx
  | cons low rest ih =>
    obtain ⟨i, j, hij, hx, hy, hxy, before⟩ := h
    obtain ⟨j, rfl⟩ : ∃ n, j = n + 1 := ⟨j - 1, by omega⟩
    simp only [List.getElem?_cons_succ] at hy
    cases i with
    | zero =>
      obtain rfl : low = x := by simpa using hx
      have found : rest.find? (fun high =>
          gapBetween low.start low.width high.start high.width < requiredGap m low.cls low.edge high) = some y := by
        obtain ⟨hj, rfl⟩ := List.getElem?_eq_some_iff.1 hy
        refine List.find?_eq_some_iff_getElem.2 ⟨by simpa [Held.keeps_iff] using hxy, j, hj, rfl, fun n hn => ?_⟩
        have := before 0 (n + 1) low rest[n] (by omega) (.inr ⟨rfl, by omega⟩) rfl (by simp)
        simpa [Held.keeps_iff] using this
      simp only [firstOffence, found]
    | succ i =>
      simp only [List.getElem?_cons_succ] at hx
      have none : rest.find? (fun high =>
          gapBetween low.start low.width high.start high.width < requiredGap m low.cls low.edge high) = none := by
        refine List.find?_eq_none.2 fun z hz => ?_
        obtain ⟨n, hn⟩ := List.mem_iff_getElem?.1 hz
        have := before 0 (n + 1) low z (by omega) (.inl (by omega)) rfl (by simpa using hn)
        simpa [Held.keeps_iff] using this
      simp only [firstOffence, none]
      refine ih ⟨i, j, by omega, hx, hy, hxy, fun i' j' x' y' hlt hbefore hx' hy' => ?_⟩
      exact before (i' + 1) (j' + 1) x' y' (by omega) (by omega) (by simpa using hx') (by simpa using hy')

theorem guardsOf_inRange {r : Req} (h : ∀ k < 6, r.byte k ≤ 16) : ((guardsOf r).values.all fun v => v ≤ 16) = true := by
  simp [GuardMatrix.values, guardsOf, h]

/-- SET_GUARD from management when no pair offends. -/
theorem setGuard_done {r : Req} {s : State} (hp : r.port = .management) (h : ∀ k < 6, r.byte k ≤ 16)
    (e : s.guardConflict (guardsOf r) = none) :
    setGuard r s = answerDone (s.withPlan { s.plan with guards := guardsOf r }) := by
  simp only [setGuard, e]
  exact managementRequest_pass hp (guardsOf_inRange h)

/-- SET_GUARD from management when a pair offends. -/
theorem setGuard_conflict {r : Req} {s : State} {low high : Held} (hp : r.port = .management)
    (h : ∀ k < 6, r.byte k ≤ 16) (e : s.guardConflict (guardsOf r) = some (low, high)) :
    setGuard r s = refuse s .guardConflict (s.handleBytes low.entry ++ s.handleBytes high.entry) := by
  simp only [setGuard, e]
  exact managementRequest_pass hp (guardsOf_inRange h)

/-! ### Tenants (R13 to R15) -/

theorem State.directoryEntry_eq (s : State) {t : Nat} {k : Fin 15} (h : t = k.val + 1) :
    s.directoryEntry t = some s.plan.directory[k] := by
  simp [State.directoryEntry, (tenantPlace_eq_some_iff ..).2 h]

theorem tenantPlace_eq_none {t : Nat} (h : t = 0 ∨ 15 < t) : tenantPlace t = none := by
  unfold tenantPlace
  rw [dif_neg (by omega)]

/-- SET_TENANT from management with its fields in range. -/
theorem setTenant_eq {r : Req} {s : State} {k : Fin 15} {enabled : Bool} {c : Cls} (hp : r.port = .management)
    (hk : r.byte 0 = k.val + 1) (he : r.byte 1 = enabled.toNat) (hc : r.byte 2 = c.code) (hq : r.byte 3 ≤ 64) :
    setTenant r s =
      if s.plan.directory[k].cls ≠ c ∧ s.table.counts[k] ≠ 0 then refuse s .inUse
      else
        answerDone (s.withPlan
          { s.plan with directory := s.plan.directory.set k { enabled, cls := c, quota := r.byte 3 } }) := by
  simp only [setTenant, (tenantPlace_eq_some_iff ..).2 hk, (yesNoOfCode_eq_some_iff ..).2 he,
    (clsOfCode_eq_some_iff ..).2 hc, managementRequest_pass hp (decide_eq_true hq)]

/-! ### Plan settings (R16, R17) -/

/-- The six settings of a SET_PLAN_SETTINGS (R16). -/
theorem settingsOf_eq {r : Req} {up down : Bool} (hu : r.byte 6 = up.toNat) (hd : r.byte 7 = down.toNat) :
    settingsOf r =
      some
        { quietInterval := r.word 0, holdTime := r.word 2, reserve := { up := r.byte 4, down := r.byte 5 },
          autoRepack := { up, down } } := by
  simp only [settingsOf, (yesNoOfCode_eq_some_iff ..).2 hu, (yesNoOfCode_eq_some_iff ..).2 hd]

theorem Settings.inRange_iff (x : Settings) :
    x.inRange = true ↔ x.quietInterval ≤ 10000 ∧ 1 ≤ x.holdTime ∧ x.holdTime ≤ 600 ∧ x.reserve.up ≤ 4 ∧
      x.reserve.down ≤ 4 := by
  simp [Settings.inRange, and_assoc]

/-- A switch that was off and is on starts a repack at level 3 when none runs and the plan is not frozen (R17). -/
theorem State.switchStart_eq (s : State) (old : Settings) (b : Band) {new : Bool}
    (hn : s.plan.settings.autoRepack.get b = new) :
    s.switchStart old b =
      if old.autoRepack.get b = false ∧ new = true ∧ s.engine.frag.get b = 3 ∧
          s.engine.repack.running = false ∧ s.table.planFrozen = false then
        s.startRepack b
      else s := by
  unfold State.switchStart State.mayAutoStart
  refine if_congr ?_ rfl rfl
  simp only [hn, Bool.and_eq_true, Bool.not_eq_true']
  tauto

end Sys2Proof.Machine

namespace Sys2Proof.Proofs
open Sys2Proof.Machine

/-- Settles O15, by the kind of record written; a present one by whether it clashes. -/
theorem stageRegionWritesOneRecord : Obligations.StageRegionWritesOneRecord := by
  intro s src f h hp
  dsimp only
  intro k hk
  refine ⟨fun ha => ?_, fun b frozen h1 hb hf hfirst hle hlast hc hc' => ⟨fun apart => ?_, fun k' y hn hy hyb hl hr => ?_⟩⟩
  · exact does_of_handler h rfl (stageRegion_eq hp hk (writtenRecord_absent ha))
  all_goals
    refine does_of_handler h rfl
      ((stageRegion_eq hp hk (writtenRecord_present h1 hb hf hfirst hle hlast hc hc')).trans ?_)
  · rw [if_neg]
    · rfl
    · rw [Plan.clashes_some_iff]
      rintro ⟨k', y, hn, hy, hyb, hl, hr⟩
      have := apart k' y hn hy hyb
      dsimp only at hl hr
      omega
  · rw [if_pos]
    · rfl
    · exact (Plan.clashes_some_iff ..).2 ⟨k', y, hn, hy, hyb, hl, hr⟩

/-- Settles O16. -/
theorem discardStagedMakesPlanAbsent : Obligations.DiscardStagedMakesPlanAbsent := by
  intro s src f h hp
  refine ⟨does_of_handler h rfl (managementRequest_pass hp rfl), fun hn => ?_, rfl⟩
  rw [← hn]

theorem freezeRegionChangesFlags : FreezeRegionChangesFlags := by
  intro s src f h hp
  dsimp only
  intro k hk
  refine ⟨fun frozen h1 h2 => ⟨fun known => ?_, fun ha hs => ?_⟩, fun e => ?_⟩
  · refine does_of_handler h rfl ((freezeRegion_eq hp hk h1 h2).trans ?_)
    rw [if_pos ((PlanStore.knows_iff ..).2 known)]
    rfl
  · refine does_of_handler h rfl ((freezeRegion_eq hp hk h1 h2).trans ?_)
    rw [if_neg, refuse]
    rw [PlanStore.knows_iff]
    rintro (h | ⟨q, hq, h⟩)
    · simp [ha] at h
    · simp [hs q hq] at h
  · refine does_of_handler h rfl ?_
    have : setOrClear ((requestOf src.port f).byte 1) ((requestOf src.port f).byte 2) = none := by
      rw [e]
      cases hx : setOrClear ((requestOf src.port f).byte 2) ((requestOf src.port f).byte 2) with
      | none => rfl
      | some x =>
        obtain ⟨h1, h2⟩ := (setOrClear_eq_some_iff ..).1 hx
        cases x <;> simp_all
    simp only [freezeRegion, this]
    cases indexOf ((requestOf src.port f).byte 0) <;> rfl

theorem readRegionReturnsRecord : ReadRegionReturnsRecord := by
  intro s src f h hp
  dsimp only
  intro k hk hlt
  refine does_of_handler h rfl ((readRegion_eq hp hk hlt).trans ?_)
  change answerDone _ (_ :: recordBytes (if (requestOf src.port f).byte 1 = 1 then
    (s.taken src).plan.staged.getD (s.taken src).plan.active else (s.taken src).plan.active)[k]) = _
  cases (if (requestOf src.port f).byte 1 = 1 then
    (s.taken src).plan.staged.getD (s.taken src).plan.active else (s.taken src).plan.active)[k] <;> rfl

/-- Settles O17. -/
theorem regionsFrozenAndRead : Obligations.RegionsFrozenAndRead :=
  ⟨freezeRegionChangesFlags, readRegionReturnsRecord⟩

/-- Settles O18: the search for the first offence is over the sorted held spans, the upstream band first. -/
theorem setGuardChecksEveryPair : Obligations.SetGuardChecksEveryPair := by
  intro s src f h hp
  dsimp only
  intro hr
  refine ⟨fun b => ⟨sortHeld_perm _, sortHeld_sorted _⟩, fun kept => ?_, fun b x y first up => ?_⟩
  · have none : ∀ b, firstOffence (guardsOf (requestOf src.port f)) (sortHeld ((s.taken src).heldSpans b)) = none :=
      fun b => firstOffence_of_pairwise (kept b)
    exact does_of_handler h rfl (setGuard_done hp hr (by simp only [State.guardConflict, none]))
  · refine does_of_handler h rfl (setGuard_conflict hp hr ?_)
    have offence := firstOffence_of_firstOffending (m := guardsOf (requestOf src.port f)) first
    unfold State.guardConflict
    cases b with
    | up => rw [offence]
    | down => rw [firstOffence_of_pairwise (m := guardsOf (requestOf src.port f)) (up rfl), offence]

theorem tenantWrittenAndRead : TenantWrittenAndRead := by
  intro s src f hp
  dsimp only
  intro k hk
  refine ⟨fun h enabled c he hc hq => ⟨fun free => ?_, fun hn hu => ?_⟩, fun h => ?_⟩
  · refine does_of_handler h rfl ((setTenant_eq hp hk he hc hq).trans ?_)
    rw [if_neg (by tauto)]
    rfl
  · refine does_of_handler h rfl ((setTenant_eq hp hk he hc hq).trans ?_)
    rw [if_pos ⟨hn, hu⟩]
    rfl
  · refine does_of_handler h rfl ?_
    simp only [readTenant, (tenantPlace_eq_some_iff ..).2 hk]
    exact managementRequest_pass hp rfl

theorem tenantsNamed : TenantsNamed := by
  intro s t
  refine ⟨fun k hk => ⟨s.directoryEntry_eq hk, ?_, ?_⟩, fun ht => ?_⟩
  · simp only [State.tenantEnabled, s.directoryEntry_eq hk]
  · simp only [State.grantCount, (tenantPlace_eq_some_iff ..).2 hk]
  · simp [State.tenantEnabled, State.grantCount, State.directoryEntry, tenantPlace_eq_none ht]

/-- Settles O19. -/
theorem tenantEntryWrittenAndRead : Obligations.TenantEntryWrittenAndRead := ⟨tenantWrittenAndRead, tenantsNamed⟩

/-- Settles O20: the upstream switch acts on the new settings, the downstream one after it. -/
theorem setPlanSettingsReplacesAllSix : Obligations.SetPlanSettingsReplacesAllSix := by
  intro s src f h hp u r up down h0 h2 h2' h4 h5 h6 h7 v turned w t
  have up_switch : v.switchStart u.plan.settings .up = w := v.switchStart_eq _ .up rfl
  have w_plan : w.plan = v.plan := by rw [← up_switch]; simp
  have down_switch : w.switchStart u.plan.settings .down = t :=
    w.switchStart_eq _ .down (by rw [w_plan]; rfl)
  refine ⟨does_of_handler h rfl ?_, by rw [← down_switch]; simp [w_plan]⟩
  rw [← down_switch, ← up_switch]
  simp only [setPlanSettings, settingsOf_eq (r := requestOf src.port f) h6 h7]
  exact managementRequest_pass hp ((Settings.inRange_iff _).2 ⟨h0, h2, h2', h4, h5⟩)

/-- Settles O21. -/
theorem readSettingsReturnsAll : Obligations.ReadSettingsReturnsAll :=
  fun _ _ _ h hp => does_of_handler h rfl (managementRequest_pass hp rfl)

end Sys2Proof.Proofs
end

section
/-! ## FIND (R41, R42), and what a plan says of a cell and of a span (R2, R3, R88) -/

namespace Sys2Proof.Machine

/-! ### What a plan says -/

theorem Region.holdsCell_iff (x : Region) (b : Band) (c : Nat) :
    x.holdsCell b c = true ↔ x.band = b ∧ x.first ≤ c ∧ c ≤ x.last := by
  simp [Region.holdsCell, and_assoc]

/-- The present regions of a plan stand in the order of their indexes. -/
theorem Plan.present_pairwise (p : Plan) : p.present.Pairwise fun x y => x.1 < y.1 := by
  unfold Plan.present
  rw [List.pairwise_filterMap]
  have ordered : (p.toList.zipIdx).Pairwise fun x y => x.2 < y.2 := by
    rw [List.pairwise_iff_getElem]
    intro i j hi hj hij
    simpa using hij
  refine ordered.imp fun {x y} hxy a ha b hb => ?_
  split at ha
  · cases ha
  · split at hb
    · cases hb
    · cases ha
      cases hb
      exact hxy

theorem Plan.regionAt_eq_none_iff (p : Plan) (b : Band) (c : Nat) :
    p.regionAt b c = none ↔ ∀ (k : Fin 8) x, p[k] = some x → ¬(x.band = b ∧ x.first ≤ c ∧ c ≤ x.last) := by
  simp only [Plan.regionAt, List.find?_eq_none, Prod.forall, Plan.mem_present_iff, Region.holdsCell_iff]
  constructor
  · intro h k x hx
    exact h k.val x ⟨k, rfl, hx⟩
  · rintro h _ x ⟨k, rfl, hx⟩
    exact h k x hx

/-- The region found for a cell is the present one of the lowest index that holds it. -/
theorem Plan.regionAt_spec {p : Plan} {b : Band} {c : Nat} {y : Nat × Region} (h : p.regionAt b c = some y) :
    ∃ k : Fin 8, y.1 = k.val ∧ p[k] = some y.2 ∧
      ∀ k' x, k' < k → p[k'] = some x → ¬(x.band = b ∧ x.first ≤ c ∧ c ≤ x.last) := by
  obtain ⟨-, before, after, split, earlier⟩ := List.find?_eq_some_iff_append.1 h
  obtain ⟨k, hk, hy⟩ := (p.mem_present_iff y.1 y.2).1 (List.mem_of_find?_eq_some h)
  refine ⟨k, hk.symm, hy, fun k' x hlt hx holds => ?_⟩
  have mem : (k'.val, x) ∈ before ++ y :: after := split ▸ (p.mem_present_iff ..).2 ⟨k', rfl, hx⟩
  have ordered := p.present_pairwise
  rw [split, List.pairwise_append, List.pairwise_cons] at ordered
  obtain ⟨-, ⟨later, -⟩, -⟩ := ordered
  rcases List.mem_append.1 mem with hb | ha
  · have := earlier _ hb
    rw [(Region.holdsCell_iff ..).2 holds] at this
    cases this
  · rcases List.mem_cons.1 ha with rfl | ha
    · exact absurd hlt (by simp [Fin.lt_def, hk])
    · have := later _ ha
      simp only [Fin.lt_def] at hlt
      omega

theorem Plan.frozenAt_iff (p : Plan) (b : Band) (c : Nat) :
    p.frozenAt b c = true ↔ ∃ y, p.regionAt b c = some y ∧ y.2.frozen = true := by
  unfold Plan.frozenAt
  cases p.regionAt b c <;> simp

theorem Plan.allowsSpan_iff (p : Plan) (b : Band) (start width : Nat) (c : Cls) :
    p.allowsSpan b start width c = true ↔
      ∃ (k : Fin 8) (x : Region), p[k] = some x ∧ x.band = b ∧ x.first ≤ start ∧ start + width ≤ x.last + 1 ∧
        x.classes.has c = true := by
  simp only [Plan.allowsSpan, List.any_eq_true, Prod.exists, Plan.mem_present_iff, Region.holdsSpan, Bool.and_eq_true,
    beq_iff_eq, decide_eq_true_eq]
  constructor
  · rintro ⟨_, x, ⟨k, rfl, hx⟩, ⟨⟨hb, h1⟩, h2⟩, hc⟩
    exact ⟨k, x, hx, hb, h1, h2, hc⟩
  · rintro ⟨k, x, hx, hb, h1, h2, hc⟩
    exact ⟨k.val, x, ⟨k, rfl, hx⟩, ⟨⟨hb, h1⟩, h2⟩, hc⟩

/-! ### FIND -/

/-- FIND from a sender that passes step 3, on a cell of a band. -/
theorem find_eq {r : Req} {s : State} {b : Band} (hb : r.byte 0 = bandCode b) (h1 : bandFirst b ≤ r.word 1)
    (h2 : r.word 1 ≤ bandLast b) (he : r.port = .management ∨ s.tenantEnabled r.tenant = true) :
    find r s = answerDone s (s.findPayload r b (r.word 1)) := by
  simp only [find, (bandOfCode_eq_some_iff ..).2 hb, (cellInBand_iff ..).2 ⟨h1, h2⟩, if_true, enabledTenant_pass he]

theorem State.isOwn_iff (s : State) (r : Req) (i : Fin 64) :
    s.isOwn r i = true ↔ r.port = .management ∨ (s.entry i).tenant.val = r.tenant := by
  simp [State.isOwn]

theorem State.heldAt_eq_none_iff (s : State) (b : Band) (c : Nat) :
    s.heldAt b c = none ↔ ∀ h ∈ s.heldSpans b, ¬Covers h c := by
  simp [State.heldAt, Covers]

/-- The held span found for a cell is one of the band and covers it. -/
theorem State.heldAt_spec {s : State} {b : Band} {c : Nat} {h : Held} (e : s.heldAt b c = some h) :
    h ∈ s.heldSpans b ∧ Covers h c :=
  ⟨List.mem_of_find?_eq_some e, by simpa [Covers] using List.find?_some e⟩

/-- The six bytes for a held cell. -/
theorem State.findPayload_held {s : State} {r : Req} {b : Band} {c : Nat} {h : Held} (e : s.heldAt b c = some h) :
    s.findPayload r b c =
      let own := r.port = .management ∨ (s.entry h.entry).tenant.val = r.tenant
      [0, (s.plan.active.regionAt b c).elim 255 fun x => byte x.1, if own then byte h.entry.val else 255,
        if own then (s.entry h.entry).generation else 255, if h.isTarget then 1 else 0, if own then 1 else 0] := by
  have region : s.regionByte b c = (s.plan.active.regionAt b c).elim 255 fun x => byte x.1 := by
    unfold State.regionByte
    cases s.plan.active.regionAt b c <;> rfl
  simp only [State.findPayload, e, region, ← State.isOwn_iff]
  cases s.isOwn r h.entry <;> rfl

/-- The six bytes for a cell of no region that no span holds. -/
theorem State.findPayload_noRegion {s : State} {r : Req} {b : Band} {c : Nat} (e : s.heldAt b c = none)
    (hr : s.plan.active.regionAt b c = none) : s.findPayload r b c = [3, 255, 255, 255, 0, 0] := by
  simp only [State.findPayload, e, State.regionByte, hr]
  rfl

/-- The six bytes for a cell of a region that no span holds. -/
theorem State.findPayload_region {s : State} {r : Req} {b : Band} {c : Nat} {x : Nat × Region} (e : s.heldAt b c = none)
    (hr : s.plan.active.regionAt b c = some x) :
    s.findPayload r b c = [if s.blockedCell b c then 2 else 1, byte x.1, 255, 255, 0, 0] := by
  simp only [State.findPayload, e, State.regionByte, hr]
  cases s.blockedCell b c <;> rfl

end Sys2Proof.Machine

namespace Sys2Proof.Proofs
open Sys2Proof.Machine

theorem findAnswers : FindAnswers := by
  intro s src f h
  dsimp only
  intro b hb h1 h2 he
  have payload : ∀ p, (s.taken src).findPayload (requestOf src.port f) b ((requestOf src.port f).word 1) = p →
      Does .find s src f (s.taken src) .done p := by
    rintro _ rfl
    exact does_of_handler h rfl (find_eq hb h1 h2 he)
  refine ⟨fun ⟨g, hg, hc⟩ => ?_, fun free => ?_⟩
  · cases e : (s.taken src).heldAt b ((requestOf src.port f).word 1) with
    | none => exact absurd hc ((State.heldAt_eq_none_iff ..).1 e g hg)
    | some x =>
      obtain ⟨hx, hxc⟩ := State.heldAt_spec e
      exact ⟨x, hx, hxc, payload _ (State.findPayload_held e)⟩
  · have e := (State.heldAt_eq_none_iff ..).2 free
    exact ⟨fun hn => payload _ (State.findPayload_noRegion e hn), fun x hx => payload _ (State.findPayload_region e hx)⟩

theorem planAnswers : PlanAnswers := by
  intro p b c
  refine ⟨p.regionAt_eq_none_iff b c, fun y hy => ?_, p.frozenAt_iff b c, p.allowsSpan_iff b c, p.mem_candidates_iff b⟩
  obtain ⟨k, hk, hp, lowest⟩ := Plan.regionAt_spec hy
  exact ⟨k, hk, hp, Plan.holds_of_regionAt hy, lowest⟩

/-- Settles O27, by whether a held span covers the cell and then by its region. -/
theorem findDecidesInOrder : Obligations.FindDecidesInOrder := ⟨findAnswers, planAnswers⟩

end Sys2Proof.Proofs
end

section
/-! ## The frame checks (R183), and how a frame is read -/

namespace Sys2Proof.Machine

/-- The request index is the table of R183. -/
theorem requestIndex_eq_some_iff (code : Nat) (x : Instr × Nat) :
    requestIndex code = some x ↔ (code, x) ∈ requestTable := by
  constructor
  · intro h
    unfold requestIndex at h
    split at h <;> cases h <;> decide
  · intro h
    have indexed : ∀ e ∈ requestTable, requestIndex e.1 = some e.2 := by decide
    exact indexed _ h

theorem requestIndex_eq_none_iff (code : Nat) :
    requestIndex code = none ↔ ∀ row n, (code, row, n) ∉ requestTable := by
  simp only [Option.eq_none_iff_forall_ne_some, ne_eq, requestIndex_eq_some_iff, Prod.forall]

theorem tenantIdOk_eq_false_iff (p : Port) (id : Byte) :
    tenantIdOk p id.toNat = false ↔
      (p = .management ∧ id ≠ 0) ∨ (p = .tenant ∧ (id = 0 ∨ 15 < id.toNat)) := by
  have zero : id = 0#8 ↔ id.toNat = 0 := ⟨fun h => by rw [h]; rfl, fun h => BitVec.eq_of_toNat_eq h⟩
  cases p
  · simp [tenantIdOk, zero]
  · simp only [tenantIdOk, zero, BitVec.ofNat_eq_ofNat]
    simp
    omega

/-- A frame whose code is in the request index is of good form when its length byte, its length and its tenant id are
right (R13, R183). -/
theorem goodForm_of_requestIndex {p : Port} {f : Frame} {row : Instr} {n : Nat}
    (h : requestIndex (headerByte f 0).toNat = some (row, n)) :
    goodForm p f =
      if (headerByte f 3).toNat = n ∧ 4 + n ≤ f.length ∧ tenantIdOk p (headerByte f 2).toNat then some row else none := by
  simp only [goodForm, h]

theorem goodForm_of_unknown {p : Port} {f : Frame} (h : requestIndex (headerByte f 0).toNat = none) :
    goodForm p f = none := by
  simp only [goodForm, h]

/-- A frame of good form carries the row of its code. -/
theorem requestIndex_of_goodForm {p : Port} {f : Frame} {row : Instr} (h : goodForm p f = some row) :
    ∃ n, requestIndex (headerByte f 0).toNat = some (row, n) := by
  cases hx : requestIndex (headerByte f 0).toNat with
  | none => rw [goodForm_of_unknown hx] at h; cases h
  | some x =>
    obtain ⟨row', n⟩ := x
    rw [goodForm_of_requestIndex hx, Option.ite_none_right_eq_some, Option.some.injEq] at h
    obtain ⟨-, rfl⟩ := h
    exact ⟨n, rfl⟩

end Sys2Proof.Machine

namespace Sys2Proof.Proofs
open Sys2Proof.Machine

theorem badFrames : BadFrames := by
  intro p f
  dsimp only
  refine ⟨?_, fun row h => ?_⟩
  · cases hx : requestIndex (headerByte f 0).toNat with
    | none =>
      refine iff_of_true (goodForm_of_unknown hx) (.inr (.inl ((requestIndex_eq_none_iff _).1 hx)))
    | some x =>
      obtain ⟨row, n⟩ := x
      have known : ∀ row' n', ((headerByte f 0).toNat, row', n') ∈ requestTable ↔ row' = row ∧ n' = n := by
        intro row' n'
        rw [← requestIndex_eq_some_iff, hx]
        simp [eq_comm]
      have unknown : ¬∀ row' n', ¬(row' = row ∧ n' = n) := fun h => h row n ⟨rfl, rfl⟩
      have lengths : (∃ row' n', (row' = row ∧ n' = n) ∧ ((headerByte f 3).toNat ≠ n' ∨ f.length < 4 + n')) ↔
          (headerByte f 3).toNat ≠ n ∨ f.length < 4 + n :=
        ⟨by rintro ⟨_, _, ⟨rfl, rfl⟩, h⟩; exact h, fun h => ⟨row, n, ⟨rfl, rfl⟩, h⟩⟩
      rw [goodForm_of_requestIndex hx]
      simp only [ite_eq_right_iff, reduceCtorEq, imp_false, known, unknown, false_or, lengths,
        ← tenantIdOk_eq_false_iff]
      cases tenantIdOk p (headerByte f 2).toNat <;> simp
      omega
  · obtain ⟨n, hx⟩ := requestIndex_of_goodForm h
    exact ⟨n, (requestIndex_eq_some_iff ..).1 hx⟩

theorem framesRead : FramesRead :=
  fun _ _ => ⟨fun _ => rfl, rfl, fun _ _ => ⟨rfl, by simp [Req.word, Req.byte, Nat.mul_comm], rfl⟩, fun _ => rfl⟩

/-- Settles O9, by whether the code is in the request index. -/
theorem badFormIsExactlyTheFiveCases : Obligations.BadFormIsExactlyTheFiveCases := ⟨badFrames, framesRead⟩

end Sys2Proof.Proofs
end

section
/-! ## The checks that requests share (R30): every row's fields, its port, its tenant, its handle and its owner -/

namespace Sys2Proof.Machine

/-! ### What it is for a handler to make the shared checks -/

/-- Step 1 of the refusal order: a request whose fields are not in range is refused BAD_PARAM. -/
def FieldsChecked (row : Instr) (handler : Handler) : Prop :=
  ∀ r s, ¬InRange r s row → handler r s = refuse s .badParam

/-- The row checks fields and port, in this order. -/
structure ManagementChecked (row : Instr) (handler : Handler) : Prop where
  fields : FieldsChecked row handler
  port : ∀ r s, InRange r s row → ∃ pass, handler r s = managementOnly r s pass

/-- The row checks its fields, and at the tenant port that the tenant is enabled. -/
structure TenantChecked (row : Instr) (handler : Handler) : Prop where
  fields : FieldsChecked row handler
  enabled : ∀ r s, InRange r s row → r.port = .tenant → ∃ pass, handler r s = enabledTenant r s pass

/-- The row makes the checks of a request that either port may send and that names a grant. -/
structure OwnHandleChecked (row : Instr) (handler : Handler) : Prop where
  fields : FieldsChecked row handler
  handle : ∀ r s, InRange r s row → r.byte 0 < 64 ∧ ∃ pass, handler r s = ownHandle r s true pass

/-- The row makes the checks of a management request that names a grant. -/
structure ManagementHandleChecked (row : Instr) (handler : Handler) : Prop where
  fields : FieldsChecked row handler
  handle : ∀ r s, InRange r s row → r.byte 0 < 64 ∧ ∃ pass, handler r s = managementHandle r s true pass

theorem managementRequest_true (r : Req) (s : State) (pass : State × Reply) :
    managementRequest r s true pass = managementOnly r s pass := rfl

theorem managementRequest_false (r : Req) (s : State) (pass : State × Reply) :
    managementRequest r s false pass = refuse s .badParam := rfl

/-- A handler checks fields and port when it either refuses fields out of range or is a management request tested for
them. -/
theorem ManagementChecked.of_request {row : Instr} {handler : Handler}
    (h : ∀ r s, (¬InRange r s row ∧ handler r s = refuse s .badParam) ∨
      ∃ ok pass, (InRange r s row ↔ ok = true) ∧ handler r s = managementRequest r s ok pass) :
    ManagementChecked row handler where
  fields r s hn := by
    obtain ⟨-, e⟩ | ⟨ok, pass, hr, e⟩ := h r s
    · exact e
    · rw [e, (Bool.not_eq_true ok).mp (hr.not.1 hn), managementRequest_false]
  port r s hi := by
    obtain ⟨hn, -⟩ | ⟨ok, pass, hr, e⟩ := h r s
    · exact absurd hi hn
    · exact ⟨pass, by rw [e, hr.1 hi, managementRequest_true]⟩

/-- A handler checks fields and port when its fields are in range exactly when they can be read, and it is a management
request once they are read. -/
theorem ManagementChecked.of_parse {α : Type} {row : Instr} {handler : Handler} (parse : Req → State → Option α)
    (range : ∀ r s, InRange r s row ↔ (parse r s).isSome = true)
    (refuses : ∀ r s, parse r s = none → handler r s = refuse s .badParam)
    (passes : ∀ r s a, parse r s = some a → ∃ pass, handler r s = managementRequest r s true pass) :
    ManagementChecked row handler := .of_request fun r s => by
  rw [range]
  cases h : parse r s with
  | none => exact .inl ⟨by simp, refuses r s h⟩
  | some a =>
    obtain ⟨pass, e⟩ := passes r s a h
    exact .inr ⟨true, pass, by simp, e⟩

theorem OwnHandleChecked.of_handle {row : Instr} {handler : Handler}
    (h : ∀ r s, (¬InRange r s row ∧ handler r s = refuse s .badParam) ∨
      ∃ ok pass, (InRange r s row ↔ r.byte 0 < 64 ∧ ok = true) ∧ handler r s = ownHandle r s ok pass) :
    OwnHandleChecked row handler where
  fields r s hn := by
    obtain ⟨-, e⟩ | ⟨ok, pass, hr, e⟩ := h r s
    · exact e
    · rw [e, ownHandle]
      cases he : r.entry 0 with
      | none => rfl
      | some i =>
        have lt : r.byte 0 < 64 := by rw [(r.entry_eq_some_iff 0 i).1 he]; exact i.isLt
        have : ok = false := (Bool.not_eq_true ok).mp fun hok => hn (hr.2 ⟨lt, hok⟩)
        simp only [this, Bool.false_eq_true, if_false]
  handle r s hi := by
    obtain ⟨hn, -⟩ | ⟨ok, pass, hr, e⟩ := h r s
    · exact absurd hi hn
    · obtain ⟨lt, hok⟩ := hr.1 hi
      exact ⟨lt, pass, by rw [e, hok]⟩

theorem ManagementHandleChecked.of_handle {row : Instr} {handler : Handler}
    (h : ∀ r s, (¬InRange r s row ∧ handler r s = refuse s .badParam) ∨
      ∃ pass, (InRange r s row ↔ r.byte 0 < 64) ∧ handler r s = managementHandle r s true pass) :
    ManagementHandleChecked row handler where
  fields r s hn := by
    obtain ⟨-, e⟩ | ⟨pass, hr, e⟩ := h r s
    · exact e
    · have : r.entry 0 = none := by
        rw [← Option.not_isSome_iff_eq_none, Req.isSome_entry]
        exact hr.not.1 hn
      simp only [e, managementHandle, this]
  handle r s hi := by
    obtain ⟨hn, -⟩ | ⟨pass, hr, e⟩ := h r s
    · exact absurd hi hn
    · exact ⟨hr.1 hi, pass, e⟩

/-- Steps 3 to 5 of a request that names a grant by an entry in range. -/
theorem ownHandle_eq {r : Req} {s : State} {i : Fin 64} (h : r.byte 0 = i.val) (pass : Fin 64 → Grant → State × Reply) :
    ownHandle r s true pass =
      enabledTenant r s (currentHandle r s ⟨i, r.generation 1⟩ fun g => owned r s i (pass i g)) := by
  simp only [ownHandle, Req.entry_eq h, if_true]

/-- Steps 2 and 4 of a management request that names a grant by an entry in range. -/
theorem managementHandle_eq {r : Req} {s : State} {i : Fin 64} (h : r.byte 0 = i.val)
    (pass : Fin 64 → Grant → State × Reply) :
    managementHandle r s true pass = managementOnly r s (currentHandle r s ⟨i, r.generation 1⟩ (pass i)) := by
  simp only [managementHandle, Req.entry_eq h, managementRequest_true]

theorem OwnHandleChecked.tenantChecked {row : Instr} {handler : Handler} (h : OwnHandleChecked row handler) :
    TenantChecked row handler where
  fields := h.fields
  enabled r s hi _ := by
    obtain ⟨lt, pass, e⟩ := h.handle r s hi
    exact ⟨_, e.trans (ownHandle_eq (i := ⟨r.byte 0, lt⟩) rfl pass)⟩

theorem ManagementHandleChecked.managementChecked {row : Instr} {handler : Handler}
    (h : ManagementHandleChecked row handler) : ManagementChecked row handler where
  fields := h.fields
  port r s hi := by
    obtain ⟨lt, pass, e⟩ := h.handle r s hi
    exact ⟨_, e.trans (managementHandle_eq (i := ⟨r.byte 0, lt⟩) rfl pass)⟩

/-! ### The plan store's rows -/

theorem exists_toNat_of_le_one {n : Nat} (h : n ≤ 1) : ∃ x : Bool, n = x.toNat := by
  rw [← isSome_yesNoOfCode, Option.isSome_iff_exists] at h
  exact h.imp fun x hx => (yesNoOfCode_eq_some_iff ..).1 hx

/-- What a present record that is read tells of its fields (R1, R5). -/
theorem presentRecord_fields {r : Req} {x : Region} (h : presentRecord r = some x) :
    r.byte 8 ≤ 1 ∧ 1 ≤ r.byte 7 ∧ r.byte 7 ≤ 7 ∧
      ∃ b, r.byte 2 = bandCode b ∧ bandFirst b ≤ r.word 3 ∧ r.word 3 ≤ r.word 5 ∧ r.word 5 ≤ bandLast b := by
  unfold presentRecord at h
  split at h
  · rename_i b classes frozen hb hc hf
    rw [bandOfCode_eq_some_iff] at hb
    rw [yesNoOfCode_eq_some_iff] at hf
    obtain ⟨hlt, rfl⟩ := (classSetOfCode_eq_some_iff ..).1 hc
    have h8 := frozen.toNat_le
    simp only [Option.ite_none_right_eq_some, Bool.and_eq_true, cellInBand_iff, decide_eq_true_eq, bne_iff_ne] at h
    obtain ⟨⟨⟨⟨⟨h1, -⟩, -, h3⟩, h2⟩, hn⟩, -⟩ := h
    have h7 : r.byte 7 ≠ 0 := fun e => hn (by rw [e]; rfl)
    exact ⟨by omega, by omega, by omega, b, hb, h1, h2, h3⟩
  · cases h

theorem isSome_writtenRecord (r : Req) :
    (writtenRecord r).isSome = true ↔
      r.byte 1 = 0 ∨ (r.byte 1 = 1 ∧ r.byte 8 ≤ 1 ∧ 1 ≤ r.byte 7 ∧ r.byte 7 ≤ 7 ∧
        ∃ b, r.byte 2 = bandCode b ∧ bandFirst b ≤ r.word 3 ∧ r.word 3 ≤ r.word 5 ∧ r.word 5 ≤ bandLast b) := by
  constructor
  · intro h
    unfold writtenRecord at h
    split at h
    · cases h
    · rename_i e
      exact .inl ((yesNoOfCode_eq_some_iff ..).1 e)
    · rename_i e
      obtain ⟨x, hx⟩ := Option.isSome_iff_exists.1 (Option.isSome_map.symm.trans h)
      exact .inr ⟨(yesNoOfCode_eq_some_iff ..).1 e, presentRecord_fields hx⟩
  · rintro (h | ⟨h, h8, h7, h7', b, hb, h1, h2, h3⟩)
    · rw [writtenRecord_absent h]; rfl
    · obtain ⟨frozen, hf⟩ := exists_toNat_of_le_one h8
      rw [writtenRecord_present h hb hf h1 h2 h3 h7 h7']; rfl

theorem stageRegion_checked : ManagementChecked .stageRegion stageRegion := .of_request fun r s => by
  have range : InRange r s .stageRegion ↔ (indexOf (r.byte 0)).isSome ∧ (writtenRecord r).isSome := by
    simp only [InRange, isSome_indexOf, isSome_writtenRecord]
  rw [range]
  unfold stageRegion
  cases indexOf (r.byte 0) with
  | none => exact .inl ⟨by simp, rfl⟩
  | some k =>
    cases writtenRecord r with
    | none => exact .inl ⟨by simp, rfl⟩
    | some record => exact .inr ⟨_, _, by simp, rfl⟩

theorem discardStaged_checked : ManagementChecked .discardStaged discardStaged :=
  .of_request fun _ _ => .inr ⟨_, _, by simp [InRange], rfl⟩

theorem freezeRegion_checked : ManagementChecked .freezeRegion freezeRegion := .of_request fun r s => by
  have range : InRange r s .freezeRegion ↔
      (setOrClear (r.byte 1) (r.byte 2)).isSome ∧ ∃ k, indexOf (r.byte 0) = some k ∧ s.plan.knows k = true := by
    simp only [InRange, isSome_setOrClear, indexOf_eq_some_iff, PlanStore.knows_iff, RegionKnown]
  rw [range]
  unfold freezeRegion
  cases indexOf (r.byte 0) with
  | none => exact .inl ⟨by simp, rfl⟩
  | some k =>
    cases setOrClear (r.byte 1) (r.byte 2) with
    | none => exact .inl ⟨by simp, rfl⟩
    | some flag => exact .inr ⟨_, _, by simp, rfl⟩

theorem readRegion_checked : ManagementChecked .readRegion readRegion := .of_request fun r s => by
  have range : InRange r s .readRegion ↔ (indexOf (r.byte 0)).isSome ∧ (yesNoOfCode (r.byte 1)).isSome := by
    simp only [InRange, isSome_indexOf, isSome_yesNoOfCode]
  rw [range]
  unfold readRegion
  cases indexOf (r.byte 0) with
  | none => exact .inl ⟨by simp, rfl⟩
  | some k =>
    cases yesNoOfCode (r.byte 1) with
    | none => exact .inl ⟨by simp, rfl⟩
    | some wantStaged => exact .inr ⟨_, _, by simp, rfl⟩

theorem setGuard_checked : ManagementChecked .setGuard setGuard := .of_request fun r s => by
  refine .inr ⟨_, _, ⟨guardsOf_inRange, fun h k hk => ?_⟩, rfl⟩
  simp only [GuardMatrix.values, guardsOf, List.all_cons, List.all_nil, Bool.and_eq_true, decide_eq_true_eq] at h
  match k with
  | 0 | 1 | 2 | 3 | 4 | 5 => tauto
  | _ + 6 => omega

theorem setTenant_checked : ManagementChecked .setTenant setTenant := .of_request fun r s => by
  have range : InRange r s .setTenant ↔ (tenantPlace (r.byte 0)).isSome ∧ (yesNoOfCode (r.byte 1)).isSome ∧
      (clsOfCode (r.byte 2)).isSome ∧ r.byte 3 ≤ 64 := by
    simp only [InRange, isSome_tenantPlace, isSome_yesNoOfCode, isSome_clsOfCode, and_assoc]
  rw [range]
  unfold setTenant
  cases tenantPlace (r.byte 0) with
  | none => exact .inl ⟨by simp, rfl⟩
  | some k =>
    cases yesNoOfCode (r.byte 1) with
    | none => exact .inl ⟨by simp, rfl⟩
    | some enabled =>
      cases clsOfCode (r.byte 2) with
      | none => exact .inl ⟨by simp, rfl⟩
      | some c => exact .inr ⟨_, _, by simp, rfl⟩

theorem readTenant_checked : ManagementChecked .readTenant readTenant :=
  .of_parse (fun r _ => tenantPlace (r.byte 0)) (fun _ _ => (isSome_tenantPlace _).symm)
    (fun _ _ h => by simp only [readTenant, h]) (fun _ _ _ h => ⟨_, by simp only [readTenant, h]; rfl⟩)

theorem isSome_settingsOf (r : Req) : (settingsOf r).isSome = true ↔ r.byte 6 ≤ 1 ∧ r.byte 7 ≤ 1 := by
  rw [← isSome_yesNoOfCode, ← isSome_yesNoOfCode, settingsOf]
  cases yesNoOfCode (r.byte 6) <;> cases yesNoOfCode (r.byte 7) <;> simp

theorem setPlanSettings_checked : ManagementChecked .setPlanSettings setPlanSettings := .of_request fun r s => by
  unfold setPlanSettings
  have read := isSome_settingsOf r
  cases hs : settingsOf r with
  | none =>
    simp only [hs, Option.isSome_none, Bool.false_eq_true, false_iff] at read
    exact .inl ⟨fun ⟨_, _, _, _, _, h6, h7⟩ => read ⟨h6, h7⟩, rfl⟩
  | some x =>
    refine .inr ⟨_, _, ?_, rfl⟩
    simp only [hs, Option.isSome_some, true_iff] at read
    obtain ⟨h6, h7⟩ := read
    obtain ⟨up, hu⟩ := exists_toNat_of_le_one h6
    obtain ⟨down, hd⟩ := exists_toNat_of_le_one h7
    obtain rfl := Option.some.inj (hs.symm.trans (settingsOf_eq hu hd))
    simp only [Settings.inRange_iff, InRange, h6, h7, and_true]

theorem readSettings_checked : ManagementChecked .readSettings readSettings :=
  .of_request fun _ _ => .inr ⟨_, _, by simp [InRange], rfl⟩


/-! ### The rows of the grant table -/

theorem regionIndexOfCode_eq_some_iff (n : Nat) (x : Option (Fin 8)) :
    regionIndexOfCode n = some x ↔ (n = 255 ∧ x = none) ∨ ∃ k : Fin 8, n = k.val ∧ x = some k := by
  unfold regionIndexOfCode
  cases x with
  | none =>
    split
    · simp
      omega
    · simp
  | some k =>
    split
    · simp only [Option.some.injEq, Fin.ext_iff, reduceCtorEq, and_false, false_or]
      exact ⟨fun h => ⟨k, h, rfl⟩, fun ⟨_, h, e⟩ => h.trans e.symm⟩
    · simp
      omega

/-- The placement and the region field of a RESERVE, which is read for AUTO only (R40). -/
theorem wishOf_placement {r : Req} {p : Placement} {region : Option (Fin 8)} :
    (placementOfCode (r.byte 3) = some p ∧ wishRegion r p = some region) ↔
      (r.byte 3 = 0 ∧ p = .explicit ∧ region = none) ∨
        (r.byte 3 = 1 ∧ p = .auto ∧
          ((r.byte 6 = 255 ∧ region = none) ∨ ∃ k : Fin 8, r.byte 6 = k.val ∧ region = some k)) := by
  cases p with
  | explicit =>
    match r.byte 3 with
    | 0 | 1 | _ + 2 => simp [placementOfCode, wishRegion, eq_comm]
  | auto =>
    rw [wishRegion, regionIndexOfCode_eq_some_iff]
    match r.byte 3 with
    | 0 | 1 | _ + 2 => simp [placementOfCode]

theorem State.wishClass_eq_some_iff (s : State) (r : Req) (c : Cls) :
    s.wishClass r = some c ↔
      (r.port = .management ∧ r.byte 7 = c.code) ∨
        (r.port = .tenant ∧ (s.directoryEntry r.tenant).map (·.cls) = some c) := by
  unfold State.wishClass
  cases r.port with
  | management => simp [clsOfCode_eq_some_iff]
  | tenant => simp

/-- The fields of a RESERVE are read exactly as they stand in its parameters (R31). -/
theorem State.wishOf_eq_some_iff (s : State) (r : Req) (w : Wish) : s.wishOf r = some w ↔ Wishes r s w := by
  simp only [State.wishOf, Option.bind_eq_bind, Option.bind_eq_some_iff, Option.pure_def, Option.some.injEq,
    bandOfCode_eq_some_iff, indexOf_eq_some_iff, State.wishClass_eq_some_iff, holdOfCode_eq_some_iff,
    yesNoOfCode_eq_some_iff, groupOfCode_eq_some_iff]
  constructor
  · rintro ⟨band, hb, profile, hp, placement, hpl, region, hr, cls, hc, hold, hh, fixed, hf, group, hg, rfl⟩
    exact
      { band := hb, payload := rfl, profile := hp, placement := wishOf_placement.1 ⟨hpl, hr⟩, start := rfl, cls := hc,
        hold := hh, fixed := hf, level := rfl, group := hg, lease := rfl }
  · rintro ⟨hb, hy, hp, hpl, hs, hc, hh, hf, hv, hg, hl⟩
    obtain ⟨hpl, hr⟩ := wishOf_placement.2 hpl
    exact ⟨w.band, hb, w.profile, hp, w.placement, hpl, w.region, hr, w.cls, hc, w.hold, hh, w.fixed, hf, w.group, hg,
      by cases w; simp_all⟩

theorem State.wishFits_iff (s : State) (w : Wish) :
    s.wishFits w = true ↔
      ((s.profile w.profile).state = .undefined → w.placement = .explicit →
        bandFirst w.band ≤ w.start ∧ w.start ≤ bandLast w.band) ∧
      ((s.profile w.profile).state ≠ .undefined →
        s.wishWidth w ≤ 192 ∧
          (w.placement = .explicit →
            1 ≤ s.wishWidth w ∧ bandFirst w.band ≤ w.start ∧ w.start + s.wishWidth w ≤ bandLast w.band + 1)) := by
  unfold State.wishFits
  by_cases h : (s.profile w.profile).state = .undefined
  · cases hp : w.placement <;> simp [h, cellInBand_iff]
  · have widest : Config.maxWidth = 192 := rfl
    cases hp : w.placement <;> simp [h, spanInBand_iff, widest]

/-- The checks of a RESERVE beyond its codes are those of R31. -/
theorem wishInRange_iff (s : State) (w : Wish) :
    WishInRange s w ↔ (payloadOk w.cls w.payload && s.wishFits w) = true := by
  rw [Bool.and_eq_true, State.wishFits_iff, WishInRange, ← and_assoc]
  refine and_congr_left fun _ => ?_
  cases w.cls <;> simp [payloadOk]

theorem reserve_fieldsChecked : FieldsChecked .reserve reserve := by
  intro r s h
  cases hw : s.wishOf r with
  | none => simp only [reserve, hw]
  | some w =>
    have : ¬(payloadOk w.cls w.payload && s.wishFits w) = true := fun ok =>
      h ⟨w, (s.wishOf_eq_some_iff r w).1 hw, (wishInRange_iff s w).2 ok⟩
    simp only [reserve, hw, if_neg this]

theorem lookup_checked : OwnHandleChecked .lookup lookup :=
  .of_handle fun _ _ => .inr ⟨_, _, by simp [InRange], rfl⟩

theorem inRange_cell (r : Req) (k : Nat) :
    (∃ b, r.byte 0 = bandCode b ∧ bandFirst b ≤ r.word k ∧ r.word k ≤ bandLast b) ↔
      ∃ b, bandOfCode (r.byte 0) = some b ∧ cellInBand b (r.word k) = true := by
  simp only [bandOfCode_eq_some_iff, cellInBand_iff]

theorem find_checked : TenantChecked .find find where
  fields r s h := by
    rw [InRange, inRange_cell] at h
    unfold find
    cases hb : bandOfCode (r.byte 0) with
    | none => rfl
    | some b => exact if_neg fun hc => h ⟨b, hb, hc⟩
  enabled r s h _ := by
    obtain ⟨b, hb, hc⟩ := (inRange_cell r 1).1 h
    simp only [find, hb, if_pos hc]
    exact ⟨_, rfl⟩

theorem listOwn_checked : TenantChecked .listOwn listOwn where
  fields _ _ h := if_neg h
  enabled _ _ h _ := ⟨_, if_pos h⟩

theorem listBand_checked : ManagementChecked .listBand listBand := .of_request fun r s => by
  rw [InRange, inRange_cell]
  unfold listBand
  cases bandOfCode (r.byte 0) with
  | none => exact .inl ⟨by simp, rfl⟩
  | some b => exact .inr ⟨_, _, by simp, rfl⟩

/-! ### The rows of the life and the protection of a grant -/

theorem activate_checked : OwnHandleChecked .activate activate :=
  .of_handle fun _ _ => .inr ⟨_, _, by simp [InRange], rfl⟩

theorem renew_checked : OwnHandleChecked .renew renew :=
  .of_handle fun _ _ => .inr ⟨_, _, by simp [InRange], rfl⟩

theorem withdraw_checked : OwnHandleChecked .withdraw withdraw :=
  .of_handle fun _ _ => .inr ⟨_, _, by simp [InRange], rfl⟩

theorem revoke_checked : ManagementHandleChecked .revoke revoke := .of_handle fun r s => by
  rw [InRange, ← isSome_yesNoOfCode]
  unfold revoke
  cases yesNoOfCode (r.byte 2) with
  | none => exact .inl ⟨by simp, rfl⟩
  | some cut => exact .inr ⟨_, by simp, rfl⟩

theorem hold_checked : ManagementHandleChecked .hold hold := .of_handle fun _ _ => .inr ⟨_, Iff.rfl, rfl⟩

theorem unhold_checked : ManagementHandleChecked .unhold unhold := .of_handle fun _ _ => .inr ⟨_, Iff.rfl, rfl⟩

theorem pin_checked : ManagementHandleChecked .pin pin := .of_handle fun _ _ => .inr ⟨_, Iff.rfl, rfl⟩

theorem freezePlan_checked : ManagementChecked .freezePlan freezePlan :=
  .of_parse (fun r _ => setOrClear (r.byte 0) (r.byte 1)) (fun _ _ => (isSome_setOrClear ..).symm)
    (fun _ _ h => by simp only [freezePlan, h]) (fun _ _ _ h => ⟨_, by simp only [freezePlan, h]; rfl⟩)

/-! ### The rows of the profiles and the slots -/

theorem isSome_writtenProfile (r : Req) :
    (writtenProfile r).isSome = true ↔
      r.byte 1 ≤ 5 ∧ 1 ≤ r.byte 2 ∧ r.byte 2 ≤ 2 ∧ r.byte 3 ≤ 4 ∧ 1 ≤ r.byte 4 ∧ r.byte 4 ≤ 7 := by
  rw [← isSome_modOrderOfCode]
  unfold writtenProfile
  cases modOrderOfCode (r.byte 1) with
  | none => simp
  | some order =>
    have codes := isSome_classSetOfCode (r.byte 4)
    cases hc : classSetOfCode (r.byte 4) with
    | none =>
      simp only [hc, Option.isSome_none, Bool.false_eq_true, false_iff] at codes
      simp
      omega
    | some c =>
      simp only [hc, Option.isSome_some, true_iff] at codes
      obtain ⟨-, rfl⟩ := (classSetOfCode_eq_some_iff ..).1 hc
      have nonzero : BitVec.ofNat 3 (r.byte 4) ≠ 0#3 ↔ r.byte 4 ≠ 0 := by
        rw [ne_eq, ← BitVec.toNat_inj, BitVec.toNat_ofNat, Nat.mod_eq_of_lt codes]
        rfl
      simp [nonzero]
      omega

theorem writeProfile_checked : ManagementChecked .writeProfile writeProfile := .of_request fun r s => by
  have range : InRange r s .writeProfile ↔ (indexOf (r.byte 0)).isSome ∧ (writtenProfile r).isSome := by
    simp only [InRange, isSome_indexOf, isSome_writtenProfile]
  rw [range]
  unfold writeProfile
  cases indexOf (r.byte 0) with
  | none => exact .inl ⟨by simp, rfl⟩
  | some k =>
    cases writtenProfile r with
    | none => exact .inl ⟨by simp, rfl⟩
    | some p => exact .inr ⟨_, _, by simp, rfl⟩

theorem clearProfile_checked : ManagementChecked .clearProfile clearProfile :=
  .of_parse (fun r _ => indexOf (r.byte 0)) (fun _ _ => (isSome_indexOf _).symm)
    (fun _ _ h => by simp only [clearProfile, h]) (fun _ _ _ h => ⟨_, by simp only [clearProfile, h]; rfl⟩)

theorem readProfile_checked : ManagementChecked .readProfile readProfile :=
  .of_parse (fun r _ => indexOf (r.byte 0)) (fun _ _ => (isSome_indexOf _).symm)
    (fun _ _ h => by simp only [readProfile, h]) (fun _ _ _ h => ⟨_, by simp only [readProfile, h]; rfl⟩)

theorem readSlot_checked : ManagementChecked .readSlot readSlot :=
  .of_parse (fun r _ => (bandOfCode (r.byte 0)).bind (slotOf · (r.byte 1)))
    (fun r _ => by
      simp only [InRange, Option.isSome_iff_exists, Option.bind_eq_some_iff, bandOfCode_eq_some_iff,
        slotOf_eq_some_iff]
      constructor
      · rintro ⟨j, hb, hn⟩
        exact ⟨j, _, hb, rfl, hn⟩
      · rintro ⟨j, _, hb, rfl, hn⟩
        exact ⟨j, hb, hn⟩)
    (fun _ _ h => by simp only [readSlot, h]) (fun _ _ _ h => ⟨_, by simp only [readSlot, h]; rfl⟩)

/-! ### The rows of the levels -/

theorem setLevel_checked : OwnHandleChecked .setLevel setLevel :=
  .of_handle fun _ _ => .inr ⟨_, _, by simp [InRange], rfl⟩

theorem assignGroup_checked : ManagementHandleChecked .assignGroup assignGroup := .of_handle fun r s => by
  rw [InRange, ← isSome_groupOfCode]
  unfold assignGroup
  cases groupOfCode (r.byte 2) with
  | none => exact .inl ⟨by simp, rfl⟩
  | some group => exact .inr ⟨_, by simp, rfl⟩

theorem State.isSome_groupUnit (s : State) (r : Req) :
    (s.groupUnit r).isSome = true ↔ 1 ≤ r.byte 0 ∧ r.byte 0 ≤ 3 ∧ r.byte 2 ≤ 1 := by
  rw [← isSome_groupModeOfCode]
  unfold State.groupUnit
  cases groupModeOfCode (r.byte 2) with
  | none => simp
  | some mode =>
    match r.byte 0 with
    | 0 | 1 | 2 | 3 | _ + 4 => simp [LevelUnit.withGroup]

theorem setGroup_checked : ManagementChecked .setGroup setGroup :=
  .of_parse (fun r s => s.groupUnit r) (fun r s => (s.isSome_groupUnit r).symm)
    (fun _ _ h => by simp only [setGroup, h]) (fun _ _ _ h => ⟨_, by simp only [setGroup, h]; rfl⟩)

theorem setBudget_checked : ManagementChecked .setBudget setBudget :=
  .of_parse (fun r _ => bandOfCode (r.byte 0)) (fun _ _ => (isSome_bandOfCode _).symm)
    (fun _ _ h => by simp only [setBudget, h]) (fun _ _ _ h => ⟨_, by simp only [setBudget, h]; rfl⟩)

theorem readLevels_checked : ManagementChecked .readLevels readLevels :=
  .of_request fun _ _ => .inr ⟨_, _, by simp [InRange], rfl⟩

/-! ### The rows of the move engine -/

theorem isSome_moveAsked (r : Req) :
    (moveAsked r).isSome = true ↔ r.byte 2 = 1 ∨ (r.byte 2 = 0 ∧ grantable (r.word 3) = true) := by
  unfold moveAsked
  match r.byte 2 with
  | 0 => cases grantable (r.word 3) <;> simp [placementOfCode]
  | 1 | _ + 2 => simp [placementOfCode]

theorem move_checked : OwnHandleChecked .move move := .of_handle fun r s => by
  rw [InRange, ← isSome_moveAsked, ← isSome_moveKindOfCode]
  unfold move
  cases moveAsked r with
  | none => exact .inl ⟨by simp, rfl⟩
  | some target =>
    cases moveKindOfCode (r.byte 5) with
    | none => exact .inl ⟨by simp, rfl⟩
    | some kind => exact .inr ⟨_, _, by simp, rfl⟩

theorem repack_checked : ManagementChecked .repack repack :=
  .of_parse (fun r _ => bandOfCode (r.byte 0)) (fun _ _ => (isSome_bandOfCode _).symm)
    (fun _ _ h => by simp only [repack, h]) (fun _ _ _ h => ⟨_, by simp only [repack, h]; rfl⟩)

theorem stopRepack_checked : ManagementChecked .stopRepack stopRepack :=
  .of_request fun _ _ => .inr ⟨_, _, by simp [InRange], rfl⟩

/-! ### The rows of the monitor -/

theorem watchTarget_eq_some_iff (r : Req) (t : WatchTarget) :
    watchTarget r = some t ↔
      (r.byte 1 = 0 ∧ ∃ i : Fin 64, r.byte 2 = i.val ∧ t = .grant ⟨i, r.generation 3⟩) ∨
        (r.byte 1 = 1 ∧ ∃ b, r.byte 4 = bandCode b ∧ t = .cells b (r.word 5) (r.byte 7) ∧ 1 ≤ r.byte 7 ∧
          r.byte 7 ≤ 192 ∧ bandFirst b ≤ r.word 5 ∧ r.word 5 + r.byte 7 ≤ bandLast b + 1) := by
  unfold watchTarget
  split
  · rename_i h
    simp [h, ← Req.entry_eq_some_iff, eq_comm (a := t)]
  · rename_i h
    cases hb : bandOfCode (r.byte 4) with
    | none =>
      simp [h, ← bandOfCode_eq_some_iff, hb]
    | some b =>
      have widest : Config.maxWidth = 192 := rfl
      simp only [h, ← bandOfCode_eq_some_iff, hb, Option.ite_none_right_eq_some, Bool.and_eq_true, spanInBand_iff,
        decide_eq_true_eq, widest]
      simp [eq_comm (a := t)]
      tauto
  · simp_all

theorem WatchTarget.suits_iff (t : WatchTarget) (a : WatchAction) :
    t.suits a = true ↔
      (∀ h, t = .grant h → a ≠ .block) ∧ (∀ b start width, t = .cells b start width → a = .flag ∨ a = .block) := by
  cases t <;> simp [WatchTarget.suits]

theorem windowOk_iff (r : Req) (n : Fin 32) (mode : CompareMode) :
    windowOk n mode (r.params.getD 9 0) (r.params.getD 10 0) = true ↔
      (mode = .inside ∨ mode = .outside → n.val < 16 ∧ r.byte 9 < r.byte 10) := by
  cases mode <;> simp [windowOk, CompareMode.isWindow, Req.byte, BitVec.lt_def]

/-- The watch of a SET_WATCH is read exactly as its fields stand (R166). -/
theorem writtenWatch_eq_some_iff {r : Req} {n : Fin 32} (h : r.byte 0 = n.val) (w : Watch) :
    writtenWatch r n = some w ↔ WatchFields r n w := by
  simp only [writtenWatch, Option.bind_eq_bind, Option.bind_eq_some_iff, Option.ite_none_right_eq_some, Option.pure_def,
    Option.some.injEq, watchTarget_eq_some_iff, compareModeOfCode_eq_some_iff, dispositionOfCode_eq_some_iff,
    watchActionOfCode_eq_some_iff, yesNoOfCode_eq_some_iff, Bool.and_eq_true, WatchTarget.suits_iff, windowOk_iff]
  constructor
  · rintro ⟨target, ht, mode, hm, disposition, hd, action, ha, enabled, he, ⟨hs, hw⟩, rfl⟩
    exact
      { position := h, target := ht, mode := hm, disposition := hd, action := ha, enabled := he, condition := rfl,
        suits := hs, window := hw }
  · rintro ⟨-, ht, hm, hd, ha, he, hc, hs, hw⟩
    exact ⟨w.target, ht, w.mode, hm, w.disposition, hd, w.action, ha, w.enabled, he, ⟨hs, hw⟩, by rw [← hc]⟩

theorem setWatch_checked : ManagementChecked .setWatch setWatch := .of_request fun r s => by
  unfold setWatch
  cases hn : positionOf (r.byte 0) with
  | none =>
    refine .inl ⟨fun ⟨n, w, h⟩ => ?_, rfl⟩
    rw [(positionOf_eq_some_iff ..).2 h.position] at hn
    cases hn
  | some n =>
    have position := (positionOf_eq_some_iff ..).1 hn
    dsimp only
    cases hw : writtenWatch r n with
    | none =>
      refine .inl ⟨fun ⟨n', w, h⟩ => ?_, rfl⟩
      obtain rfl : n = n' := Fin.ext (position.symm.trans h.position)
      rw [(writtenWatch_eq_some_iff position w).2 h] at hw
      cases hw
    | some w => exact .inr ⟨_, _, iff_of_true ⟨n, w, (writtenWatch_eq_some_iff position w).1 hw⟩ rfl, rfl⟩

theorem clearWatch_checked : ManagementChecked .clearWatch clearWatch :=
  .of_parse (fun r _ => positionOf (r.byte 0)) (fun _ _ => (isSome_positionOf _).symm)
    (fun _ _ h => by simp only [clearWatch, h]) (fun _ _ _ h => ⟨_, by simp only [clearWatch, h]; rfl⟩)

theorem readWatch_checked : ManagementChecked .readWatch readWatch :=
  .of_parse (fun r _ => positionOf (r.byte 0)) (fun _ _ => (isSome_positionOf _).symm)
    (fun _ _ h => by simp only [readWatch, h]) (fun _ _ _ h => ⟨_, by simp only [readWatch, h]; rfl⟩)

theorem isSome_sweepSettingsOf (r : Req) :
    (sweepSettingsOf r).isSome = true ↔
      r.byte 0 ≤ 2 ∧ 100 ≤ r.word 1 ∧ r.word 1 ≤ 60000 ∧ r.byte 3 ≤ 1 ∧ r.byte 4 < 32 ∧ r.byte 5 ≤ 3 := by
  rw [← isSome_sweepModeOfCode, ← isSome_sweepOrderOfCode, ← isSome_positionOf, ← isSome_reportOfCode]
  unfold sweepSettingsOf
  cases sweepModeOfCode (r.byte 0) with
  | none => simp
  | some mode =>
    cases sweepOrderOfCode (r.byte 3) with
    | none => simp
    | some order =>
      cases positionOf (r.byte 4) with
      | none => simp
      | some start =>
        cases reportOfCode (r.byte 5) with
        | none => simp
        | some report =>
          by_cases h : 100 ≤ r.word 1 ∧ r.word 1 ≤ 60000
          · simp [h]
          · simp only [Option.bind_eq_bind, Option.bind_some, if_neg h]
            simp
            omega

theorem setSweep_checked : ManagementChecked .setSweep setSweep :=
  .of_parse (fun r _ => sweepSettingsOf r) (fun r _ => (isSome_sweepSettingsOf r).symm)
    (fun _ _ h => by simp only [setSweep, h]) (fun _ _ _ h => ⟨_, by simp only [setSweep, h]; rfl⟩)

theorem sweep_checked : ManagementChecked .sweep sweep :=
  .of_request fun _ _ => .inr ⟨_, _, by simp [InRange], rfl⟩

theorem readResults_checked : ManagementChecked .readResults readResults :=
  .of_request fun _ _ => .inr ⟨_, _, by simp [InRange], rfl⟩

theorem readHits_checked : ManagementChecked .readHits readHits :=
  .of_request fun _ _ => .inr ⟨_, _, by simp [InRange], rfl⟩

theorem clearHits_checked : ManagementChecked .clearHits clearHits :=
  .of_request fun _ _ => .inr ⟨_, _, by simp [InRange], rfl⟩

/-! ### The rows of the request ports -/

theorem readEvents_checked : ManagementChecked .readEvents readEvents :=
  .of_request fun _ _ => .inr ⟨_, _, by simp [InRange], rfl⟩

theorem setEventMask_checked : ManagementChecked .setEventMask setEventMask :=
  .of_request fun _ _ => .inr ⟨_, _, by simp [InRange], rfl⟩

/-- READ_NEWS from management is refused before step 3 (R188). -/
theorem readNews_management {r : Req} (s : State) (h : r.port = .management) : readNews r s = refuse s .notPermitted :=
  if_pos h

theorem readNews_checked : TenantChecked .readNews readNews where
  fields _ _ h := absurd trivial h
  enabled r s _ h := ⟨_, if_neg (by simp [h])⟩

theorem status_checked : TenantChecked .status status where
  fields _ _ h := absurd trivial h
  enabled _ _ _ _ := ⟨_, rfl⟩

theorem restart_checked : ManagementChecked .restart restart :=
  .of_request fun _ _ => .inr ⟨_, _, by simp [InRange], rfl⟩

/-! ### All rows -/

/-- The row is carried out by the handler. -/
def RunsHandler (row : Instr) (handler : Handler) : Prop := ∀ s, exec row s = .next (s.serve row handler)

theorem managementRows_checked :
    ∀ row ∈ managementRows, ∃ handler, RunsHandler row handler ∧ ManagementChecked row handler := by
  simp only [managementRows, List.forall_mem_cons, List.not_mem_nil, false_imp_iff, implies_true, and_true]
  exact ⟨⟨_, fun _ => rfl, stageRegion_checked⟩, ⟨_, fun _ => rfl, discardStaged_checked⟩,
    ⟨_, fun _ => rfl, freezeRegion_checked⟩, ⟨_, fun _ => rfl, readRegion_checked⟩,
    ⟨_, fun _ => rfl, setGuard_checked⟩, ⟨_, fun _ => rfl, setTenant_checked⟩,
    ⟨_, fun _ => rfl, readTenant_checked⟩, ⟨_, fun _ => rfl, setPlanSettings_checked⟩,
    ⟨_, fun _ => rfl, readSettings_checked⟩, ⟨_, fun _ => rfl, listBand_checked⟩,
    ⟨_, fun _ => rfl, revoke_checked.managementChecked⟩, ⟨_, fun _ => rfl, hold_checked.managementChecked⟩,
    ⟨_, fun _ => rfl, unhold_checked.managementChecked⟩, ⟨_, fun _ => rfl, pin_checked.managementChecked⟩,
    ⟨_, fun _ => rfl, freezePlan_checked⟩, ⟨_, fun _ => rfl, writeProfile_checked⟩,
    ⟨_, fun _ => rfl, clearProfile_checked⟩, ⟨_, fun _ => rfl, readProfile_checked⟩,
    ⟨_, fun _ => rfl, readSlot_checked⟩, ⟨_, fun _ => rfl, assignGroup_checked.managementChecked⟩,
    ⟨_, fun _ => rfl, setGroup_checked⟩, ⟨_, fun _ => rfl, setBudget_checked⟩,
    ⟨_, fun _ => rfl, readLevels_checked⟩, ⟨_, fun _ => rfl, repack_checked⟩,
    ⟨_, fun _ => rfl, stopRepack_checked⟩, ⟨_, fun _ => rfl, setWatch_checked⟩,
    ⟨_, fun _ => rfl, clearWatch_checked⟩, ⟨_, fun _ => rfl, readWatch_checked⟩,
    ⟨_, fun _ => rfl, setSweep_checked⟩, ⟨_, fun _ => rfl, sweep_checked⟩,
    ⟨_, fun _ => rfl, readResults_checked⟩, ⟨_, fun _ => rfl, readHits_checked⟩,
    ⟨_, fun _ => rfl, clearHits_checked⟩, ⟨_, fun _ => rfl, readEvents_checked⟩,
    ⟨_, fun _ => rfl, setEventMask_checked⟩, ⟨_, fun _ => rfl, restart_checked⟩⟩

theorem tenantRows_checked : ∀ row ∈ tenantRows, ∃ handler, RunsHandler row handler ∧ TenantChecked row handler := by
  simp only [tenantRows, List.forall_mem_cons, List.not_mem_nil, false_imp_iff, implies_true, and_true]
  exact ⟨⟨_, fun _ => rfl, lookup_checked.tenantChecked⟩, ⟨_, fun _ => rfl, find_checked⟩,
    ⟨_, fun _ => rfl, listOwn_checked⟩, ⟨_, fun _ => rfl, activate_checked.tenantChecked⟩,
    ⟨_, fun _ => rfl, renew_checked.tenantChecked⟩, ⟨_, fun _ => rfl, withdraw_checked.tenantChecked⟩,
    ⟨_, fun _ => rfl, setLevel_checked.tenantChecked⟩, ⟨_, fun _ => rfl, move_checked.tenantChecked⟩,
    ⟨_, fun _ => rfl, readNews_checked⟩, ⟨_, fun _ => rfl, status_checked⟩⟩

/-- The rows that name a grant are those of `ownHandle`, which tenants may send, and those of `managementHandle`. -/
theorem handleRows_checked :
    ∀ row ∈ handleRows, ∃ handler, RunsHandler row handler ∧
      (OwnHandleChecked row handler ∨ (ManagementHandleChecked row handler ∧ row ∉ tenantRows)) := by
  simp only [handleRows, List.forall_mem_cons, List.not_mem_nil, false_imp_iff, implies_true, and_true]
  exact ⟨⟨_, fun _ => rfl, .inl lookup_checked⟩, ⟨_, fun _ => rfl, .inl activate_checked⟩,
    ⟨_, fun _ => rfl, .inl renew_checked⟩, ⟨_, fun _ => rfl, .inl withdraw_checked⟩,
    ⟨_, fun _ => rfl, .inr ⟨revoke_checked, by decide⟩⟩, ⟨_, fun _ => rfl, .inr ⟨hold_checked, by decide⟩⟩,
    ⟨_, fun _ => rfl, .inr ⟨unhold_checked, by decide⟩⟩, ⟨_, fun _ => rfl, .inr ⟨pin_checked, by decide⟩⟩,
    ⟨_, fun _ => rfl, .inl setLevel_checked⟩, ⟨_, fun _ => rfl, .inr ⟨assignGroup_checked, by decide⟩⟩,
    ⟨_, fun _ => rfl, .inl move_checked⟩⟩

/-- A row of neither list has no fields to be out of range, but for RESERVE. -/
theorem inRange_of_other {row : Instr} (hm : row ∉ managementRows) (ht : row ∉ tenantRows) (hr : row ≠ .reserve)
    (r : Req) (s : State) : InRange r s row := by
  cases row with
  | reserve => exact absurd rfl hr
  | _ => trivial

theorem managementRows_not_tenant : ∀ row ∈ managementRows, row ∉ tenantRows := by decide

/-! ### What the checks answer -/

theorem ManagementChecked.refuses {row : Instr} {handler : Handler} (h : ManagementChecked row handler) {r : Req}
    {s : State} (hi : InRange r s row) (hp : r.port = .tenant) : handler r s = refuse s .notPermitted := by
  obtain ⟨pass, e⟩ := h.port r s hi
  simp [e, managementOnly, hp]

theorem TenantChecked.refuses {row : Instr} {handler : Handler} (h : TenantChecked row handler) {r : Req} {s : State}
    (hi : InRange r s row) (hp : r.port = .tenant) (he : s.tenantEnabled r.tenant = false) :
    handler r s = refuse s .notEnabled := by
  obtain ⟨pass, e⟩ := h.enabled r s hi hp
  simp [e, enabledTenant, hp, he]

theorem State.grantOf_eq_some_iff (s : State) (h : Handle) (g : Grant) :
    s.grantOf h = some g ↔ (s.entry h.entry).generation = h.generation ∧ s.grant? h.entry = some g := by
  simp [State.grantOf]

/-- A handle whose entry is FREE or of another generation is refused STALE with its payload (R23). -/
theorem currentHandle_stale {r : Req} {s : State} {i : Fin 64} {pass : Grant → State × Reply}
    (h : s.grant? i = none ∨ r.generation 1 ≠ (s.entry i).generation) :
    currentHandle r s ⟨i, r.generation 1⟩ pass =
      (s, ⟨.stale, [(s.entry i).generation, byte (s.entry i).stateCode,
        if (s.entry i).grant = none ∧ (r.port = .management ∨ (s.entry i).tenant.val = r.tenant) then
          byte (s.entry i).lastOutcome.code else 0]⟩) := by
  have none : s.grantOf ⟨i, r.generation 1⟩ = none := by
    rw [Option.eq_none_iff_forall_ne_some]
    intro g hg
    obtain ⟨hgen, hgrant⟩ := (s.grantOf_eq_some_iff ..).1 hg
    rcases h with h | h
    · rw [h] at hgrant
      cases hgrant
    · exact h hgen.symm
  simp only [currentHandle, none, refuse, stalePayload, finalOutcome]
  split <;> rfl

/-- A row that names a grant comes to the check of the handle, and at the tenant port then to that of the owner. -/
theorem handleRow_reaches {row : Instr} {handler : Handler}
    (h : OwnHandleChecked row handler ∨ (ManagementHandleChecked row handler ∧ row ∉ tenantRows)) {r : Req} {s : State}
    (hi : InRange r s row) (hp : r.port = .management ∨ (row ∈ tenantRows ∧ s.tenantEnabled r.tenant = true))
    {i : Fin 64} (hb : r.byte 0 = i.val) :
    ∃ pass, handler r s = currentHandle r s ⟨i, r.generation 1⟩ pass ∧
      (r.port = .tenant → ∃ rest : Grant → State × Reply, pass = fun g => owned r s i (rest g)) := by
  rcases h with h | ⟨h, hn⟩
  · obtain ⟨-, pass, e⟩ := h.handle r s hi
    refine ⟨_, e.trans ((ownHandle_eq hb pass).trans (enabledTenant_pass (hp.imp_right And.right))), fun _ => ⟨_, rfl⟩⟩
  · obtain ⟨-, pass, e⟩ := h.handle r s hi
    have hm : r.port = .management := hp.resolve_right fun ⟨ht, _⟩ => hn ht
    refine ⟨pass i, e.trans ((managementHandle_eq hb pass).trans (if_pos hm)), fun ht => ?_⟩
    rw [hm] at ht
    cases ht

end Sys2Proof.Machine

namespace Sys2Proof.Proofs
open Sys2Proof.Machine

theorem fieldPortTenantRefuse : FieldPortTenantRefuse := by
  intro s src f row h
  dsimp only
  by_cases hm : row ∈ managementRows
  · obtain ⟨handler, runs, checked⟩ := managementRows_checked row hm
    refine ⟨fun hn => does_of_handler h (runs s) (checked.fields _ _ hn), fun hi => ⟨fun _ hp => ?_, ?_, ?_⟩⟩
    · exact does_of_handler h (runs s) (checked.refuses hi hp)
    · rintro rfl
      exact absurd hm (by decide)
    · exact fun ht => absurd ht (managementRows_not_tenant row hm)
  · by_cases ht : row ∈ tenantRows
    · obtain ⟨handler, runs, checked⟩ := tenantRows_checked row ht
      refine ⟨fun hn => does_of_handler h (runs s) (checked.fields _ _ hn), fun hi =>
        ⟨fun h => absurd h hm, ?_, fun _ hp he => does_of_handler h (runs s) (checked.refuses hi hp he)⟩⟩
      rintro rfl hp
      exact does_of_handler h rfl (readNews_management _ hp)
    · refine ⟨fun hn => ?_, fun _ => ⟨fun h => absurd h hm, ?_, fun h => absurd h ht⟩⟩
      · obtain rfl : row = .reserve := by_contra fun hr => hn (inRange_of_other hm ht hr _ _)
        exact does_of_handler h rfl (reserve_fieldsChecked _ _ hn)
      · rintro rfl
        exact absurd (by decide) ht

theorem handleChecksRefuse : HandleChecksRefuse := by
  intro s src f row h hrow
  dsimp only
  intro hi hp i hb
  obtain ⟨handler, runs, checked⟩ := handleRows_checked row hrow
  obtain ⟨pass, e, owner⟩ := handleRow_reaches checked hi hp hb
  refine ⟨fun stale => does_of_handler h (runs s) (e.trans (currentHandle_stale stale)), fun g names ht hn => ?_⟩
  obtain ⟨rest, rfl⟩ := owner ht
  exact does_of_handler h (runs s) (e.trans ((currentHandle_pass names).trans (if_pos ⟨ht, hn⟩)))

/-- Settles O11: each row makes the shared checks, so that steps 1 to 5 refuse as they do. -/
theorem sharedChecksRefuse : Obligations.SharedChecksRefuse :=
  ⟨fieldPortTenantRefuse, handleChecksRefuse, ⟨rfl, rfl, rfl, rfl, grantable_iff⟩, State.grantOf_eq_some_iff⟩

end Sys2Proof.Proofs
end

section
/-! ## Sweeps that start (R170 to R173) -/

namespace Sys2Proof.Machine

/-- A position is measurable for what a measurement of it would be ordered for (R172, R173). -/
theorem State.measurable_eq_some_iff (s : State) (n : Fin 32) (b : Band) (start width : Nat) (h : Option Handle) :
    s.measurable n = some (b, start, width, h) ↔ MeasuredAt s n b start width h := by
  unfold State.measurable MeasuredAt
  cases hp : s.monitor.position n with
  | empty => simp
  | paired => simp
  | watch w =>
    cases he : w.enabled with
    | false => simp [he]
    | true =>
      cases ht : w.target with
      | cells b' start' width' =>
        simp [he, ht, and_assoc, eq_comm (a := h)]
      | grant x =>
        cases hg : s.grantOf x with
        | none => simp [he, ht, hg]
        | some g =>
          simp [he, ht, hg, eq_comm (a := b), eq_comm (a := start), eq_comm (a := width), eq_comm (a := h)]

theorem State.measurable_eq_none_iff (s : State) (n : Fin 32) : s.measurable n = none ↔ PassedOver s n := by
  simp only [Option.eq_none_iff_forall_ne_some, ne_eq, Prod.forall, State.measurable_eq_some_iff, PassedOver]

/-- The search of a sweep comes to the first step at which a position is measured. -/
theorem State.nextStep_of_first {s : State} {w : Sweep} {k : Nat} {x : Band × Nat × Nat × Option Handle}
    (hx : s.measurable (w.visit k) = some x) {n k₀ : Nat} (h₀ : k₀ ≤ k) (hn : k < k₀ + n)
    (before : ∀ k', k₀ ≤ k' → k' < k → s.measurable (w.visit k') = none) : s.nextStep w n k₀ = some (k, x) := by
  induction n generalizing k₀ with
  | zero => omega
  | succ n ih =>
    obtain rfl | lt := Nat.eq_or_lt_of_le h₀
    · simp only [State.nextStep, hx]
    · simp only [State.nextStep, before k₀ (Nat.le_refl _) lt]
      exact ih lt (by omega) fun k' h => before k' (by omega)

theorem State.nextStep_of_none {s : State} {w : Sweep} {n k₀ : Nat}
    (h : ∀ k, k₀ ≤ k → k < k₀ + n → s.measurable (w.visit k) = none) : s.nextStep w n k₀ = none := by
  induction n generalizing k₀ with
  | zero => rfl
  | succ n ih =>
    simp only [State.nextStep, h k₀ (Nat.le_refl _) (by omega)]
    exact ih fun k h1 h2 => h k (by omega) (by omega)

/-- The end of a sweep, with its report (R172, R180). -/
theorem State.endSweep_eq (s : State) (w : Sweep) : s.endSweep w = sweepEnded s w := by
  have fill : s.monitor.fill.other = if s.monitor.fill = .a then .b else .a := by cases s.monitor.fill <;> rfl
  unfold State.endSweep State.reportSweep sweepEnded
  cases hr : s.monitor.settings.report <;> simp [State.withMonitor, State.raiseIf, hr, fill]

/-- The state in which a sweep begins its steps: the fill half invalid, the sweep running (R172). -/
def State.sweepBegun (s : State) : State :=
  s.withMonitor fun m =>
    { m.setHalf m.fill (invalidated (m.half m.fill)) with sweep := some s.monitor.freshSweep }

theorem State.sweepBegun_eq (s : State) :
    s.sweepBegun =
      { s with
        monitor :=
          { s.monitor with
            halfA := if s.monitor.fill = .a then invalidated s.monitor.halfA else s.monitor.halfA
            halfB := if s.monitor.fill = .b then invalidated s.monitor.halfB else s.monitor.halfB
            sweep := some s.monitor.freshSweep } } := by
  unfold State.sweepBegun State.withMonitor
  cases h : s.monitor.fill <;> simp [Monitor.setHalf, Monitor.half, h]

theorem State.sweepBegun_measurable (s : State) (n : Fin 32) : s.sweepBegun.measurable n = s.measurable n := by
  rw [s.sweepBegun_eq]
  rfl

theorem getElem_invalidated (v : Vector ResultEntry 32) (n : Fin 32) :
    (invalidated v)[n] = { v[n] with valid := false } := by
  simp [invalidated]

theorem State.startSweep_eq (s : State) :
    s.startSweep =
      match s.sweepBegun.nextStep s.monitor.freshSweep 32 0 with
      | some (k, b, start, width, h) => s.sweepBegun.sendMeasure s.monitor.freshSweep k b start width h
      | none => s.sweepBegun.endSweep s.monitor.freshSweep := rfl

theorem State.startSweep_started (s : State) : SweepStarted s s.startSweep := by
  refine ⟨s.sweepBegun, fun n => ?_, ⟨_, _, _, s.sweepBegun_eq⟩, ?_, ?_⟩
  · rw [s.sweepBegun_eq]
    cases s.monitor.fill <;> simp [invalidated]
  · intro k b start width h hk before measured
    have := State.nextStep_of_first (s := s.sweepBegun) (w := s.monitor.freshSweep) (k := k) (n := 32) (k₀ := 0)
      ((s.sweepBegun_measurable _).trans ((s.measurable_eq_some_iff ..).2 measured)) (Nat.zero_le _) (by omega)
      fun k' _ hk' => (s.sweepBegun_measurable _).trans ((s.measurable_eq_none_iff _).2 (before k' hk'))
    rw [State.startSweep_eq, this]
    rfl
  · intro passed
    have := State.nextStep_of_none (s := s.sweepBegun) (w := s.monitor.freshSweep) (n := 32) (k₀ := 0)
      fun k _ hk => (s.sweepBegun_measurable _).trans ((s.measurable_eq_none_iff _).2 (passed k (by omega)))
    rw [State.startSweep_eq, this, ← State.endSweep_eq]
    rfl

end Sys2Proof.Machine
end

section
/-! ## What an entry that becomes FREE leaves in the other records (R25) -/

namespace Sys2Proof.Machine

section FreeEntry

variable {s : State} {i : Fin 64} {g : Grant}

theorem State.occupancy_freeEntry (hg : s.grant? i = some g) (b : Band) :
    (s.freeEntry i).occupancy b = if g.band = b then removeItem i (s.occupancy b) else s.occupancy b := by
  have h : (s.freeEntry i).table.occupancy = s.table.occupancy.put g.band (removeItem i (s.occupancy g.band)) := by
    simp [State.freeEntry, hg, State.withMonitor, State.setOccupancy, State.occupancy]
  rw [State.occupancy, h]
  split
  · rename_i e
    rw [← e, PerBand.get_put]
  · rename_i e
    rw [PerBand.get_put_ne _ (Ne.symm e)]
    rfl

theorem State.counts_changeCount (s : State) (t : Nat) (f : Nat → Nat) (k : Fin 15) :
    (s.changeCount t f).table.counts[k] = if t = k.val + 1 then f s.table.counts[k] else s.table.counts[k] := by
  unfold State.changeCount
  split
  · rename_i h
    rw [if_neg]
    intro e
    rw [(tenantPlace_eq_some_iff ..).2 e] at h
    cases h
  · rename_i j h
    have ht := (tenantPlace_eq_some_iff ..).1 h
    by_cases e : j = k
    · subst e
      simp [ht]
    · have ne : j.val ≠ k.val := fun h => e (Fin.ext h)
      have : ¬t = k.val + 1 := by omega
      simp [this, ne]

theorem State.counts_freeEntry (hg : s.grant? i = some g) (k : Fin 15) :
    (s.freeEntry i).table.counts[k] =
      if (s.entry i).tenant.val = k.val + 1 then s.table.counts[k] - 1 else s.table.counts[k] := by
  have h : (s.freeEntry i).table.counts = (s.changeCount (s.entry i).tenant.val (· - 1)).table.counts := by
    simp only [State.freeEntry, hg, State.changeCount]
    cases tenantPlace (s.entry i).tenant.val <;> rfl
  rw [h, State.counts_changeCount]

theorem State.profile_changeReferences (s : State) (j k : Fin 8) (f : Nat → Nat) :
    (s.changeReferences j f).profile k =
      if j = k then { s.profile k with references := f (s.profile k).references } else s.profile k := by
  by_cases e : j = k
  · subst e
    simp [State.changeReferences]
  · have ne : j.val ≠ k.val := fun h => e (Fin.ext h)
    simp [State.changeReferences, State.setProfile, State.profile, e, ne]

theorem State.profile_freeEntry (hg : s.grant? i = some g) (k : Fin 8) :
    (s.freeEntry i).profile k =
      if g.profile = k then { s.profile k with references := (s.profile k).references - 1 } else s.profile k := by
  have h : (s.freeEntry i).profiles = (s.changeReferences g.profile (· - 1)).profiles := by
    simp [State.freeEntry, hg, State.withMonitor, State.changeReferences, State.setProfile, State.profile]
  refine Eq.trans ?_ (State.profile_changeReferences s g.profile k (· - 1))
  rw [State.profile, h]
  rfl

theorem State.monitor_freeEntry (hg : s.grant? i = some g) :
    (s.freeEntry i).monitor = s.monitor.detach (s.handleOf i) := by
  simp [State.freeEntry, hg, State.withMonitor]

end FreeEntry

/-- A watch that a freed grant's detaching reaches is disabled with its condition FALSE (R179). -/
theorem Monitor.position_detach (m : Monitor) (h : Handle) (n : Fin 32) :
    (∀ w, m.position n = .watch w → (m.detach h).position n =
      .watch (if w.target = .grant h then { w with enabled := false, condition := false } else w)) ∧
    ((∀ w, m.position n ≠ .watch w) → (m.detach h).position n = m.position n) := by
  rw [Monitor.detach, Monitor.position_voidFor, Monitor.position_mapWatches]
  refine ⟨fun w hw => ?_, fun hn => ?_⟩
  · simp only [hw, Watch.names_iff]
  · split
    · rename_i w hw
      exact absurd hw (hn w)
    · rfl

/-! ### Slots halted one after another (R115) -/

/-- Halts the slots of a list in turn. -/
def State.haltSlots (s : State) : List SlotId → State
  | [] => s
  | j :: rest => (s.haltSlot j).haltSlots rest

theorem State.haltSlots_append (s : State) (l m : List SlotId) : s.haltSlots (l ++ m) = (s.haltSlots l).haltSlots m := by
  induction l generalizing s with
  | nil => rfl
  | cons j l ih => exact ih _

theorem State.haltPart_eq (s : State) (p : Option SlotId) : s.haltPart p = s.haltSlots p.toList := by
  cases p <;> rfl

theorem State.pool_haltSlot_congr {s t : State} (h : t.pool = s.pool) (j : SlotId) :
    (t.haltSlot j).pool = (s.haltSlot j).pool := by
  unfold State.haltSlot
  rw [State.slot_congr h]
  split
  · exact h
  · simp [State.send, State.setSlot, h]

/-- What halts leave in the pool depends on the pool alone. -/
theorem State.pool_haltSlots_congr {s t : State} (h : t.pool = s.pool) (l : List SlotId) :
    (t.haltSlots l).pool = (s.haltSlots l).pool := by
  induction l generalizing s t with
  | nil => exact h
  | cons j l ih => exact ih (State.pool_haltSlot_congr h j)

/-- A RETIRED slot, and a slot that is not of the list, are left alone. -/
theorem State.haltSlots_other (s : State) {l : List SlotId} {j : SlotId} (h : (s.slot j).state = .retired ∨ j ∉ l) :
    (s.haltSlots l).slot j = s.slot j ∧ (s.haltSlots l).pool.sent[j] = s.pool.sent[j] := by
  induction l generalizing s with
  | nil => exact ⟨rfl, rfl⟩
  | cons k l ih =>
    have first : (s.haltSlot k).slot j = s.slot j ∧ (s.haltSlot k).pool.sent[j] = s.pool.sent[j] := by
      by_cases hk : (s.slot k).state = .retired
      · rw [State.haltSlot_retired s hk]
        exact ⟨rfl, rfl⟩
      · refine (State.haltSlot_spec s hk).2 j fun hj => ?_
        obtain rfl := List.mem_singleton.1 hj
        exact h.elim hk fun hn => hn (List.mem_cons_self ..)
    obtain ⟨hs, hm⟩ := ih (s.haltSlot k) (by
      rw [first.1]
      exact h.imp_right fun hn hj => hn (List.mem_cons_of_mem _ hj))
    exact ⟨hs.trans first.1, hm.trans first.2⟩

/-- A slot of the list that is not RETIRED is IDLE with no holder in the end, and was sent one HALT each time. -/
theorem State.haltSlots_halted (s : State) {l : List SlotId} {j : SlotId} (hr : (s.slot j).state ≠ .retired) :
    (j ∈ l → (s.haltSlots l).slot j = { s.slot j with state := .idle, holder := none }) ∧
      (s.haltSlots l).pool.sent[j] = s.pool.sent[j] ++ List.replicate (l.count j) .halt := by
  induction l generalizing s with
  | nil => exact ⟨(nomatch ·), by simp [State.haltSlots]⟩
  | cons k l ih =>
    by_cases hk : k = j
    · subst hk
      obtain ⟨slot, sent⟩ := (State.haltSlot_spec s hr).1
      have hr' : ((s.haltSlot k).slot k).state ≠ .retired := by simp [slot]
      obtain ⟨again, sent'⟩ := ih (s.haltSlot k) hr'
      refine ⟨fun _ => ?_, ?_⟩
      · by_cases hm : k ∈ l
        · rw [State.haltSlots, again hm, slot]
        · rw [State.haltSlots, (State.haltSlots_other _ (.inr hm)).1, slot]
      · rw [State.haltSlots, sent', sent, List.count_cons_self, List.append_assoc, Nat.add_comm, List.replicate_add]
        rfl
    · obtain ⟨slot, sent⟩ := State.haltSlots_other s (l := [k]) (j := j) (.inr (by simpa using Ne.symm hk))
      obtain ⟨again, sent'⟩ := ih (s.haltSlot k) (by rw [show (s.haltSlot k).slot j = s.slot j from slot]; exact hr)
      refine ⟨fun hm => ?_, ?_⟩
      · rw [State.haltSlots, again ((List.mem_cons.1 hm).resolve_left (Ne.symm hk)),
          show (s.haltSlot k).slot j = s.slot j from slot]
      · rw [State.haltSlots, sent', show (s.haltSlot k).pool.sent[j] = s.pool.sent[j] from sent,
          List.count_cons_of_ne hk]

end Sys2Proof.Machine
end

section
/-! ## The grants at a warm restart (R45, R75, R102, R119): one entry, and every entry of a list in turn -/

namespace Sys2Proof.Machine

theorem freed_iff (s : State) (i : Fin 64) : Freed s i = true ↔ ∃ g, s.grant? i = some g ∧ g.hold ≠ .pinned := by
  unfold Freed
  cases s.grant? i <;> simp

theorem freed_eq {s : State} {i : Fin 64} {g : Grant} (h : s.grant? i = some g) :
    Freed s i = decide (g.hold ≠ .pinned) := by
  unfold Freed
  rw [h]
  cases hp : g.hold <;> simp [hp]

/-- An entry after a warm restart: freed with REVOKED, or PINNED with its news flag cleared. -/
def Entry.restarted (e : Entry) : Entry :=
  match e.grant with
  | none => e
  | some g => if g.hold = .pinned then { e with grant := some { g with news := false } } else freedEntry e .revoked

/-- The entry holds a grant of the band that a restart frees. -/
def FreedIn (s : State) (b : Band) (i : Fin 64) : Bool :=
  (s.grant? i).any fun g => g.hold != .pinned && decide (g.band = b)

/-- The slots that a restart halts for an entry. -/
def State.haltedFor (s : State) (i : Fin 64) : List SlotId :=
  (s.grant? i).elim [] fun g => if g.hold = .pinned then [] else slotsOf g

/-- A watch that its grant's freeing has detached (R179). -/
def Watch.detached (w : Watch) : Watch := { w with enabled := false, condition := false }

/-! ### One entry -/

@[simp] theorem State.haltSlots_table (s : State) (l : List SlotId) : (s.haltSlots l).table = s.table := by
  induction l generalizing s with
  | nil => rfl
  | cons j l ih => rw [State.haltSlots, ih, State.haltSlot_table]

@[simp] theorem State.haltSlots_profiles (s : State) (l : List SlotId) : (s.haltSlots l).profiles = s.profiles := by
  induction l generalizing s with
  | nil => rfl
  | cons j l ih => rw [State.haltSlots, ih, State.haltSlot_profiles]

@[simp] theorem State.haltSlots_monitor (s : State) (l : List SlotId) : (s.haltSlots l).monitor = s.monitor := by
  induction l generalizing s with
  | nil => rfl
  | cons j l ih => rw [State.haltSlots, ih, State.haltSlot_monitor]

/-- The state in which a restart frees an entry: its slots halted and its outcome written. -/
def State.readyToFree (s : State) (i : Fin 64) (g : Grant) : State := (s.haltSlots (slotsOf g)).setOutcome i .revoked

section RestartEntry

variable {s : State} {i : Fin 64} {g : Grant}

theorem State.restartEntry_none (h : s.grant? i = none) : s.restartEntry i = s := by
  simp only [State.restartEntry, h]

theorem State.restartEntry_pinned (h : s.grant? i = some g) (hp : g.hold = .pinned) :
    s.restartEntry i = s.modGrant i fun g => { g with news := false } := by
  simp only [State.restartEntry, h, if_pos hp]

theorem State.restartEntry_freed (h : s.grant? i = some g) (hn : g.hold ≠ .pinned) :
    s.restartEntry i = (s.readyToFree i g).freeEntry i := by
  simp only [State.restartEntry, h, if_neg hn, State.readyToFree, slotsOf, State.haltSlots_append, State.haltPart_eq]

theorem State.entry_readyToFree (k : Fin 64) :
    (s.readyToFree i g).entry k =
      { s.entry k with lastOutcome := if k = i then .revoked else (s.entry k).lastOutcome } := by
  rw [State.readyToFree, State.entry_setOutcome, State.entry_congr (s := s) (by simp)]

theorem State.grant_readyToFree (k : Fin 64) : (s.readyToFree i g).grant? k = s.grant? k := by
  rw [State.grant?, State.entry_readyToFree]
  rfl

/-- The three ways of an entry at a restart: no grant, a PINNED grant, a grant that is freed. -/
theorem State.restartEntry_cases (s : State) (i : Fin 64) :
    (s.grant? i = none ∧ s.restartEntry i = s) ∨
      (∃ g, s.grant? i = some g ∧ g.hold = .pinned ∧ s.restartEntry i = s.modGrant i fun g => { g with news := false }) ∨
      (∃ g, s.grant? i = some g ∧ g.hold ≠ .pinned ∧ s.restartEntry i = (s.readyToFree i g).freeEntry i) := by
  cases h : s.grant? i with
  | none => exact .inl ⟨rfl, State.restartEntry_none h⟩
  | some g =>
    by_cases hp : g.hold = .pinned
    · exact .inr (.inl ⟨g, rfl, hp, State.restartEntry_pinned h hp⟩)
    · exact .inr (.inr ⟨g, rfl, hp, State.restartEntry_freed h hp⟩)

end RestartEntry

theorem State.entry_restartEntry_same (s : State) (i : Fin 64) : (s.restartEntry i).entry i = (s.entry i).restarted := by
  obtain ⟨h, e⟩ | ⟨g, h, hp, e⟩ | ⟨g, h, hn, e⟩ := s.restartEntry_cases i
  · rw [e, Entry.restarted, show (s.entry i).grant = none from h]
  · rw [e, State.entry_modGrant_same _ h, Entry.restarted, show (s.entry i).grant = some g from h]
    simp only [if_pos hp]
  · rw [e, State.entry_freeEntry_same _ ((State.grant_readyToFree i).trans h), State.entry_readyToFree,
      Entry.restarted, show (s.entry i).grant = some g from h]
    simp only [if_neg hn, if_true, freedEntry]

theorem State.entry_restartEntry_ne (s : State) {i k : Fin 64} (hk : k ≠ i) :
    (s.restartEntry i).entry k = s.entry k := by
  obtain ⟨-, e⟩ | ⟨g, h, -, e⟩ | ⟨g, h, -, e⟩ := s.restartEntry_cases i
  · rw [e]
  · rw [e, State.entry_modGrant_ne _ hk]
  · rw [e, EntriesKept.freeEntry _ i k (by simpa using hk), State.entry_readyToFree, if_neg hk]

theorem State.grant_restartEntry_ne (s : State) {i k : Fin 64} (hk : k ≠ i) : (s.restartEntry i).grant? k = s.grant? k := by
  rw [State.grant?, State.entry_restartEntry_ne s hk]
  rfl

theorem State.occupancy_restartEntry (s : State) (i : Fin 64) (b : Band) :
    (s.restartEntry i).occupancy b =
      (s.occupancy b).filter fun it => !(decide (it.handle.entry = i) && FreedIn s b i) := by
  obtain ⟨h, e⟩ | ⟨g, h, hp, e⟩ | ⟨g, h, hn, e⟩ := s.restartEntry_cases i
  · simp [e, FreedIn, h]
  · simp [e, FreedIn, h, hp, State.occupancy]
  · have before : (s.readyToFree i g).occupancy b = s.occupancy b := by simp [State.readyToFree, State.occupancy]
    rw [e, State.occupancy_freeEntry ((State.grant_readyToFree i).trans h), before]
    by_cases hb : g.band = b
    · rw [if_pos hb, removeItem]
      congr 1
      funext it
      have frees : (g.hold != .pinned) = true := by simpa using hn
      by_cases hi : it.handle.entry = i <;> simp [FreedIn, h, hb, frees, hi]
    · simp [FreedIn, h, hb]

theorem State.counts_restartEntry (s : State) (i : Fin 64) (k : Fin 15) :
    (s.restartEntry i).table.counts[k] =
      s.table.counts[k] - if Freed s i && decide ((s.entry i).tenant.val = k.val + 1) then 1 else 0 := by
  obtain ⟨h, e⟩ | ⟨g, h, hp, e⟩ | ⟨g, h, hn, e⟩ := s.restartEntry_cases i
  · simp [e, Freed, h]
  · simp [e, freed_eq h, hp]
  · have before : (s.readyToFree i g).table.counts[k] = s.table.counts[k] := by simp [State.readyToFree]
    rw [e, State.counts_freeEntry ((State.grant_readyToFree i).trans h), before, State.entry_readyToFree, freed_eq h]
    simp only [hn, ne_eq, not_false_eq_true, decide_true, Bool.true_and, decide_eq_true_eq]
    split <;> rfl

theorem State.profile_restartEntry (s : State) (i : Fin 64) (k : Fin 8) :
    (s.restartEntry i).profile k =
      { s.profile k with
        references := (s.profile k).references -
          if Freed s i && (s.grant? i).any (fun g => g.profile == k) then 1 else 0 } := by
  obtain ⟨h, e⟩ | ⟨g, h, hp, e⟩ | ⟨g, h, hn, e⟩ := s.restartEntry_cases i
  · simp [e, Freed, h]
  · simp [e, freed_eq h, hp, State.profile]
  · have before : (s.readyToFree i g).profile k = s.profile k := by simp [State.readyToFree, State.profile]
    rw [e, State.profile_freeEntry ((State.grant_readyToFree i).trans h), before, freed_eq h, h]
    by_cases hk : g.profile = k <;> simp [hn, hk]

theorem State.pool_restartEntry (s : State) (i : Fin 64) :
    (s.restartEntry i).pool = (s.haltSlots (s.haltedFor i)).pool := by
  obtain ⟨h, e⟩ | ⟨g, h, hp, e⟩ | ⟨g, h, hn, e⟩ := s.restartEntry_cases i
  · simp [e, State.haltedFor, h, State.haltSlots]
  · simp [e, State.haltedFor, h, hp, State.haltSlots]
  · simp [e, State.haltedFor, h, hn, State.readyToFree]

theorem State.monitor_restartEntry (s : State) (i : Fin 64) :
    (s.restartEntry i).monitor = if Freed s i then s.monitor.detach (s.handleOf i) else s.monitor := by
  obtain ⟨h, e⟩ | ⟨g, h, hp, e⟩ | ⟨g, h, hn, e⟩ := s.restartEntry_cases i
  · simp [e, Freed, h]
  · simp [e, freed_eq h, hp]
  · have handle : (s.readyToFree i g).handleOf i = s.handleOf i := by
      rw [State.handleOf, State.entry_readyToFree]
      rfl
    have before : (s.readyToFree i g).monitor = s.monitor := by simp [State.readyToFree]
    rw [e, State.monitor_freeEntry ((State.grant_readyToFree i).trans h), handle, before, freed_eq h]
    simp [hn]

/-- The position of a watch on the grant of an entry that is freed, and of any other, when the entry is restarted. -/
theorem State.position_restartEntry (s : State) (i : Fin 64) (n : Fin 32) :
    (∀ w, s.monitor.position n = .watch w →
      ((Freed s i = true ∧ w.target = .grant (s.handleOf i)) →
        (s.restartEntry i).monitor.position n = .watch w.detached) ∧
      (¬(Freed s i = true ∧ w.target = .grant (s.handleOf i)) →
        (s.restartEntry i).monitor.position n = .watch w)) ∧
    ((∀ w, s.monitor.position n ≠ .watch w) → (s.restartEntry i).monitor.position n = s.monitor.position n) := by
  obtain ⟨watch, other⟩ := s.monitor.position_detach (s.handleOf i) n
  rw [State.monitor_restartEntry]
  cases Freed s i with
  | false => exact ⟨fun w hw => ⟨fun h => absurd h.1 Bool.false_ne_true, fun _ => hw⟩, fun _ => rfl⟩
  | true =>
    refine ⟨fun w hw => ⟨fun ⟨_, h⟩ => ?_, fun h => ?_⟩, other⟩
    · rw [if_pos rfl, watch w hw, if_pos h]
      rfl
    · rw [if_pos rfl, watch w hw, if_neg fun e => h ⟨rfl, e⟩]

/-! ### Every entry of a list -/

@[simp] theorem State.restartEntries_plan (s : State) (l : List (Fin 64)) : (s.restartEntries l).plan = s.plan := by
  induction l generalizing s with
  | nil => rfl
  | cons i l ih => rw [State.restartEntries, ih, State.restartEntry_plan]

@[simp] theorem State.restartEntries_ports (s : State) (l : List (Fin 64)) : (s.restartEntries l).ports = s.ports := by
  induction l generalizing s with
  | nil => rfl
  | cons i l ih => rw [State.restartEntries, ih, State.restartEntry_ports]

@[simp] theorem State.restartEntries_levels (s : State) (l : List (Fin 64)) :
    (s.restartEntries l).levels = s.levels := by
  induction l generalizing s with
  | nil => rfl
  | cons i l ih => rw [State.restartEntries, ih, State.restartEntry_levels]

@[simp] theorem State.restartEntries_engine (s : State) (l : List (Fin 64)) :
    (s.restartEntries l).engine = s.engine := by
  induction l generalizing s with
  | nil => rfl
  | cons i l ih => rw [State.restartEntries, ih, State.restartEntry_engine]

@[simp] theorem State.restartEntries_table_planFrozen (s : State) (l : List (Fin 64)) :
    (s.restartEntries l).table.planFrozen = s.table.planFrozen := by
  induction l generalizing s with
  | nil => rfl
  | cons i l ih => rw [State.restartEntries, ih, State.restartEntry_table_planFrozen]

@[simp] theorem State.restartEntries_pool_startUp (s : State) (l : List (Fin 64)) :
    (s.restartEntries l).pool.startUp = s.pool.startUp := by
  induction l generalizing s with
  | nil => rfl
  | cons i l ih => rw [State.restartEntries, ih, State.restartEntry_pool_startUp]

/-- An entry of a list that does not hold `i` is as it was when `i` has been restarted. -/
theorem State.entry_restartEntry_of_mem (s : State) {i : Fin 64} {l : List (Fin 64)} (hi : i ∉ l) {k : Fin 64}
    (hk : k ∈ l) : (s.restartEntry i).entry k = s.entry k :=
  s.entry_restartEntry_ne fun e => hi (e ▸ hk)

theorem freed_congr {s t : State} {k : Fin 64} (h : t.entry k = s.entry k) : Freed t k = Freed s k := by
  simp only [Freed, State.grant?, h]

theorem State.entry_restartEntries (s : State) {l : List (Fin 64)} (hl : l.Nodup) (k : Fin 64) :
    (s.restartEntries l).entry k = if k ∈ l then (s.entry k).restarted else s.entry k := by
  induction l generalizing s with
  | nil => rfl
  | cons i l ih =>
    obtain ⟨hi, hl⟩ := List.nodup_cons.1 hl
    rw [State.restartEntries, ih _ hl]
    by_cases hk : k = i
    · subst hk
      rw [if_neg hi, if_pos (List.mem_cons_self ..), State.entry_restartEntry_same]
    · simp only [State.entry_restartEntry_ne s hk, List.mem_cons, hk, false_or]

theorem State.occupancy_restartEntries (s : State) {l : List (Fin 64)} (hl : l.Nodup) (b : Band) :
    (s.restartEntries l).occupancy b =
      (s.occupancy b).filter fun it => !(decide (it.handle.entry ∈ l) && FreedIn s b it.handle.entry) := by
  induction l generalizing s with
  | nil => simp [State.restartEntries]
  | cons i l ih =>
    obtain ⟨hi, hl⟩ := List.nodup_cons.1 hl
    rw [State.restartEntries, ih _ hl, State.occupancy_restartEntry, List.filter_filter]
    congr 1
    funext it
    by_cases hk : it.handle.entry = i
    · simp [hk, hi]
    · simp [hk, FreedIn, State.grant_restartEntry_ne s hk]

theorem State.counts_restartEntries (s : State) {l : List (Fin 64)} (hl : l.Nodup) (k : Fin 15) :
    (s.restartEntries l).table.counts[k] =
      s.table.counts[k] - l.countP fun i => Freed s i && decide ((s.entry i).tenant.val = k.val + 1) := by
  induction l generalizing s with
  | nil => rfl
  | cons i l ih =>
    obtain ⟨hi, hl⟩ := List.nodup_cons.1 hl
    have rest : l.countP (fun j => Freed (s.restartEntry i) j &&
          decide (((s.restartEntry i).entry j).tenant.val = k.val + 1)) =
        l.countP fun j => Freed s j && decide ((s.entry j).tenant.val = k.val + 1) :=
      List.countP_congr fun j hj => by
        rw [freed_congr (s.entry_restartEntry_of_mem hi hj), s.entry_restartEntry_of_mem hi hj]
    rw [State.restartEntries, ih _ hl, rest, State.counts_restartEntry, List.countP_cons, Nat.sub_sub, Nat.add_comm]

theorem State.profile_restartEntries (s : State) {l : List (Fin 64)} (hl : l.Nodup) (k : Fin 8) :
    (s.restartEntries l).profile k =
      { s.profile k with
        references := (s.profile k).references -
          l.countP fun i => Freed s i && (s.grant? i).any fun g => g.profile == k } := by
  induction l generalizing s with
  | nil => rfl
  | cons i l ih =>
    obtain ⟨hi, hl⟩ := List.nodup_cons.1 hl
    have rest : l.countP (fun j => Freed (s.restartEntry i) j &&
          ((s.restartEntry i).grant? j).any fun g => g.profile == k) =
        l.countP fun j => Freed s j && (s.grant? j).any fun g => g.profile == k :=
      List.countP_congr fun j hj => by
        rw [freed_congr (s.entry_restartEntry_of_mem hi hj), State.grant?, s.entry_restartEntry_of_mem hi hj]
        rfl
    rw [State.restartEntries, ih _ hl, rest, State.profile_restartEntry, List.countP_cons]
    simp only [Nat.sub_sub, Nat.add_comm]

theorem State.pool_restartEntries (s : State) {l : List (Fin 64)} (hl : l.Nodup) :
    (s.restartEntries l).pool = (s.haltSlots (l.flatMap s.haltedFor)).pool := by
  induction l generalizing s with
  | nil => rfl
  | cons i l ih =>
    obtain ⟨hi, hl⟩ := List.nodup_cons.1 hl
    have rest : l.flatMap (s.restartEntry i).haltedFor = l.flatMap s.haltedFor :=
      List.flatMap_congr fun j hj => by
        rw [State.haltedFor, State.grant?, s.entry_restartEntry_of_mem hi hj]
        rfl
    rw [State.restartEntries, ih _ hl, rest, List.flatMap_cons, State.haltSlots_append]
    exact State.pool_haltSlots_congr (s.pool_restartEntry i) _

/-- The freed grants of a list detach the watches that name them, and change nothing else at the positions (R179). -/
theorem State.position_restartEntries (s : State) {l : List (Fin 64)} (hl : l.Nodup) (n : Fin 32) :
    (∀ w, s.monitor.position n = .watch w →
      ((∃ i ∈ l, Freed s i = true ∧ w.target = .grant (s.handleOf i)) →
        (s.restartEntries l).monitor.position n = .watch w.detached) ∧
      ((∀ i ∈ l, ¬(Freed s i = true ∧ w.target = .grant (s.handleOf i))) →
        (s.restartEntries l).monitor.position n = .watch w)) ∧
    ((∀ w, s.monitor.position n ≠ .watch w) → (s.restartEntries l).monitor.position n = s.monitor.position n) := by
  induction l generalizing s with
  | nil => exact ⟨fun w hw => ⟨fun ⟨_, h, _⟩ => absurd h List.not_mem_nil, fun _ => hw⟩, fun _ => rfl⟩
  | cons i l ih =>
    obtain ⟨hi, hl⟩ := List.nodup_cons.1 hl
    obtain ⟨watch, other⟩ := ih (s.restartEntry i) hl
    have later : ∀ w : Watch, ∀ j ∈ l,
        (Freed (s.restartEntry i) j = true ∧ w.target = .grant ((s.restartEntry i).handleOf j)) ↔
          (Freed s j = true ∧ w.target = .grant (s.handleOf j)) := fun w j hj => by
      rw [freed_congr (s.entry_restartEntry_of_mem hi hj), State.handleOf, s.entry_restartEntry_of_mem hi hj]
      rfl
    obtain ⟨firstWatch, firstOther⟩ := s.position_restartEntry i n
    refine ⟨fun w hw => ⟨?_, ?_⟩, fun hn => ?_⟩
    · rintro ⟨j, hj, hc⟩
      by_cases first : Freed s i = true ∧ w.target = .grant (s.handleOf i)
      · obtain ⟨again, done⟩ := watch w.detached ((firstWatch w hw).1 first)
        by_cases more : ∃ j ∈ l, Freed (s.restartEntry i) j = true ∧
            w.target = .grant ((s.restartEntry i).handleOf j)
        · exact again more
        · exact done fun j hj hc => more ⟨j, hj, hc⟩
      · have hj : j ∈ l := (List.mem_cons.1 hj).resolve_left fun e => first (e ▸ hc)
        exact (watch w ((firstWatch w hw).2 first)).1 ⟨j, hj, (later w j hj).2 hc⟩
    · intro hn
      refine (watch w ((firstWatch w hw).2 (hn i (List.mem_cons_self ..)))).2 fun j hj => ?_
      rw [later w j hj]
      exact hn j (List.mem_cons_of_mem _ hj)
    · have e := firstOther hn
      exact (other (by rwa [e])).trans e

/-- A monitor that differs from another in its positions and in the measurement in flight only. -/
def Monitor.WatchesOnly (m m' : Monitor) : Prop := m' = { m with positions := m'.positions, inFlight := m'.inFlight }

theorem Monitor.WatchesOnly.trans {m m' m'' : Monitor} (h : m.WatchesOnly m') (h' : m'.WatchesOnly m'') :
    m.WatchesOnly m'' := by
  cases m
  cases m'
  cases m''
  simp_all [Monitor.WatchesOnly]

theorem Monitor.detach_watchesOnly (m : Monitor) (h : Handle) : m.WatchesOnly (m.detach h) := by
  simp only [Monitor.WatchesOnly, Monitor.detach, Monitor.voidFor, Monitor.mapWatches]

theorem Monitor.WatchesOnly.fields {m m' : Monitor} (h : m.WatchesOnly m') :
    m'.thresholds = m.thresholds ∧ m'.settings = m.settings ∧ m'.tagCounter = m.tagCounter ∧ m'.sent = m.sent ∧
      m'.halfA = m.halfA ∧ m'.halfB = m.halfB := by
  rw [Monitor.WatchesOnly] at h
  rw [h]
  exact ⟨rfl, rfl, rfl, rfl, rfl, rfl⟩

/-- Freed grants leave the monitor but for its positions and the measurement in flight. -/
theorem State.restartEntries_watchesOnly (s : State) (l : List (Fin 64)) :
    s.monitor.WatchesOnly (s.restartEntries l).monitor := by
  induction l generalizing s with
  | nil => rfl
  | cons i l ih =>
    refine Monitor.WatchesOnly.trans ?_ (ih (s.restartEntry i))
    rw [State.monitor_restartEntry]
    split
    · exact s.monitor.detach_watchesOnly _
    · rfl

end Sys2Proof.Machine
end

section
/-! ## RESTART (R8, R45, R75, R119, R136, R153, R161, R181, R190, R191) -/

namespace Sys2Proof.Machine

theorem mem_entryNumbers (i : Fin 64) : i ∈ entryNumbers := List.mem_finRange i

theorem nodup_entryNumbers : entryNumbers.Nodup := List.nodup_finRange 64

/-! ### The grants, the slots and what names them -/

/-- The state in which a restart has dropped asks and repack and has restarted every entry. -/
def State.grantsRestarted (u : State) : State := u.restartEngine.restartEntries entryNumbers

theorem State.entry_grantsRestarted (u : State) (i : Fin 64) : u.grantsRestarted.entry i = (u.entry i).restarted := by
  rw [State.grantsRestarted, State.entry_restartEntries _ nodup_entryNumbers, if_pos (mem_entryNumbers i)]
  rfl

/-- A slot is halted for an entry when it is a slot of the grant that is freed there. -/
theorem State.mem_haltedFor_iff (s : State) (i : Fin 64) (j : SlotId) :
    j ∈ s.haltedFor i ↔ ∃ g, s.grant? i = some g ∧ g.hold ≠ .pinned ∧ j ∈ slotsOf g := by
  unfold State.haltedFor
  cases s.grant? i with
  | none => simp
  | some g => by_cases hp : g.hold = .pinned <;> simp [hp]

/-- The slots halted in a restart, in the order of the entries. -/
theorem State.pool_grantsRestarted (u : State) :
    u.grantsRestarted.pool = (u.haltSlots (entryNumbers.flatMap u.haltedFor)).pool := by
  rw [State.grantsRestarted, State.pool_restartEntries _ nodup_entryNumbers]
  exact State.pool_haltSlots_congr (s := u) (t := u.restartEngine) rfl _

/-- A grant names each of its slots once when its second slot is not its own. -/
theorem count_slotsOf {g : Grant} (h : SlotsDiffer g) {j : SlotId} (hj : j ∈ slotsOf g) : (slotsOf g).count j = 1 := by
  have second_ne : ∀ k, g.move.bind (·.second) = some k → g.slot ≠ some k := by
    intro k hk
    obtain ⟨m, hm, hs⟩ := Option.bind_eq_some_iff.1 hk
    exact h m k hm hs
  unfold slotsOf at hj ⊢
  cases hs : g.slot with
  | none =>
    cases hm : g.move.bind (·.second) with
    | none => simp [hs, hm] at hj
    | some k =>
      obtain rfl : j = k := by simpa [hs, hm] using hj
      simp
  | some a =>
    cases hm : g.move.bind (·.second) with
    | none =>
      obtain rfl : j = a := by simpa [hs, hm] using hj
      simp
    | some k =>
      have ne : a ≠ k := fun e => second_ne k hm (hs.trans (congrArg some e))
      obtain rfl | rfl : j = a ∨ j = k := by simpa [hs, hm] using hj
      · simp [ne.symm]
      · simp [ne]

/-- A slot of one freed grant only is halted once. -/
theorem State.count_haltedFor {u : State} {i : Fin 64} {g : Grant} {j : SlotId} (hg : u.grant? i = some g)
    (hn : g.hold ≠ .pinned) (hj : j ∈ slotsOf g) (differ : SlotsDiffer g)
    (others : ∀ i' g', i' ≠ i → u.grant? i' = some g' → g'.hold ≠ .pinned → j ∉ slotsOf g') :
    (entryNumbers.flatMap u.haltedFor).count j = 1 := by
  obtain ⟨before, after, split⟩ := List.append_of_mem (mem_entryNumbers i)
  have nodup := nodup_entryNumbers
  rw [split, List.nodup_append, List.nodup_cons] at nodup
  obtain ⟨-, ⟨later, -⟩, earlier⟩ := nodup
  have none : ∀ l : List (Fin 64), i ∉ l → (l.flatMap u.haltedFor).count j = 0 := by
    intro l hl
    rw [List.count_eq_zero, List.mem_flatMap]
    rintro ⟨i', hi', hm⟩
    obtain ⟨g', hg', hn', hj'⟩ := (u.mem_haltedFor_iff i' j).1 hm
    exact others i' g' (fun e => hl (e ▸ hi')) hg' hn' hj'
  have own : u.haltedFor i = slotsOf g := by simp [State.haltedFor, hg, hn]
  rw [split, List.flatMap_append, List.flatMap_cons, List.count_append, List.count_append, none after later,
    none before (fun h => (earlier i h i (List.mem_cons_self ..)) rfl), own, count_slotsOf differ hj]

/-- Every grant that is not PINNED is gone, and with it what names it. -/
theorem State.grantsRestarted_spec (u : State) : GrantsRestarted u u.grantsRestarted where
  kept i h := by
    rw [State.entry_grantsRestarted, Entry.restarted, show (u.entry i).grant = none from h]
  freed i g h hn := by
    rw [State.entry_grantsRestarted, Entry.restarted, show (u.entry i).grant = some g from h]
    exact if_neg hn
  pinned i g h hp := by
    rw [State.entry_grantsRestarted, Entry.restarted, show (u.entry i).grant = some g from h]
    exact if_pos hp
  occupancy b := by
    rw [State.grantsRestarted, State.occupancy_restartEntries _ nodup_entryNumbers]
    simp only [mem_entryNumbers, decide_true, Bool.true_and]
    rfl
  counts k := by
    rw [State.grantsRestarted, State.counts_restartEntries _ nodup_entryNumbers]
    rfl
  references k := by
    rw [State.grantsRestarted, State.profile_restartEntries _ nodup_entryNumbers]
    rfl
  halted i g j h hn hj hr := by
    obtain ⟨slot, sent⟩ := State.haltSlots_halted u (l := entryNumbers.flatMap u.haltedFor) hr
    have mem : j ∈ entryNumbers.flatMap u.haltedFor :=
      List.mem_flatMap.2 ⟨i, mem_entryNumbers i, (u.mem_haltedFor_iff i j).2 ⟨g, h, hn, hj⟩⟩
    rw [State.slot_congr u.pool_grantsRestarted, u.pool_grantsRestarted]
    refine ⟨slot mem, fun differ others => ?_⟩
    rw [sent, State.count_haltedFor h hn hj differ others]
    rfl
  slots j hj := by
    rw [State.slot_congr u.pool_grantsRestarted, u.pool_grantsRestarted]
    refine State.haltSlots_other u (hj.imp_right fun none hm => ?_)
    obtain ⟨i, -, hm⟩ := List.mem_flatMap.1 hm
    obtain ⟨g, hg, hn, hj⟩ := (u.mem_haltedFor_iff i j).1 hm
    exact none i g hg hn hj
  detached n w hw := by
    obtain ⟨watch, -⟩ := State.position_restartEntries u.restartEngine nodup_entryNumbers n
    obtain ⟨gone, stays⟩ := watch w hw
    split
    · rename_i h
      obtain ⟨i, hf, ht⟩ := h
      exact gone ⟨i, mem_entryNumbers i, hf, ht⟩
    · rename_i h
      exact stays fun i _ hc => h ⟨i, hc⟩
  positions n hn := (State.position_restartEntries u.restartEngine nodup_entryNumbers n).2 hn
  rest := by simp [State.grantsRestarted, State.restartEngine]

/-- A plan holds the grants that remain when it allows the span of each (R8). -/
theorem State.planHolds_eq (s : State) (p : Plan) :
    s.planHolds p =
      entryNumbers.all fun i => (s.grant? i).all fun g => p.allowsSpan g.band g.start g.width g.cls := by
  unfold State.planHolds
  congr 1
  funext i
  cases s.grant? i <;> rfl

/-! ### What the re-evaluation of the clamp leaves (R126) -/

/-- Two states have the same entries but for the counted loads of their grants. -/
def SameButLoads (s t : State) : Prop :=
  ∀ i, ∃ n, t.entry i = { s.entry i with grant := (s.grant? i).map fun g => { g with counted := n } }

theorem SameButLoads.refl (s : State) : SameButLoads s s := by
  intro i
  refine ⟨(s.grant? i).elim 0 (·.counted), ?_⟩
  have : (s.grant? i).map (fun g => { g with counted := (s.grant? i).elim 0 (·.counted) }) = s.grant? i := by
    cases s.grant? i <;> rfl
  rw [this]
  rfl

theorem LevelUnit.recount_eq (u : LevelUnit) (g : Grant) : ∃ n, u.recount g = { g with counted := n } := by
  unfold LevelUnit.recount
  split <;> exact ⟨_, rfl⟩

theorem relevelEntry_eq (old new : State) (i : Fin 64) :
    ∃ n, relevelEntry old new i =
      { new.entry i with grant := (new.grant? i).map fun g => { g with counted := n } } := by
  unfold relevelEntry State.grant?
  obtain ⟨generation, tenant, outcome, grant⟩ := new.entry i
  cases grant with
  | none => exact ⟨0, rfl⟩
  | some g =>
    dsimp only
    obtain ⟨n, recounted⟩ := new.levels.recount_eq g
    split
    · cases g.state.follows with
      | true => exact ⟨n, by rw [if_pos rfl, recounted]; rfl⟩
      | false => exact ⟨g.counted, rfl⟩
    · exact ⟨g.counted, rfl⟩

theorem applyLevels_sameButLoads (s : State) (u : LevelUnit) : SameButLoads s (applyLevels s { s with levels := u }) := by
  intro i
  have entry : (applyLevels s { s with levels := u }).entry i = relevelEntry s { s with levels := u } i := by
    simp [applyLevels, State.entry]
  obtain ⟨n, e⟩ := relevelEntry_eq s { s with levels := u } i
  exact ⟨n, entry.trans e⟩

theorem SameButLoads.of_entries {s t v : State} (h : SameButLoads s t) (e : v.table.entries = t.table.entries) :
    SameButLoads s v := by
  intro i
  rw [State.entry_congr e]
  exact h i

theorem noteLoad_sameButLoads (s t : State) : SameButLoads t (noteLoad s t) := by
  unfold noteLoad State.loadDecreased
  split
  · split
    · unfold State.trackPilot
      dsimp only
      exact (applyLevels_sameButLoads t _).of_entries (by rw [State.setClamped_table, State.setApplied])
    · exact .refl t
  · exact .refl t

theorem SameButLoads.grantOf_isSome {s t : State} (h : SameButLoads s t) (x : Handle) :
    (t.grantOf x).isSome = (s.grantOf x).isSome := by
  obtain ⟨n, e⟩ := h x.entry
  simp only [State.grantOf, State.grant?, e]
  split <;> simp

theorem SameButLoads.planHolds_eq {s t : State} (h : SameButLoads s t) (p : Plan) : t.planHolds p = s.planHolds p := by
  have each : ∀ i, (t.grant? i).all (fun g => p.allowsSpan g.band g.start g.width g.cls) =
      (s.grant? i).all fun g => p.allowsSpan g.band g.start g.width g.cls := by
    intro i
    obtain ⟨n, e⟩ := h i
    rw [State.grant?, e]
    cases s.grant? i <;> rfl
  simp only [State.planHolds_eq, each]

theorem SameButLoads.decidePlan_eq {s t : State} (h : SameButLoads s t) (hp : t.plan = s.plan) :
    t.decidePlan = s.decidePlan := by
  simp only [State.decidePlan, hp, h.planHolds_eq]

/-! ### The plan's decision (R8) -/

/-- The grants that stay are the PINNED ones, without their news (R75). -/
theorem State.grant_grantsRestarted (u : State) (i : Fin 64) :
    u.grantsRestarted.grant? i = ((u.grant? i).filter fun g => g.hold = .pinned).map fun g => { g with news := false } := by
  rw [State.grant?, State.entry_grantsRestarted, Entry.restarted, State.grant?]
  cases hg : (u.entry i).grant with
  | none => simp [hg]
  | some g => by_cases hp : g.hold = .pinned <;> simp [hp, freedEntry]

theorem State.planHolds_grantsRestarted (u : State) (q : Plan) :
    u.grantsRestarted.planHolds q = true ↔
      ∀ i g, u.grant? i = some g → g.hold = .pinned → q.allowsSpan g.band g.start g.width g.cls = true := by
  simp only [State.planHolds_eq, List.all_eq_true, mem_entryNumbers, true_imp_iff, State.grant_grantsRestarted]
  refine forall_congr' fun i => ?_
  cases u.grant? i with
  | none => simp
  | some g => by_cases hp : g.hold = .pinned <;> simp [Option.filter, hp]

theorem State.decidePlan_grantsRestarted (u : State) : PlanDecided u u.grantsRestarted.decidePlan.code := by
  have plan : u.grantsRestarted.plan = u.plan := u.grantsRestarted_spec.rest.1
  unfold State.decidePlan
  rw [plan]
  refine ⟨fun h => ?_, fun q hq fits => ?_, fun q hq no => ?_⟩
  · rw [h]
    rfl
  · have := (u.planHolds_grantsRestarted q).2 fits
    simp only [hq, this, if_true]
    rfl
  · have := mt (u.planHolds_grantsRestarted q).1 no
    simp only [hq, if_neg this]
    rfl

/-! ### The blocks, the monitor and the ports -/

/-- A restart keeps the condition of an enabled impairing watch on a grant that stays, and no other (R181). -/
theorem State.restartWatch_spec (s : State) (w : Watch) :
    let keeps := w.enabled = true ∧ (w.action = .impair ∨ w.action = .impairAndMove) ∧
      ∃ h g, w.target = .grant h ∧ s.grantOf h = some g
    (keeps → s.restartWatch w = w) ∧ (¬keeps → s.restartWatch w = { w with condition := false }) := by
  dsimp only
  unfold State.restartWatch
  have impairs : w.action.impairs = true ↔ w.action = .impair ∨ w.action = .impairAndMove := by
    cases w.action <;> simp [WatchAction.impairs]
  cases ht : w.target with
  | cells b start width => simp
  | grant h =>
    have keeps : (w.enabled && w.action.impairs && (s.grantOf h).isSome) = true ↔
        w.enabled = true ∧ (w.action = .impair ∨ w.action = .impairAndMove) ∧ ∃ g, s.grantOf h = some g := by
      simp only [Bool.and_eq_true, impairs, Option.isSome_iff_exists, and_assoc]
    simp only [WatchTarget.grant.injEq, exists_and_left, exists_eq_left', ← keeps]
    exact ⟨fun h => if_pos h, fun h => if_neg h⟩

end Sys2Proof.Machine
end

section
/-! ## RESTART: the blocks, the monitor and the ports at its end -/

namespace Sys2Proof.Machine

/-- The blocks after a restart. -/
theorem State.restartBlocks_eq (u : State) :
    u.restartBlocks =
      ({ noteLoad u u.grantsRestarted with
          plan := (noteLoad u u.grantsRestarted).plan.decided (noteLoad u u.grantsRestarted).decidePlan } : State).resetFrag := by
  unfold State.restartBlocks State.grantsRestarted
  rfl

/-- The state that a restart comes to before a CONTINUOUS sweep starts. -/
def State.restarted (u : State) : State :=
  ({ u.restartBlocks with
      monitor := u.restartBlocks.restartMonitor, ports := u.restartBlocks.ports.restarted } : State).raise
    u.grantsRestarted.decidePlan.event

theorem State.warmRestart_eq (u : State) :
    u.warmRestart = (u.restarted.sweepIfContinuous, u.grantsRestarted.decidePlan) := by
  unfold State.warmRestart State.restarted State.grantsRestarted
  rfl

@[simp] theorem State.resetFrag_table (s : State) : s.resetFrag.table = s.table := by simp [State.resetFrag]
@[simp] theorem State.resetFrag_pool (s : State) : s.resetFrag.pool = s.pool := by simp [State.resetFrag]
@[simp] theorem State.resetFrag_levels (s : State) : s.resetFrag.levels = s.levels := by simp [State.resetFrag]
@[simp] theorem State.resetFrag_profiles (s : State) : s.resetFrag.profiles = s.profiles := by simp [State.resetFrag]
@[simp] theorem State.resetFrag_plan (s : State) : s.resetFrag.plan = s.plan := by simp [State.resetFrag]
@[simp] theorem State.resetFrag_monitor (s : State) : s.resetFrag.monitor = s.monitor := by simp [State.resetFrag]
@[simp] theorem State.resetFrag_ports (s : State) : s.resetFrag.ports = s.ports := by simp [State.resetFrag]

/-- The grant table, the pool, the levels and the profiles after a restart are those after the clamp's re-evaluation. -/
theorem State.restarted_noteLoad (u : State) :
    u.restarted.table = (noteLoad u u.grantsRestarted).table ∧ u.restarted.pool = (noteLoad u u.grantsRestarted).pool ∧
      u.restarted.levels = (noteLoad u u.grantsRestarted).levels ∧ u.restarted.profiles = u.grantsRestarted.profiles := by
  simp [State.restarted, State.restartBlocks_eq]

theorem State.restarted_plan (u : State) : u.restarted.plan = u.plan.decided u.grantsRestarted.decidePlan := by
  have plan : (noteLoad u u.grantsRestarted).plan = u.grantsRestarted.plan := noteLoad_plan ..
  have decision := (noteLoad_sameButLoads u u.grantsRestarted).decidePlan_eq plan
  simp [State.restarted, State.restartBlocks_eq, decision, u.grantsRestarted_spec.rest.1]

/-- The fragmentation level follows from the grant table, the profiles and the plan. -/
theorem State.fragOf_congr {s t : State} (ht : t.table = s.table) (hf : t.profiles = s.profiles) (hp : t.plan = s.plan)
    (b : Band) : t.fragOf b = s.fragOf b := by
  cases s
  cases t
  cases ht
  cases hf
  cases hp
  rfl

theorem State.resetFrag_frag (s : State) (b : Band) : s.resetFrag.engine.frag.get b = s.fragOf b := by
  have down : (s.setFrag .up (s.fragOf .up)).fragOf .down = s.fragOf .down := State.fragOf_congr rfl rfl rfl .down
  unfold State.resetFrag State.setFrag
  cases b
  · rfl
  · exact down

@[simp] theorem State.resetFrag_asks (s : State) : s.resetFrag.engine.asks = s.engine.asks := rfl

@[simp] theorem State.resetFrag_repack (s : State) : s.resetFrag.engine.repack = s.engine.repack := rfl

theorem State.restarted_engine (u : State) :
    u.restarted.engine.asks = [] ∧ u.restarted.engine.repack = u.engine.repack.restarted := by
  simp [State.restarted, State.restartBlocks_eq, State.grantsRestarted, State.restartEngine]

/-- Both fragmentation levels are those of the spans and the plan that remain (R153). -/
theorem State.restarted_frag (u : State) (b : Band) : u.restarted.engine.frag.get b = u.restarted.fragOf b := by
  have blocks : u.restartBlocks.engine.frag.get b = u.restartBlocks.fragOf b := by
    rw [State.restartBlocks_eq, State.resetFrag_frag]
    exact (State.fragOf_congr (State.resetFrag_table _) (State.resetFrag_profiles _) (State.resetFrag_plan _) b).symm
  rw [State.fragOf_congr (s := u.restartBlocks) (by simp [State.restarted]) (by simp [State.restarted])
    (by simp [State.restarted]), ← blocks]
  simp [State.restarted]

/-- The blocks' restart leaves the monitor to the monitor's own. -/
theorem State.restartBlocks_monitor (u : State) : u.restartBlocks.monitor = u.grantsRestarted.monitor := by
  simp [State.restartBlocks_eq]

/-- A handle names a grant after the blocks' restart when it does once the grants that go are freed. -/
theorem State.restartBlocks_grantOf_isSome (u : State) (h : Handle) :
    (u.restartBlocks.grantOf h).isSome = (u.grantsRestarted.grantOf h).isSome := by
  have same : SameButLoads u.grantsRestarted u.restartBlocks :=
    (noteLoad_sameButLoads u u.grantsRestarted).of_entries (by simp [State.restartBlocks_eq])
  exact same.grantOf_isSome h

theorem State.restartWatch_congr {s t : State} (h : ∀ x, (t.grantOf x).isSome = (s.grantOf x).isSome) (w : Watch) :
    t.restartWatch w = s.restartWatch w := by
  unfold State.restartWatch
  cases w.target with
  | cells b start width => rfl
  | grant x => simp only [h]

/-- A monitor whose watches are changed, at the end of a restart (R181). -/
def Monitor.restarted (m : Monitor) (f : Watch → Watch) : Monitor :=
  { m with
    positions := (m.mapWatches f).positions, halfA := invalidated m.halfA, halfB := invalidated m.halfB, sweep := none
    inFlight := none, hits := 0, fill := .a, periodTimer := m.settings.timer }

theorem State.restartMonitor_eq (s : State) : s.restartMonitor = s.monitor.restarted s.restartWatch := by
  unfold State.restartMonitor Monitor.restarted Monitor.mapWatches
  rfl

theorem Monitor.position_restarted (m : Monitor) (f : Watch → Watch) (n : Fin 32) :
    (m.restarted f).position n = (m.mapWatches f).position n := rfl

theorem Monitor.restarted_rest (m : Monitor) (f : Watch → Watch) :
    m.restarted f =
      { m with
        positions := (m.restarted f).positions, halfA := (m.restarted f).halfA, halfB := (m.restarted f).halfB
        sweep := none, inFlight := none, hits := 0, fill := .a
        periodTimer := if m.settings.mode = .periodic then some m.settings.period else none } := rfl

theorem Monitor.restarted_settings (m : Monitor) (f : Watch → Watch) : (m.restarted f).settings = m.settings := by
  rw [Monitor.restarted]

theorem Monitor.restarted_sweep (m : Monitor) (f : Watch → Watch) : (m.restarted f).sweep = none := by
  rw [Monitor.restarted]

/-- The monitor after a restart, from what it was once the grants that go are freed. -/
theorem State.restarted_monitor_eq (u : State) :
    u.restarted.monitor = u.grantsRestarted.monitor.restarted u.grantsRestarted.restartWatch := by
  have watch : u.restartBlocks.restartWatch = u.grantsRestarted.restartWatch :=
    funext (State.restartWatch_congr u.restartBlocks_grantOf_isSome)
  have monitor : u.restarted.monitor = u.restartBlocks.restartMonitor := by simp [State.restarted]
  rw [monitor, State.restartMonitor_eq, watch, u.restartBlocks_monitor]

theorem State.restarted_monitor (u : State) : MonitorRestarted u.grantsRestarted u.restarted where
  watches n w hw := by
    obtain ⟨keeps, drops⟩ := u.grantsRestarted.restartWatch_spec w
    rw [u.restarted_monitor_eq, Monitor.position_restarted, Monitor.position_mapWatches, hw]
    exact ⟨fun h => congrArg Position.watch (keeps h), fun h => congrArg Position.watch (drops h)⟩
  positions n hn := by
    rw [u.restarted_monitor_eq, Monitor.position_restarted, Monitor.position_mapWatches]
    cases hp : u.grantsRestarted.monitor.position n with
    | watch w => exact absurd hp (hn w)
    | _ => rfl
  halves n := by
    rw [u.restarted_monitor_eq]
    exact ⟨getElem_invalidated _ n, getElem_invalidated _ n⟩
  rest := by
    rw [u.restarted_monitor_eq]
    exact Monitor.restarted_rest ..

theorem State.restarted_ports (u : State) :
    u.restarted.ports = { u.ports.restarted with summary := u.grantsRestarted.decidePlan.event.mask } := by
  have blocks : u.restartBlocks.ports = u.ports := by
    simp [State.restartBlocks_eq, State.grantsRestarted, State.restartEngine]
  rw [State.restarted, blocks]
  simp [State.raise, Ports.restarted]

theorem Event.mask_getLsbD (e e' : Event) : e.mask.getLsbD e'.bit = true ↔ e' = e := by
  cases e <;> cases e' <;> decide

/-- Freed grants leave the monitor's thresholds, settings, tag counter, orders and halves. -/
theorem State.grantsRestarted_monitor (u : State) :
    u.grantsRestarted.monitor.thresholds = u.monitor.thresholds ∧
      u.grantsRestarted.monitor.settings = u.monitor.settings ∧
      u.grantsRestarted.monitor.tagCounter = u.monitor.tagCounter ∧ u.grantsRestarted.monitor.sent = u.monitor.sent ∧
      u.grantsRestarted.monitor.halfA = u.monitor.halfA ∧ u.grantsRestarted.monitor.halfB = u.monitor.halfB := by
  have watches : u.restartEngine.monitor.WatchesOnly u.grantsRestarted.monitor :=
    State.restartEntries_watchesOnly u.restartEngine entryNumbers
  exact watches.fields

theorem PlanStore.decided_eq (p : PlanStore) (d : PlanDecision) :
    p.decided d = { p with active := if d.code = 1 then p.staged.getD p.active else p.active, staged := none } := by
  cases d <;> rfl

theorem Progress.restarted_eq (x : Progress) : x.restarted = if x = .selected then .selected else .nothing := by
  cases x <;> rfl

theorem PortState.restarted_eq (x : PortState) :
    x.restarted =
      { x with
        requests := [], responses := []
        progress := x.progress.map fun y => if y = .selected then .selected else .nothing } := by
  rw [PortState.restarted, funext Progress.restarted_eq]

theorem State.restarted_port (u : State) (p : Port) :
    u.restarted.port p =
      { u.port p with
        requests := [], responses := []
        progress := (u.port p).progress.map fun y => if y = .selected then .selected else .nothing } := by
  rw [← PortState.restarted_eq]
  cases p <;> rw [State.port, u.restarted_ports] <;> rfl

/-- The plan's flag is the only one set (R191). -/
theorem State.restarted_flagged (u : State) (e : Event) :
    u.restarted.flagged e = true ↔
      e = if u.grantsRestarted.decidePlan.code = 2 then .planRejected else .planApplied := by
  have event : ∀ d : PlanDecision, d.event = if d.code = 2 then .planRejected else .planApplied := by
    intro d
    cases d <;> rfl
  rw [State.flagged, u.restarted_ports, Event.mask_getLsbD, event]

end Sys2Proof.Machine

namespace Sys2Proof.Proofs
open Sys2Proof.Machine

/-- Settles O53, block by block: the grants first, then what the monitor, the plan, the move engine and the ports keep. -/
theorem restartKeepsPinnedAndDecidesPlan : Obligations.RestartKeepsPinnedAndDecidesPlan := by
  intro s src f h hp
  dsimp only
  have handled : restart (requestOf src.port f) (s.taken src) =
      ((s.taken src).restarted.sweepIfContinuous, ⟨.done, [byte (s.taken src).grantsRestarted.decidePlan.code]⟩) := by
    rw [restart, managementRequest_pass hp rfl, State.warmRestart_eq, answerDone]
  have done := does_of_handler h rfl handled
  generalize s.taken src = u at done ⊢
  refine ⟨u.grantsRestarted, u.restarted, u.restarted.sweepIfContinuous, u.grantsRestarted.decidePlan.code,
    done, u.decidePlan_grantsRestarted, u.grantsRestarted_spec, u.restarted_noteLoad,
    u.restarted_monitor, ?_⟩
  obtain ⟨thresholds, settings, tagCounter, sent, halfA, halfB⟩ := u.grantsRestarted_monitor
  obtain ⟨asks, repack⟩ := u.restarted_engine
  have sweepSettings : u.restarted.monitor.settings = u.monitor.settings := by
    rw [u.restarted_monitor_eq, Monitor.restarted_settings, settings]
  have noSweep : u.restarted.monitor.sweep = none := by rw [u.restarted_monitor_eq, Monitor.restarted_sweep]
  refine ⟨thresholds, settings, tagCounter, sent, fun n => ⟨by rw [halfA], by rw [halfB]⟩,
    u.restarted_plan.trans (PlanStore.decided_eq ..), asks, u.restarted_frag, repack, u.restarted_port, ?_, ?_, ?_, ?_,
    u.restarted_flagged, fun other => ?_, fun continuous => ?_⟩
  · rw [u.restarted_ports]
    rfl
  · rw [u.restarted_ports]
    rfl
  · rw [u.restarted_ports]
    rfl
  · rw [u.restarted_ports]
    rfl
  · rw [State.sweepIfContinuous, sweepSettings, if_neg fun h => other h.1]
  · rw [State.sweepIfContinuous, sweepSettings, if_pos ⟨continuous, noSweep⟩]
    exact u.restarted.startSweep_started

end Sys2Proof.Proofs
end

section
/-! ## What a step can do to the grant table, the profiles and the plan (R22, R25, R26, R80, R92): records kept -/

namespace Sys2Proof.Machine

/-! ### The law of one grant -/

/-- A move context exactly while MOVING (R22); PINNED only in the states of R80, with neither lease nor hold time. -/
structure Grant.Lawful (g : Grant) : Prop where
  moves : g.state = .moving ↔ g.move.isSome = true
  pins : g.hold = .pinned → g.state.pinnable = true ∧ g.lease = none ∧ g.holdTime = none

/-- Every grant is lawful. -/
def State.GrantsLawful (s : State) : Prop := ∀ i g, s.grant? i = some g → g.Lawful

theorem State.grantsLawful_iff (s : State) : s.GrantsLawful ↔ s.MovesLawful ∧ s.PinsLawful :=
  ⟨fun h => ⟨fun i g hg => (h i g hg).moves, fun i g hg => (h i g hg).pins⟩,
    fun h i g hg => ⟨h.1 i g hg, h.2 i g hg⟩⟩

theorem Grant.Lawful.move_eq_none {g : Grant} (h : g.Lawful) (hs : g.state ≠ .moving) : g.move = none := by
  rw [← Option.not_isSome_iff_eq_none, ← h.moves]
  exact hs

/-- A lawful grant that is PINNED has no move context. -/
theorem Grant.Lawful.pinned_move {g : Grant} (h : g.Lawful) (hp : g.hold = .pinned) : g.move = none := by
  refine h.move_eq_none fun hs => ?_
  have := (h.pins hp).1
  simp [hs, GrantState.pinnable] at this

/-! ### A record that becomes another on the same span -/

/-- What a grant keeps in every event that neither frees it nor gives it a new span: its fixture; a target, if it has one,
is the target it had; and it stays lawful. -/
structure Grant.Keeps (g g' : Grant) : Prop where
  cls : g'.cls = g.cls
  band : g'.band = g.band
  start : g'.start = g.start
  width : g'.width = g.width
  profile : g'.profile = g.profile
  target : ∀ m', g'.move = some m' → ∃ m, g.move = some m ∧ m'.target = m.target
  lawful : g.Lawful → g'.Lawful

theorem Grant.Keeps.trans {g g' g'' : Grant} (h : g.Keeps g') (k : g'.Keeps g'') : g.Keeps g'' where
  cls := k.cls.trans h.cls
  band := k.band.trans h.band
  start := k.start.trans h.start
  width := k.width.trans h.width
  profile := k.profile.trans h.profile
  target m hm := by
    obtain ⟨m', hm', e'⟩ := k.target m hm
    obtain ⟨m'', hm'', e''⟩ := h.target m' hm'
    exact ⟨m'', hm'', e'.trans e''⟩
  lawful hl := k.lawful (h.lawful hl)

/-- A record keeps when what the laws read is as it was. -/
theorem Grant.Keeps.of_same {g g' : Grant}
    (fixture : g'.cls = g.cls ∧ g'.band = g.band ∧ g'.start = g.start ∧ g'.width = g.width ∧ g'.profile = g.profile)
    (life : g'.state = g.state ∧ g'.move = g.move ∧ g'.hold = g.hold ∧ g'.lease = g.lease ∧ g'.holdTime = g.holdTime) :
    g.Keeps g' := by
  obtain ⟨cls, band, start, width, profile⟩ := fixture
  obtain ⟨state, move, hold, lease, holdTime⟩ := life
  refine ⟨cls, band, start, width, profile, fun m hm => ⟨m, move ▸ hm, rfl⟩, fun h => ⟨?_, ?_⟩⟩
  · rw [state, move]
    exact h.moves
  · rw [hold, state, lease, holdTime]
    exact h.pins

theorem Grant.Keeps.refl (g : Grant) : g.Keeps g := .of_same (by simp) (by simp)

/-- A grant that leaves its move, or had none, for a state that a PINNED grant may have: its lease as it was, its hold time
as it was or none while PINNED. -/
theorem Grant.Keeps.of_settled {g g' : Grant}
    (fixture : g'.cls = g.cls ∧ g'.band = g.band ∧ g'.start = g.start ∧ g'.width = g.width ∧ g'.profile = g.profile)
    (pinnable : g'.state.pinnable = true) (move : g.Lawful → g'.move = none)
    (target : ∀ m', g'.move = some m' → ∃ m, g.move = some m ∧ m'.target = m.target)
    (hold : g'.hold = g.hold) (lease : g'.lease = g.lease)
    (holdTime : g.hold = .pinned → g'.holdTime = g.holdTime ∨ g'.holdTime = none) : g.Keeps g' := by
  obtain ⟨cls, band, start, width, profile⟩ := fixture
  refine ⟨cls, band, start, width, profile, target, fun h => ⟨?_, fun hp => ?_⟩⟩
  · rw [move h]
    cases hs : g'.state <;> simp [hs, GrantState.pinnable] at pinnable ⊢
  · rw [hold] at hp
    obtain ⟨-, noLease, noHold⟩ := h.pins hp
    exact ⟨pinnable, lease.trans noLease, (holdTime hp).elim (·.trans noHold) id⟩

/-- A grant that is not PINNED and leaves its move, or had none, for a state without one. -/
theorem Grant.Keeps.of_unpinned {g g' : Grant}
    (fixture : g'.cls = g.cls ∧ g'.band = g.band ∧ g'.start = g.start ∧ g'.width = g.width ∧ g'.profile = g.profile)
    (state : g'.state ≠ .moving) (move : g.Lawful → g'.move = none)
    (target : ∀ m', g'.move = some m' → ∃ m, g.move = some m ∧ m'.target = m.target)
    (hold : g'.hold = g.hold) (unpinned : g.Lawful → g.hold ≠ .pinned) : g.Keeps g' := by
  obtain ⟨cls, band, start, width, profile⟩ := fixture
  refine ⟨cls, band, start, width, profile, target, fun h => ⟨?_, fun hp => ?_⟩⟩
  · rw [move h]
    simp [state]
  · exact absurd (hold ▸ hp) (unpinned h)

/-! ### The grant table, the profiles and the plan kept -/

/-- An entry keeps its generation and tenant, and its grant keeps. -/
structure Entry.Keeps (e e' : Entry) : Prop where
  generation : e'.generation = e.generation
  tenant : e'.tenant = e.tenant
  grant : Option.Rel Grant.Keeps e.grant e'.grant

theorem Entry.Keeps.of_grant {e e' : Entry} (generation : e'.generation = e.generation) (tenant : e'.tenant = e.tenant)
    (grant : e'.grant = e.grant) : e.Keeps e' := by
  refine ⟨generation, tenant, ?_⟩
  rw [grant]
  cases e.grant with
  | none => exact .none
  | some g => exact .some (.refl g)

theorem Entry.Keeps.refl (e : Entry) : e.Keeps e := .of_grant rfl rfl rfl

theorem Entry.Keeps.trans {e e' e'' : Entry} (h : e.Keeps e') (k : e'.Keeps e'') : e.Keeps e'' := by
  refine ⟨k.generation.trans h.generation, k.tenant.trans h.tenant, ?_⟩
  obtain ⟨-, -, hg⟩ := h
  obtain ⟨-, -, kg⟩ := k
  generalize e.grant = a at hg
  generalize e'.grant = b at hg kg
  generalize e''.grant = c at kg
  cases hg with
  | none => exact kg
  | some x =>
    cases kg with
    | some y => exact .some (x.trans y)

/-- Every entry keeps; the occupancy lists, the counts, the profiles and the plan store are as they were. -/
structure TableKept (s t : State) : Prop where
  entries : ∀ i, (s.entry i).Keeps (t.entry i)
  occupancy : t.table.occupancy = s.table.occupancy
  counts : t.table.counts = s.table.counts
  profiles : t.profiles = s.profiles
  plan : t.plan = s.plan

namespace TableKept

variable {s t v : State} {i : Fin 64}

theorem trans (h : TableKept s t) (k : TableKept t v) : TableKept s v where
  entries i := (h.entries i).trans (k.entries i)
  occupancy := k.occupancy.trans h.occupancy
  counts := k.counts.trans h.counts
  profiles := k.profiles.trans h.profiles
  plan := k.plan.trans h.plan

theorem of_entries (entries : t.table.entries = s.table.entries) (occupancy : t.table.occupancy = s.table.occupancy)
    (counts : t.table.counts = s.table.counts) (profiles : t.profiles = s.profiles) (plan : t.plan = s.plan) :
    TableKept s t where
  entries i := by rw [State.entry_congr entries]; exact .refl _
  occupancy := occupancy
  counts := counts
  profiles := profiles
  plan := plan

/-- An operation beside the table. -/
theorem of_table (table : t.table = s.table) (profiles : t.profiles = s.profiles) (plan : t.plan = s.plan) :
    TableKept s t :=
  of_entries (by rw [table]) (by rw [table]) (by rw [table]) profiles plan

theorem refl (s : State) : TableKept s s := of_table rfl rfl rfl

/-- The grant that an entry holds in the end keeps the grant it held. -/
theorem grant (h : TableKept s t) {g' : Grant} (hg : t.grant? i = some g') : ∃ g, s.grant? i = some g ∧ g.Keeps g' := by
  have rel := (h.entries i).grant
  rw [show (t.entry i).grant = some g' from hg] at rel
  cases e : (s.entry i).grant with
  | none => rw [e] at rel; cases rel
  | some g =>
    rw [e] at rel
    cases rel with
    | some k => exact ⟨g, e, k⟩

theorem modGrant {f : Grant → Grant} (h : ∀ g, s.grant? i = some g → g.Keeps (f g)) : TableKept s (s.modGrant i f) where
  entries k := by
    by_cases hk : k = i
    · subst hk
      cases hg : s.grant? k with
      | none => rw [State.modGrant, hg]; exact .refl _
      | some g =>
        rw [State.entry_modGrant_same s hg]
        refine ⟨rfl, rfl, ?_⟩
        rw [show (s.entry k).grant = some g from hg]
        exact .some (h g hg)
    · rw [State.entry_modGrant_ne _ hk]
      exact .refl _
  occupancy := by simp
  counts := by simp
  profiles := by simp
  plan := by simp

theorem setOutcome (s : State) (i : Fin 64) (o : LastOutcome) : TableKept s (s.setOutcome i o) where
  entries k := by
    rw [State.entry_setOutcome]
    exact .of_grant rfl rfl rfl
  occupancy := by simp
  counts := by simp
  profiles := by simp
  plan := by simp

theorem of_sameButLoads (h : SameButLoads s t) (occupancy : t.table.occupancy = s.table.occupancy)
    (counts : t.table.counts = s.table.counts) (profiles : t.profiles = s.profiles) (plan : t.plan = s.plan) :
    TableKept s t where
  entries i := by
    obtain ⟨n, e⟩ := h i
    rw [e]
    refine ⟨rfl, rfl, ?_⟩
    rw [State.grant?]
    cases (s.entry i).grant with
    | none => exact .none
    | some g => exact .some (.of_same ⟨rfl, rfl, rfl, rfl, rfl⟩ ⟨rfl, rfl, rfl, rfl, rfl⟩)
  occupancy := occupancy
  counts := counts
  profiles := profiles
  plan := plan

/-! ### The levels and the clamp -/

theorem recount (s : State) (i : Fin 64) : TableKept s (s.recount i) :=
  modGrant fun g _ => by
    obtain ⟨n, e⟩ := s.levels.recount_eq g
    rw [e]
    exact .of_same ⟨rfl, rfl, rfl, rfl, rfl⟩ ⟨rfl, rfl, rfl, rfl, rfl⟩

/-- A change of levels, groups or trims changes counted loads only. -/
theorem applyLevels (old new : State) : TableKept new (applyLevels old new) := by
  have same : SameButLoads new (Machine.applyLevels old new) := by
    intro i
    have entry : (Machine.applyLevels old new).entry i = relevelEntry old new i := by
      simp [Machine.applyLevels, State.entry]
    obtain ⟨n, e⟩ := relevelEntry_eq old new i
    exact ⟨n, entry.trans e⟩
  exact of_sameButLoads same (by simp only [Machine.applyLevels]) (by simp only [Machine.applyLevels])
    (by simp only [Machine.applyLevels]) (by simp only [Machine.applyLevels])

theorem trackPilot (s : State) : TableKept s s.trackPilot := by
  unfold State.trackPilot
  exact
    of_sameButLoads ((applyLevels_sameButLoads s _).of_entries (by rw [State.setClamped_table, State.setApplied]))
      (by simp) (by simp) (by simp) (by simp)

theorem loadDecreased (s : State) : TableKept s s.loadDecreased := by
  unfold State.loadDecreased
  split
  · exact trackPilot s
  · exact refl s

theorem noteLoad (s t : State) : TableKept t (noteLoad s t) := by
  unfold Machine.noteLoad
  split
  · exact loadDecreased t
  · exact refl t

end TableKept

end Sys2Proof.Machine
end

section
/-! ## What a step can do to the grant table, the profiles and the plan: spans, grants, profiles and plans changed -/

namespace Sys2Proof.Machine

/-! ### The spans of a grant -/

/-- A span of an entry's grant from a start, as it is held (R27). -/
def State.heldFrom (s : State) (i : Fin 64) (g : Grant) (isTarget : Bool) (start : Nat) : Held :=
  { entry := i, isTarget, start, width := g.width, cls := g.cls, edge := (s.profile g.profile).edgeGuard }

/-- The spans that an entry's grant holds: its current span, and its target span while it has a move context (R27). -/
def State.spansOf (s : State) (i : Fin 64) (g : Grant) : List Held :=
  s.heldFrom i g false g.start :: (g.move.map fun m => s.heldFrom i g true m.target).toList

/-- A span is clear of every span that a grant of its band holds (R11, R27). -/
def State.ClearFrom (s : State) (b : Band) (x : Held) (but : Fin 64 → Prop) : Prop :=
  ∀ j g, ¬but j → s.grant? j = some g → g.band = b → ∀ y ∈ s.spansOf j g, Held.Clear s.plan.guards x y

/-- The starts of the spans of a grant. -/
def Grant.starts (g : Grant) : List Nat := g.start :: (g.move.map (·.target)).toList

/-- Every span of a grant lies in a region of a plan that allows its class (R3). -/
def Grant.AllowedBy (g : Grant) (p : Plan) : Prop := ∀ a ∈ g.starts, p.allowsSpan g.band a g.width g.cls = true

/-! ### The kinds of change -/

/-- The grant of an entry has other spans: it begins a move, is moved at once, or has arrived on its target. Its spans are
clear of each other and of every other grant's; each is allowed. -/
structure Respanned (s t : State) (i : Fin 64) (g g' : Grant) : Prop where
  before : s.grant? i = some g
  after : t.grant? i = some g'
  entry : (t.entry i).generation = (s.entry i).generation ∧ (t.entry i).tenant = (s.entry i).tenant
  fixture : g'.cls = g.cls ∧ g'.band = g.band ∧ g'.width = g.width ∧ g'.profile = g.profile
  others : EntriesKept s t [i]
  items : (g'.start = g.start ∧ t.table.occupancy = s.table.occupancy) ∨
    (t.occupancy g.band =
        insertItem { handle := s.handleOf i, start := g'.start, width := g.width } (removeItem i (s.occupancy g.band)) ∧
      ∀ b, b ≠ g.band → t.occupancy b = s.occupancy b)
  counts : t.table.counts = s.table.counts
  profiles : t.profiles = s.profiles
  plan : t.plan = s.plan
  own : s.TableLawful → (s.spansOf i g').Pairwise (Held.Clear s.plan.guards)
  clear : s.TableLawful → ∀ x ∈ s.spansOf i g', s.ClearFrom g.band x (· = i)
  allowed : s.GrantsLawful → s.TableLawful → s.RegionsLawful → g'.AllowedBy s.plan.active
  lawful : g.Lawful → g'.Lawful

/-- A FREE entry has come to hold a grant of a tenant (R38). -/
structure Made (s t : State) (i : Fin 64) (owner : Nat) (g : Grant) : Prop where
  before : s.grant? i = none
  after : t.grant? i = some g
  generation : (t.entry i).generation = (s.entry i).generation
  tenant : (t.entry i).tenant.val = owner
  others : EntriesKept s t [i]
  item : t.occupancy g.band =
    insertItem { handle := s.handleOf i, start := g.start, width := g.width } (s.occupancy g.band)
  otherBand : ∀ b, b ≠ g.band → t.occupancy b = s.occupancy b
  counts : ∀ k : Fin 15, t.table.counts[k] = if owner = k.val + 1 then s.table.counts[k] + 1 else s.table.counts[k]
  references : ∀ k, t.profile k =
    if g.profile = k then { s.profile k with references := (s.profile k).references + 1 } else s.profile k
  plan : t.plan = s.plan
  ready : (s.profile g.profile).state = .ready
  width : s.TableLawful → 1 ≤ g.width
  move : g.move = none
  clear : s.TableLawful → s.ClearFrom g.band (s.heldFrom i g false g.start) fun _ => False
  allowed : s.TableLawful → s.plan.active.allowsSpan g.band g.start g.width g.cls = true
  lawful : g.Lawful

/-- The law of one profile (R90). -/
structure Profile.Lawful (p : Profile) : Prop where
  expansion : p.state ≠ .undefined → 1 ≤ p.expansion
  settling : p.state = .settling ↔ p.settle.isSome = true
  settle : ∀ n, p.settle = some n → 1 ≤ n ∧ n ≤ 10

/-- A profile that becomes another: its references stay, and while it has any it stays READY with its edge guard. -/
structure Profile.Keeps (p p' : Profile) : Prop where
  references : p'.references = p.references
  used : p.references ≠ 0 → p'.edgeGuard = p.edgeGuard ∧ (p.state = .ready → p'.state = .ready)
  lawful : p.Lawful → p'.Lawful

/-- Profiles have changed, and beside them nothing. -/
structure ProfilesEdited (s t : State) : Prop where
  table : t.table = s.table
  plan : t.plan = s.plan
  profile : ∀ k, (s.profile k).Keeps (t.profile k)

/-- The plan store has changed, and beside it nothing: the held spans stay apart by its guard matrix and in its regions. -/
structure PlanEdited (s t : State) : Prop where
  table : t.table = s.table
  profiles : t.profiles = s.profiles
  spans : s.TableLawful → ∀ b, (s.heldSpans b).Pairwise (Held.Clear t.plan.guards)
  regions : s.GrantsLawful → s.TableLawful → s.RegionsLawful → t.RegionsLawful

/-- The changes of which every event is made. -/
inductive TableEdit : State → State → Prop where
  | kept {s t} (h : TableKept s t) : TableEdit s t
  | freed (s i) : TableEdit s (s.freeEntry i)
  | respanned {s t i g g'} (h : Respanned s t i g g') : TableEdit s t
  | made {s t i owner g} (h : Made s t i owner g) : TableEdit s t
  | profiles {s t} (h : ProfilesEdited s t) : TableEdit s t
  | plan {s t} (h : PlanEdited s t) : TableEdit s t
  | coldStart (s) : TableEdit s s.coldStart

/-- One change after another. -/
def TableChain (s t : State) : Prop := Relation.ReflTransGen TableEdit s t

theorem TableChain.refl (s : State) : TableChain s s := Relation.ReflTransGen.refl

theorem TableChain.trans {s t v : State} (h : TableChain s t) (k : TableChain t v) : TableChain s v :=
  Relation.ReflTransGen.trans h k

theorem TableEdit.chain {s t : State} (h : TableEdit s t) : TableChain s t := Relation.ReflTransGen.single h

theorem TableKept.chain {s t : State} (h : TableKept s t) : TableChain s t := (TableEdit.kept h).chain

end Sys2Proof.Machine
end

section
/-! ## Every change keeps the laws of grants, of the table and of regions -/

namespace Sys2Proof.Machine

/-! ### Items that join and leave an occupancy list (R26) -/

theorem insertItem_perm (x : OccItem) (l : List OccItem) : (insertItem x l).Perm (x :: l) := by
  induction l with
  | nil => exact .refl _
  | cons y l ih =>
    rw [insertItem]
    split
    · exact .refl _
    · exact (ih.cons y).trans (.swap x y l)

theorem mem_insertItem_iff (x y : OccItem) (l : List OccItem) : y ∈ insertItem x l ↔ y = x ∨ y ∈ l := by
  rw [(insertItem_perm x l).mem_iff, List.mem_cons]

/-- An item with a start of its own joins at its place in the ascending order. -/
theorem insertItem_ordered {x : OccItem} {l : List OccItem} (h : l.Pairwise fun y z => y.start < z.start)
    (own : ∀ y ∈ l, y.start ≠ x.start) : (insertItem x l).Pairwise fun y z => y.start < z.start := by
  induction l with
  | nil => exact List.pairwise_singleton ..
  | cons y l ih =>
    obtain ⟨below, rest⟩ := List.pairwise_cons.1 h
    have ne := own y (List.mem_cons_self ..)
    rw [insertItem]
    split
    · rename_i lt
      refine List.pairwise_cons.2 ⟨fun z hz => ?_, h⟩
      rcases List.mem_cons.1 hz with rfl | hz
      · exact lt
      · have := below z hz
        omega
    · refine List.pairwise_cons.2 ⟨fun z hz => ?_, ih rest fun z hz => own z (List.mem_cons_of_mem _ hz)⟩
      rcases (mem_insertItem_iff ..).1 hz with rfl | hz
      · omega
      · exact below z hz

theorem mem_removeItem_iff (i : Fin 64) (y : OccItem) (l : List OccItem) :
    y ∈ removeItem i l ↔ y ∈ l ∧ y.handle.entry ≠ i := by
  simp [removeItem]

/-! ### Spans clear of each other (R11) -/

theorem GuardMatrix.entry_comm (m : GuardMatrix) (c c' : Cls) : m.entry c c' = m.entry c' c := by
  cases c <;> cases c' <;> rfl

theorem sharesCell_iff (a w a' w' : Nat) : sharesCell a w a' w' = true ↔ a < a' + w' ∧ a' < a + w := by
  simp [sharesCell]

theorem sharesCell_eq_false_iff (a w a' w' : Nat) : sharesCell a w a' w' = false ↔ a' + w' ≤ a ∨ a + w ≤ a' := by
  rw [← Bool.not_eq_true, sharesCell_iff]
  omega

theorem Held.Clear.symm {m : GuardMatrix} {x y : Held} (h : Held.Clear m x y) : Held.Clear m y x := by
  obtain ⟨apart, gap⟩ := h
  rw [sharesCell_eq_false_iff] at apart
  unfold Held.Clear
  rw [sharesCell_eq_false_iff]
  refine ⟨apart.symm, ?_⟩
  simp only [requiredGap, gapBetween, m.entry_comm y.cls x.cls] at gap ⊢
  split at gap <;> split <;> omega

/-- Clear spans of a width start at different cells. -/
theorem Held.Clear.start_ne {m : GuardMatrix} {x y : Held} (h : Held.Clear m x y) (hx : 1 ≤ x.width)
    (hy : 1 ≤ y.width) : x.start ≠ y.start := by
  have := (sharesCell_eq_false_iff ..).1 h.1
  omega

/-- A span is clear of others by its cells, its class and its edge guard. -/
theorem Held.Clear.congr {m : GuardMatrix} {x x' y y' : Held} (h : Held.Clear m x y)
    (hx : x'.start = x.start ∧ x'.width = x.width ∧ x'.cls = x.cls ∧ x'.edge = x.edge)
    (hy : y'.start = y.start ∧ y'.width = y.width ∧ y'.cls = y.cls ∧ y'.edge = y.edge) : Held.Clear m x' y' := by
  obtain ⟨xs, xw, xc, xe⟩ := hx
  obtain ⟨ys, yw, yc, ye⟩ := hy
  unfold Held.Clear requiredGap at *
  rw [xs, xw, xc, xe, ys, yw, yc, ye]
  exact h

/-! ### The law of the table, grant by grant -/

/-- The item of an entry's grant. -/
def State.ItemAt (s : State) (b : Band) (it : OccItem) : Prop :=
  ∃ g, s.grant? it.handle.entry = some g ∧ g.band = b ∧
    it = { handle := s.handleOf it.handle.entry, start := g.start, width := g.width }

/-- The spans of every grant are clear of each other and of those of every other grant of its band. -/
structure State.Apart (s : State) : Prop where
  own : ∀ i g, s.grant? i = some g → (s.spansOf i g).Pairwise (Held.Clear s.plan.guards)
  clear : ∀ i g, s.grant? i = some g → ∀ x ∈ s.spansOf i g, s.ClearFrom g.band x (· = i)

theorem State.mem_spansOf_iff (s : State) (i : Fin 64) (g : Grant) (x : Held) :
    x ∈ s.spansOf i g ↔
      x = s.heldFrom i g false g.start ∨ ∃ m, g.move = some m ∧ x = s.heldFrom i g true m.target := by
  simp [State.spansOf, eq_comm]

/-- The held spans of an item are the spans of its grant. -/
theorem State.heldOf_item {s : State} {b : Band} {it : OccItem} {g : Grant} (hg : s.grant? it.handle.entry = some g)
    (h : s.ItemAt b it) : heldOf s it = s.spansOf it.handle.entry g := by
  obtain ⟨g', hg', -, e⟩ := h
  obtain rfl : g' = g := by rw [hg] at hg'; exact (Option.some.inj hg').symm
  have start : it.start = g'.start := by rw [e]
  have width : it.width = g'.width := by rw [e]
  simp only [heldOf, hg, State.spansOf, State.heldFrom, start, width]
  cases g'.move <;> rfl

section Lists

variable {s : State} (items : ∀ b it, it ∈ s.occupancy b ↔ s.ItemAt b it)

include items

/-- The item of a grant stands in the list of its band. -/
theorem State.item_mem {i : Fin 64} {g : Grant} (hg : s.grant? i = some g) :
    ({ handle := s.handleOf i, start := g.start, width := g.width } : OccItem) ∈ s.occupancy g.band :=
  (items ..).2 ⟨g, hg, rfl, rfl⟩

theorem State.mem_heldSpans_of_grant {i : Fin 64} {g : Grant} (hg : s.grant? i = some g) {x : Held}
    (hx : x ∈ s.spansOf i g) : x ∈ s.heldSpans g.band := by
  have mem := State.item_mem items hg
  refine List.mem_flatMap.2 ⟨_, mem, ?_⟩
  rw [State.heldOf_item (s := s) (g := g) hg ((items ..).1 mem)]
  exact hx

/-- Held spans apart, grant by grant. -/
theorem State.apart_of_spans (spans : ∀ b, (s.heldSpans b).Pairwise (Held.Clear s.plan.guards)) : s.Apart := by
  refine ⟨fun i g hg => ?_, fun i g hg x hx j g' hj hg' hb y hy => ?_⟩
  · have mem := State.item_mem items hg
    have := (List.pairwise_flatMap.1 (spans g.band)).1 _ mem
    rwa [State.heldOf_item (s := s) (g := g) hg ((items ..).1 mem)] at this
  · have mem := State.item_mem items hg
    have mem' := State.item_mem items hg'
    rw [hb] at mem'
    have pairs := (List.pairwise_flatMap.1 (spans g.band)).2
    have symm : Std.Symm fun a₁ a₂ => ∀ x ∈ heldOf s a₁, ∀ y ∈ heldOf s a₂, Held.Clear s.plan.guards x y :=
      ⟨fun a₁ a₂ h x hx y hy => (h y hy x hx).symm⟩
    refine pairs.forall mem mem' (fun e => hj ?_) x ?_ y ?_
    · exact (congrArg (·.handle.entry) e).symm
    · rw [State.heldOf_item (s := s) (g := g) hg ((items ..).1 mem)]
      exact hx
    · rw [State.heldOf_item (s := s) (g := g') hg' ((items ..).1 mem')]
      exact hy

/-- Grants whose spans are apart hold spans that are apart. -/
theorem State.Apart.spans (h : s.Apart) (ordered : ∀ b, (s.occupancy b).Pairwise fun x y => x.start < y.start)
    (b : Band) : (s.heldSpans b).Pairwise (Held.Clear s.plan.guards) := by
  refine List.pairwise_flatMap.2 ⟨fun it hit => ?_, (ordered b).imp_of_mem fun {x y} hx hy lt a ha c hc => ?_⟩
  · have at_ := (items ..).1 hit
    obtain ⟨g, hg, -, -⟩ := id at_
    rw [State.heldOf_item hg at_]
    exact h.own _ g hg
  · have atx := (items ..).1 hx
    have aty := (items ..).1 hy
    obtain ⟨g, hg, hb, ex⟩ := id atx
    obtain ⟨g', hg', hb', ey⟩ := id aty
    rw [State.heldOf_item hg atx] at ha
    rw [State.heldOf_item hg' aty] at hc
    refine h.clear _ g hg a ha _ g' (fun same => ?_) hg' (hb'.trans hb.symm) c hc
    rw [same, hg] at hg'
    obtain rfl := Option.some.inj hg'
    have : x.start = y.start := by rw [ex, ey]
    omega

end Lists

theorem State.TableLawful.apart {s : State} (h : s.TableLawful) : s.Apart := State.apart_of_spans h.items h.spans

/-- The law of the table reads of each profile what `Profile.Lawful` says. -/
theorem State.TableLawful.profile {s : State} (h : s.TableLawful) (k : Fin 8) : (s.profile k).Lawful :=
  ⟨h.expansions k, h.settling k, h.settle k⟩

end Sys2Proof.Machine
end

section
/-! ## Every change keeps the law of the grant table (R26, R27, R29, R90, R92) -/

namespace Sys2Proof.Machine

/-! ### Books kept -/

/-- The entries hold grants of the same widths and profiles for the same tenants, and counts and profiles are as they
were. -/
structure BooksKept (s t : State) : Prop where
  grants : ∀ i, (t.grant? i).map (fun g => (g.width, g.profile)) = (s.grant? i).map fun g => (g.width, g.profile)
  tenants : ∀ i, (t.entry i).tenant = (s.entry i).tenant
  counts : t.table.counts = s.table.counts
  profiles : t.profiles = s.profiles

theorem BooksKept.grant {s t : State} (h : BooksKept s t) {i : Fin 64} {g' : Grant} (hg : t.grant? i = some g') :
    ∃ g, s.grant? i = some g ∧ g'.width = g.width ∧ g'.profile = g.profile := by
  have e := h.grants i
  rw [hg] at e
  cases hs : s.grant? i with
  | none => simp [hs] at e
  | some g =>
    rw [hs] at e
    obtain ⟨width, profile⟩ := Prod.mk.inj (Option.some.inj e)
    exact ⟨g, rfl, width, profile⟩

/-- With the books kept, the law of the table is that of the items and the spans. -/
theorem State.TableLawful.of_books {s t : State} (h : s.TableLawful) (books : BooksKept s t)
    (items : ∀ b it, it ∈ t.occupancy b ↔ t.ItemAt b it)
    (ordered : ∀ b, (t.occupancy b).Pairwise fun x y => x.start < y.start) (apart : t.Apart) : t.TableLawful := by
  have profile : ∀ k, t.profile k = s.profile k := fun k => by rw [State.profile, books.profiles]; rfl
  have isSome : ∀ i, (t.grant? i).isSome = (s.grant? i).isSome := fun i => by
    have := congrArg Option.isSome (books.grants i)
    simpa using this
  have named : ∀ i k, (t.grant? i).any (fun g => g.profile == k) = (s.grant? i).any fun g => g.profile == k := by
    intro i k
    have := congrArg (Option.any fun x => x.2 == k) (books.grants i)
    simpa [Option.any_map, Function.comp_def] using this
  exact
    { items, ordered
      spans := apart.spans items ordered
      widths := fun i g hg => by
        obtain ⟨g₀, hg₀, width, -⟩ := books.grant hg
        exact width ▸ h.widths i g₀ hg₀
      counts := fun k => by simp only [books.counts, isSome, books.tenants, h.counts k]
      references := fun k => by simp only [profile, named, h.references k]
      ready := fun i g hg => by
        obtain ⟨g₀, hg₀, -, hp⟩ := books.grant hg
        rw [profile, hp]
        exact h.ready i g₀ hg₀
      expansions := fun k => by rw [profile]; exact h.expansions k
      settling := fun k => by rw [profile]; exact h.settling k
      settle := fun k => by rw [profile]; exact h.settle k }

/-! ### Records kept -/

theorem TableKept.books {s t : State} (h : TableKept s t) : BooksKept s t where
  grants i := by
    have rel := (h.entries i).grant
    unfold State.grant?
    generalize (s.entry i).grant = a at rel
    generalize (t.entry i).grant = b at rel
    cases rel with
    | none => rfl
    | some k => simp [k.width, k.profile]
  tenants i := (h.entries i).tenant
  counts := h.counts
  profiles := h.profiles

/-- A span of a record that keeps is a span of the record. -/
theorem TableKept.heldFrom_eq {s t : State} (h : TableKept s t) {g g' : Grant} (k : g.Keeps g') (i : Fin 64) (x : Bool)
    (a : Nat) : t.heldFrom i g' x a = s.heldFrom i g x a := by
  simp only [State.heldFrom, k.width, k.cls, k.profile, State.profile, h.profiles]

theorem TableKept.spansOf_sublist {s t : State} (h : TableKept s t) {g g' : Grant} (k : g.Keeps g') (i : Fin 64) :
    (t.spansOf i g').Sublist (s.spansOf i g) := by
  unfold State.spansOf
  simp only [h.heldFrom_eq k, k.start]
  refine List.Sublist.cons_cons _ ?_
  cases hm' : g'.move with
  | none => exact List.nil_sublist _
  | some m' =>
    obtain ⟨m, hm, e⟩ := k.target m' hm'
    simp [hm, e]

theorem TableKept.itemAt_iff {s t : State} (h : TableKept s t) (b : Band) (it : OccItem) :
    t.ItemAt b it ↔ s.ItemAt b it := by
  have handle : t.handleOf it.handle.entry = s.handleOf it.handle.entry := by
    simp only [State.handleOf, (h.entries _).generation]
  have rel := (h.entries it.handle.entry).grant
  unfold State.ItemAt
  simp only [handle, State.grant?]
  generalize (s.entry it.handle.entry).grant = a at rel
  generalize (t.entry it.handle.entry).grant = b at rel
  cases rel with
  | none => rfl
  | some k => simp [k.band, k.start, k.width]

theorem TableKept.apart {s t : State} (h : TableKept s t) (apart : s.Apart) : t.Apart where
  own i g' hg' := by
    obtain ⟨g, hg, k⟩ := h.grant hg'
    rw [h.plan]
    exact (apart.own i g hg).sublist (h.spansOf_sublist k i)
  clear i g' hg' x hx j g₂' hj hg₂' hb y hy := by
    obtain ⟨g, hg, k⟩ := h.grant hg'
    obtain ⟨g₂, hg₂, k₂⟩ := h.grant hg₂'
    rw [h.plan]
    exact apart.clear i g hg x ((h.spansOf_sublist k i).subset hx) j g₂ hj hg₂ (by rw [← k₂.band, hb, k.band]) y
      ((h.spansOf_sublist k₂ j).subset hy)

theorem TableKept.tableLawful {s t : State} (h : TableKept s t) (law : s.TableLawful) : t.TableLawful := by
  have occupancy : ∀ b, t.occupancy b = s.occupancy b := fun b => by rw [State.occupancy, h.occupancy]; rfl
  refine law.of_books h.books (fun b it => ?_) (fun b => ?_) (h.apart law.apart)
  · rw [occupancy, h.itemAt_iff]
    exact law.items b it
  · rw [occupancy]
    exact law.ordered b

/-! ### A grant on other spans -/

section Respanned

variable {s t : State} {i : Fin 64} {g g' : Grant} (h : Respanned s t i g g')

include h

theorem Respanned.entry_ne {k : Fin 64} (hk : k ≠ i) : t.entry k = s.entry k := h.others k (by simpa using hk)

theorem Respanned.grant_ne {k : Fin 64} (hk : k ≠ i) : t.grant? k = s.grant? k := by
  rw [State.grant?, h.entry_ne hk]
  rfl

theorem Respanned.profile_eq (k : Fin 8) : t.profile k = s.profile k := by
  rw [State.profile, h.profiles]
  rfl

theorem Respanned.spansOf_eq (k : Fin 64) (x : Grant) : t.spansOf k x = s.spansOf k x := by
  simp only [State.spansOf, State.heldFrom, h.profile_eq]

theorem Respanned.books : BooksKept s t where
  grants k := by
    by_cases hk : k = i
    · subst hk
      obtain ⟨-, -, width, profile⟩ := h.fixture
      rw [h.after, h.before]
      simp [width, profile]
    · rw [h.grant_ne hk]
  tenants k := by
    by_cases hk : k = i
    · subst hk
      exact h.entry.2
    · rw [h.entry_ne hk]
  counts := h.counts
  profiles := h.profiles

theorem Respanned.apart (law : s.TableLawful) : t.Apart := by
  obtain ⟨-, band, -, -⟩ := h.fixture
  have own := law.apart
  refine ⟨fun k x hx => ?_, fun k x hx a ha j y hj hy hb c hc => ?_⟩
  · rw [h.plan, h.spansOf_eq]
    by_cases hk : k = i
    · subst hk
      obtain rfl : g' = x := by rw [h.after] at hx; exact Option.some.inj hx
      exact h.own law
    · rw [h.grant_ne hk] at hx
      exact own.own k x hx
  · rw [h.plan]
    rw [h.spansOf_eq] at ha hc
    by_cases hk : k = i
    · subst hk
      obtain rfl : g' = x := by rw [h.after] at hx; exact Option.some.inj hx
      rw [h.grant_ne hj] at hy
      exact h.clear law a ha j y hj hy (hb.trans band) c hc
    · rw [h.grant_ne hk] at hx
      by_cases hji : j = i
      · subst hji
        obtain rfl : g' = y := by rw [h.after] at hy; exact Option.some.inj hy
        exact (h.clear law c hc k x hk hx (by rw [← hb, band]) a ha).symm
      · rw [h.grant_ne hji] at hy
        exact own.clear k x hx a ha j y hj hy hb c hc

/-- The items of a list after the change: those of other entries stay, and the grant's own is that of its new record. -/
theorem Respanned.itemAt_iff (b : Band) (it : OccItem) :
    t.ItemAt b it ↔
      (it.handle.entry ≠ i ∧ s.ItemAt b it) ∨
        (b = g.band ∧ it = { handle := s.handleOf i, start := g'.start, width := g.width }) := by
  obtain ⟨-, band, width, -⟩ := h.fixture
  by_cases hk : it.handle.entry = i
  · have handle : t.handleOf i = s.handleOf i := by simp only [State.handleOf, h.entry.1]
    unfold State.ItemAt
    rw [hk, h.after, handle]
    simp only [Option.some.injEq, ne_eq, not_true_eq_false, false_and, false_or]
    constructor
    · rintro ⟨x, rfl, hb, e⟩
      exact ⟨by rw [← hb, band], by rw [e, width]⟩
    · rintro ⟨hb, e⟩
      exact ⟨g', rfl, by rw [band, hb], by rw [e, width]⟩
  · have other : it ≠ { handle := s.handleOf i, start := g'.start, width := g.width } := fun e => hk (by rw [e]; rfl)
    unfold State.ItemAt State.handleOf
    rw [h.grant_ne hk, h.entry_ne hk]
    refine ⟨fun at_ => .inl ⟨hk, at_⟩, ?_⟩
    rintro (⟨-, at_⟩ | ⟨-, e⟩)
    · exact at_
    · exact absurd e other

theorem Respanned.items_iff (law : s.TableLawful) (b : Band) (it : OccItem) : it ∈ t.occupancy b ↔ t.ItemAt b it := by
  have own : s.ItemAt g.band { handle := s.handleOf i, start := g.start, width := g.width } :=
    ⟨g, h.before, rfl, rfl⟩
  have unique : ∀ {b it}, s.ItemAt b it → it.handle.entry = i →
      b = g.band ∧ it = { handle := s.handleOf i, start := g.start, width := g.width } := by
    rintro b it ⟨x, hx, hb, e⟩ hi
    rw [hi, h.before] at hx
    obtain rfl := Option.some.inj hx
    exact ⟨hb.symm, by rw [e, hi]⟩
  rw [h.itemAt_iff]
  rcases h.items with ⟨start, same⟩ | ⟨item, otherBand⟩
  · rw [State.occupancy, same, start]
    refine (law.items b it).trans ⟨fun at_ => ?_, ?_⟩
    · by_cases hi : it.handle.entry = i
      · exact .inr (unique at_ hi)
      · exact .inl ⟨hi, at_⟩
    · rintro (⟨-, at_⟩ | ⟨rfl, rfl⟩)
      · exact at_
      · exact own
  · by_cases hb : b = g.band
    · subst hb
      have lawful : it ∈ s.occupancy g.band ↔ s.ItemAt g.band it := law.items ..
      rw [item, mem_insertItem_iff, mem_removeItem_iff, lawful]
      simp only [true_and, and_comm, or_comm]
    · rw [otherBand b hb, law.items]
      refine ⟨fun at_ => .inl ⟨fun hi => hb (unique at_ hi).1, at_⟩, ?_⟩
      rintro (⟨-, at_⟩ | ⟨e, -⟩)
      · exact at_
      · exact absurd e hb

theorem Respanned.ordered (law : s.TableLawful) (b : Band) : (t.occupancy b).Pairwise fun x y => x.start < y.start := by
  obtain ⟨-, band, width, -⟩ := h.fixture
  rcases h.items with ⟨-, same⟩ | ⟨item, otherBand⟩
  · rw [State.occupancy, same]
    exact law.ordered b
  · by_cases hb : b = g.band
    · subst hb
      rw [item]
      refine insertItem_ordered ((law.ordered _).filter _) fun y hy => ?_
      obtain ⟨hy, hi⟩ := (mem_removeItem_iff ..).1 hy
      obtain ⟨x, hx, hxb, e⟩ := (law.items ..).1 hy
      have clear := h.clear law _ (List.mem_cons_self ..) _ x hi hx hxb _ (List.mem_cons_self ..)
      have w : 1 ≤ g.width := law.widths i g h.before
      rw [e]
      exact (clear.start_ne (by rw [State.heldFrom, width]; exact w) (law.widths _ x hx)).symm
    · rw [otherBand b hb]
      exact law.ordered b

theorem Respanned.tableLawful (law : s.TableLawful) : t.TableLawful :=
  law.of_books h.books (h.items_iff law) (h.ordered law) (h.apart law)

end Respanned

/-! ### Counts of entries -/

/-- A count of entries under a test that changes at one entry only. -/
theorem countP_entryNumbers_changed {p q : Fin 64 → Bool} {i : Fin 64} (h : ∀ k, k ≠ i → q k = p k) :
    entryNumbers.countP q + (p i).toNat = entryNumbers.countP p + (q i).toNat := by
  obtain ⟨before, after, split⟩ := List.append_of_mem (mem_entryNumbers i)
  have nodup := nodup_entryNumbers
  rw [split, List.nodup_append, List.nodup_cons] at nodup
  obtain ⟨-, ⟨later, -⟩, earlier⟩ := nodup
  have rest : ∀ l : List (Fin 64), i ∉ l → l.countP q = l.countP p := fun l hl =>
    List.countP_congr fun k hk => by rw [h k fun e => hl (e ▸ hk)]
  rw [split, List.countP_append, List.countP_append, List.countP_cons, List.countP_cons, rest after later,
    rest before fun hi => earlier i hi i (List.mem_cons_self ..) rfl]
  cases p i <;> cases q i <;> simp <;> omega

/-! ### An entry freed -/

section Freed

variable {s : State} {i : Fin 64} {g : Grant} (hg : s.grant? i = some g)

theorem State.entry_freeEntry_ne (s : State) {i k : Fin 64} (hk : k ≠ i) : (s.freeEntry i).entry k = s.entry k :=
  EntriesKept.freeEntry s i k (by simpa using hk)

theorem State.grant_freeEntry_ne (s : State) {i k : Fin 64} (hk : k ≠ i) : (s.freeEntry i).grant? k = s.grant? k := by
  rw [State.grant?, State.entry_freeEntry_ne s hk]
  rfl

include hg

theorem State.grant_freeEntry_same : (s.freeEntry i).grant? i = none := by
  rw [State.grant?, State.entry_freeEntry_same s hg]

theorem State.grant_freeEntry_some {k : Fin 64} {x : Grant} (hx : (s.freeEntry i).grant? k = some x) :
    k ≠ i ∧ s.grant? k = some x := by
  by_cases hk : k = i
  · subst hk
    rw [State.grant_freeEntry_same hg] at hx
    cases hx
  · exact ⟨hk, by rwa [State.grant_freeEntry_ne s hk] at hx⟩

theorem State.spansOf_freeEntry (k : Fin 64) (x : Grant) : (s.freeEntry i).spansOf k x = s.spansOf k x := by
  have edge : ∀ j, ((s.freeEntry i).profile j).edgeGuard = (s.profile j).edgeGuard := fun j => by
    rw [State.profile_freeEntry hg]
    split <;> rfl
  simp only [State.spansOf, State.heldFrom, edge]

theorem State.itemAt_freeEntry_iff (b : Band) (it : OccItem) :
    (s.freeEntry i).ItemAt b it ↔ s.ItemAt b it ∧ it.handle.entry ≠ i := by
  unfold State.ItemAt State.handleOf
  by_cases hk : it.handle.entry = i
  · rw [hk, State.grant_freeEntry_same hg]
    simp
  · rw [State.grant_freeEntry_ne s hk, State.entry_freeEntry_ne s hk]
    simp [hk]

theorem State.TableLawful.freeEntry_of_grant (law : s.TableLawful) : (s.freeEntry i).TableLawful := by
  have items : ∀ b it, it ∈ (s.freeEntry i).occupancy b ↔ (s.freeEntry i).ItemAt b it := by
    intro b it
    rw [State.itemAt_freeEntry_iff hg, State.occupancy_freeEntry hg]
    split
    · rw [mem_removeItem_iff]
      exact and_congr_left fun _ => law.items b it
    · rename_i hb
      rw [law.items b it]
      refine ⟨fun at_ => ⟨at_, fun hi => ?_⟩, And.left⟩
      obtain ⟨x, hx, hxb, -⟩ := at_
      rw [hi, hg] at hx
      exact hb (Option.some.inj hx ▸ hxb)
  have ordered : ∀ b, ((s.freeEntry i).occupancy b).Pairwise fun x y => x.start < y.start := by
    intro b
    rw [State.occupancy_freeEntry hg]
    split
    · exact (law.ordered b).filter _
    · exact law.ordered b
  have apart : (s.freeEntry i).Apart := by
    refine ⟨fun k x hx => ?_, fun k x hx a ha j y hj hy hb c hc => ?_⟩
    · rw [State.spansOf_freeEntry hg, State.freeEntry_plan]
      exact law.apart.own k x (State.grant_freeEntry_some hg hx).2
    · rw [State.spansOf_freeEntry hg] at ha hc
      rw [State.freeEntry_plan]
      exact law.apart.clear k x (State.grant_freeEntry_some hg hx).2 a ha j y hj (State.grant_freeEntry_some hg hy).2 hb
        c hc
  have keeps : ∀ k, ((s.freeEntry i).profile k) = { s.profile k with references := ((s.freeEntry i).profile k).references } :=
    fun k => by
      rw [State.profile_freeEntry hg]
      split <;> rfl
  refine
    { items, ordered
      spans := apart.spans items ordered
      widths := fun k x hx => law.widths k x (State.grant_freeEntry_some hg hx).2
      counts := fun k => ?_
      references := fun k => ?_
      ready := fun k x hx => ?_
      expansions := fun k => by rw [keeps]; exact law.expansions k
      settling := fun k => by rw [keeps]; exact law.settling k
      settle := fun k => by rw [keeps]; exact law.settle k }
  · have changed := countP_entryNumbers_changed (i := i)
      (p := fun j => (s.grant? j).isSome && decide ((s.entry j).tenant.val = k.val + 1))
      (q := fun j => ((s.freeEntry i).grant? j).isSome && decide (((s.freeEntry i).entry j).tenant.val = k.val + 1))
      fun j hj => by rw [State.grant_freeEntry_ne s hj, State.entry_freeEntry_ne s hj]
    rw [State.counts_freeEntry hg, law.counts k]
    simp only [hg, State.grant_freeEntry_same hg, Option.isSome_some, Option.isSome_none, Bool.true_and,
      Bool.false_and, Bool.toNat_false] at changed
    split
    · rename_i ht
      simp only [ht, decide_true, Bool.toNat_true] at changed
      omega
    · rename_i ht
      simp only [ht, decide_false, Bool.toNat_false] at changed
      omega
  · have changed := countP_entryNumbers_changed (i := i)
      (p := fun j => (s.grant? j).any fun x => x.profile == k)
      (q := fun j => ((s.freeEntry i).grant? j).any fun x => x.profile == k)
      fun j hj => by rw [State.grant_freeEntry_ne s hj]
    rw [State.profile_freeEntry hg]
    have lawful := law.references k
    simp only [hg, State.grant_freeEntry_same hg, Option.any_some, Option.any_none, Bool.toNat_false] at changed
    split
    · rename_i hk
      simp only [hk, beq_self_eq_true, Bool.toNat_true] at changed
      dsimp only
      omega
    · rename_i hk
      simp only [beq_eq_false_iff_ne.2 hk, Bool.toNat_false] at changed
      omega
  · rw [keeps]
    exact law.ready k x (State.grant_freeEntry_some hg hx).2

end Freed

theorem State.freeEntry_none {s : State} {i : Fin 64} (h : s.grant? i = none) : s.freeEntry i = s := by
  rw [State.freeEntry, h]

theorem State.TableLawful.freeEntry {s : State} (law : s.TableLawful) (i : Fin 64) : (s.freeEntry i).TableLawful := by
  cases hg : s.grant? i with
  | none => rw [State.freeEntry_none hg]; exact law
  | some g => exact law.freeEntry_of_grant hg

end Sys2Proof.Machine
end

section
/-! ## Every change keeps the laws: grants made, profiles and plans changed (R2, R3, R22, R38, R80, R90) -/

namespace Sys2Proof.Machine

/-! ### A grant made -/

section Made

variable {s t : State} {i : Fin 64} {n : Nat} {g : Grant} (h : Made s t i n g)

include h

theorem Made.entry_ne {k : Fin 64} (hk : k ≠ i) : t.entry k = s.entry k := h.others k (by simpa using hk)

theorem Made.grant_ne {k : Fin 64} (hk : k ≠ i) : t.grant? k = s.grant? k := by
  rw [State.grant?, h.entry_ne hk]
  rfl

/-- A grant of the table is the one made or one that was there. -/
theorem Made.grant_cases {k : Fin 64} {x : Grant} (hx : t.grant? k = some x) :
    (k = i ∧ x = g) ∨ (k ≠ i ∧ s.grant? k = some x) := by
  by_cases hk : k = i
  · subst hk
    rw [h.after] at hx
    exact .inl ⟨rfl, (Option.some.inj hx).symm⟩
  · rw [h.grant_ne hk] at hx
    exact .inr ⟨hk, hx⟩

theorem Made.spansOf_eq (k : Fin 64) (x : Grant) : t.spansOf k x = s.spansOf k x := by
  have edge : ∀ j, (t.profile j).edgeGuard = (s.profile j).edgeGuard := fun j => by
    rw [h.references]
    split <;> rfl
  simp only [State.spansOf, State.heldFrom, edge]

theorem Made.spansOf_own : s.spansOf i g = [s.heldFrom i g false g.start] := by
  rw [State.spansOf, h.move]
  rfl

theorem Made.itemAt_iff (b : Band) (it : OccItem) :
    t.ItemAt b it ↔
      s.ItemAt b it ∨ (b = g.band ∧ it = { handle := s.handleOf i, start := g.start, width := g.width }) := by
  by_cases hk : it.handle.entry = i
  · have handle : t.handleOf i = s.handleOf i := by simp only [State.handleOf, h.generation]
    unfold State.ItemAt
    rw [hk, h.after, h.before, handle]
    simp [eq_comm]
  · have other : it ≠ { handle := s.handleOf i, start := g.start, width := g.width } := fun e => hk (by rw [e]; rfl)
    unfold State.ItemAt State.handleOf
    rw [h.grant_ne hk, h.entry_ne hk]
    refine ⟨.inl, ?_⟩
    rintro (at_ | ⟨-, e⟩)
    · exact at_
    · exact absurd e other

theorem Made.items_iff (law : s.TableLawful) (b : Band) (it : OccItem) : it ∈ t.occupancy b ↔ t.ItemAt b it := by
  have lawful : it ∈ s.occupancy b ↔ s.ItemAt b it := law.items ..
  rw [h.itemAt_iff, ← lawful]
  by_cases hb : b = g.band
  · subst hb
    rw [h.item, mem_insertItem_iff]
    simp only [true_and, or_comm]
  · rw [h.otherBand b hb]
    simp [hb]

theorem Made.ordered (law : s.TableLawful) (b : Band) : (t.occupancy b).Pairwise fun x y => x.start < y.start := by
  by_cases hb : b = g.band
  · subst hb
    rw [h.item]
    refine insertItem_ordered (law.ordered _) fun y hy => ?_
    obtain ⟨x, hx, hxb, e⟩ := (law.items ..).1 hy
    have clear := h.clear law _ x not_false hx hxb _ (List.mem_cons_self ..)
    rw [e]
    exact (clear.start_ne (h.width law) (law.widths _ x hx)).symm
  · rw [h.otherBand b hb]
    exact law.ordered b

theorem Made.apart (law : s.TableLawful) : t.Apart := by
  refine ⟨fun k x hx => ?_, fun k x hx a ha j y hj hy hb c hc => ?_⟩
  · rw [h.spansOf_eq, h.plan]
    obtain ⟨rfl, rfl⟩ | ⟨-, hx⟩ := h.grant_cases hx
    · rw [h.spansOf_own]
      exact List.pairwise_singleton ..
    · exact law.apart.own k x hx
  · rw [h.spansOf_eq] at ha hc
    rw [h.plan]
    obtain ⟨rfl, rfl⟩ | ⟨-, hx⟩ := h.grant_cases hx
    · obtain ⟨rfl, -⟩ | ⟨-, hy⟩ := h.grant_cases hy
      · exact absurd rfl hj
      · rw [h.spansOf_own, List.mem_singleton] at ha
        subst ha
        exact h.clear law j y not_false hy hb c hc
    · obtain ⟨rfl, rfl⟩ | ⟨-, hy⟩ := h.grant_cases hy
      · rw [h.spansOf_own, List.mem_singleton] at hc
        subst hc
        exact (h.clear law k x not_false hx hb.symm a ha).symm
      · exact law.apart.clear k x hx a ha j y hj hy hb c hc

theorem Made.tableLawful (law : s.TableLawful) : t.TableLawful := by
  have keeps : ∀ k, t.profile k = { s.profile k with references := (t.profile k).references } := fun k => by
    rw [h.references]
    split <;> rfl
  have items : ∀ b it, it ∈ t.occupancy b ↔ t.ItemAt b it := h.items_iff law
  refine
    { items
      ordered := h.ordered law
      spans := (h.apart law).spans items (h.ordered law)
      widths := fun k x hx => ?_
      counts := fun k => ?_
      references := fun k => ?_
      ready := fun k x hx => ?_
      expansions := fun k => by rw [keeps]; exact law.expansions k
      settling := fun k => by rw [keeps]; exact law.settling k
      settle := fun k => by rw [keeps]; exact law.settle k }
  · obtain ⟨-, rfl⟩ | ⟨-, hx⟩ := h.grant_cases hx
    · exact h.width law
    · exact law.widths k x hx
  · have changed := countP_entryNumbers_changed (i := i)
      (p := fun j => (s.grant? j).isSome && decide ((s.entry j).tenant.val = k.val + 1))
      (q := fun j => (t.grant? j).isSome && decide ((t.entry j).tenant.val = k.val + 1))
      fun j hj => by rw [h.grant_ne hj, h.entry_ne hj]
    rw [h.counts, law.counts k]
    simp only [h.before, h.after, h.tenant, Option.isSome_some, Option.isSome_none, Bool.true_and, Bool.false_and,
      Bool.toNat_false] at changed
    split
    · rename_i ht
      simp only [ht, decide_true, Bool.toNat_true] at changed
      omega
    · rename_i ht
      simp only [ht, decide_false, Bool.toNat_false] at changed
      omega
  · have changed := countP_entryNumbers_changed (i := i)
      (p := fun j => (s.grant? j).any fun x => x.profile == k)
      (q := fun j => (t.grant? j).any fun x => x.profile == k)
      fun j hj => by rw [h.grant_ne hj]
    rw [h.references]
    have lawful := law.references k
    simp only [h.before, h.after, Option.any_some, Option.any_none, Bool.toNat_false] at changed
    split
    · rename_i hk
      simp only [hk, beq_self_eq_true, Bool.toNat_true] at changed
      dsimp only
      omega
    · rename_i hk
      simp only [beq_eq_false_iff_ne.2 hk, Bool.toNat_false] at changed
      omega
  · rw [keeps]
    obtain ⟨-, rfl⟩ | ⟨-, hx⟩ := h.grant_cases hx
    · exact h.ready
    · exact law.ready k x hx

end Made

/-! ### Profiles, and the plan store -/

theorem ProfilesEdited.tableLawful {s t : State} (h : ProfilesEdited s t) (law : s.TableLawful) : t.TableLawful := by
  have grant : ∀ i, t.grant? i = s.grant? i := fun i => State.grant_congr (by rw [h.table]) i
  have entry : ∀ i, t.entry i = s.entry i := fun i => State.entry_congr (by rw [h.table]) i
  have occupancy : ∀ b, t.occupancy b = s.occupancy b := fun b => by rw [State.occupancy, h.table]; rfl
  have used : ∀ i g, s.grant? i = some g → (s.profile g.profile).references ≠ 0 := fun i g hg => by
    rw [law.references, ← Nat.pos_iff_ne_zero, List.countP_pos_iff]
    exact ⟨i, mem_entryNumbers i, by simp [hg]⟩
  have spansOf : ∀ i g, s.grant? i = some g → t.spansOf i g = s.spansOf i g := fun i g hg => by
    simp only [State.spansOf, State.heldFrom, ((h.profile g.profile).used (used i g hg)).1]
  have lawful : ∀ k, (t.profile k).Lawful := fun k => (h.profile k).lawful (law.profile k)
  have apart : t.Apart := by
    refine ⟨fun i g hg => ?_, fun i g hg x hx j g' hj hg' hb y hy => ?_⟩
    · rw [grant] at hg
      rw [spansOf i g hg, h.plan]
      exact law.apart.own i g hg
    · rw [grant] at hg hg'
      rw [spansOf i g hg] at hx
      rw [spansOf j g' hg'] at hy
      rw [h.plan]
      exact law.apart.clear i g hg x hx j g' hj hg' hb y hy
  have items : ∀ b it, it ∈ t.occupancy b ↔ t.ItemAt b it := fun b it => by
    unfold State.ItemAt State.handleOf
    simp only [grant, entry, occupancy]
    exact law.items b it
  have ordered : ∀ b, (t.occupancy b).Pairwise fun x y => x.start < y.start := fun b => by
    rw [occupancy]
    exact law.ordered b
  exact
    { items, ordered
      spans := apart.spans items ordered
      widths := fun i g hg => law.widths i g (grant i ▸ hg)
      counts := fun k => by simp only [grant, entry, h.table, law.counts k]
      references := fun k => by simp only [grant, (h.profile k).references, law.references k]
      ready := fun i g hg => by
        rw [grant] at hg
        exact ((h.profile g.profile).used (used i g hg)).2 (law.ready i g hg)
      expansions := fun k => (lawful k).expansion
      settling := fun k => (lawful k).settling
      settle := fun k => (lawful k).settle }

theorem PlanEdited.tableLawful {s t : State} (h : PlanEdited s t) (law : s.TableLawful) : t.TableLawful := by
  have grant : ∀ i, t.grant? i = s.grant? i := fun i => State.grant_congr (by rw [h.table]) i
  have entry : ∀ i, t.entry i = s.entry i := fun i => State.entry_congr (by rw [h.table]) i
  have profile : ∀ k, t.profile k = s.profile k := fun k => by rw [State.profile, h.profiles]; rfl
  have occupancy : ∀ b, t.occupancy b = s.occupancy b := fun b => by rw [State.occupancy, h.table]; rfl
  have held : ∀ b, t.heldSpans b = s.heldSpans b := fun b => by
    unfold State.heldSpans heldOf
    simp only [grant, profile, occupancy]
  exact
    { items := fun b it => by simp only [grant, entry, occupancy, State.handleOf]; exact law.items b it
      ordered := fun b => by rw [occupancy]; exact law.ordered b
      spans := fun b => by rw [held]; exact h.spans law b
      widths := fun i g hg => law.widths i g (grant i ▸ hg)
      counts := fun k => by simp only [grant, entry, h.table, law.counts k]
      references := fun k => by simp only [grant, profile, law.references k]
      ready := fun i g hg => by rw [profile]; exact law.ready i g (grant i ▸ hg)
      expansions := fun k => by rw [profile]; exact law.expansions k
      settling := fun k => by rw [profile]; exact law.settling k
      settle := fun k => by rw [profile]; exact law.settle k }

/-! ### The release of RESET_N -/

theorem State.grant_coldStart (s : State) (i : Fin 64) : s.coldStart.grant? i = none := State.grant_reset i

theorem State.coldStart_tableLawful (s : State) : s.coldStart.TableLawful :=
  { State.tableLawful_reset with }

/-! ### The law of the table, and that of grants, through any chain of changes -/

theorem TableEdit.tableLawful {s t : State} (h : TableEdit s t) (law : s.TableLawful) : t.TableLawful := by
  cases h with
  | kept h => exact h.tableLawful law
  | freed i => exact law.freeEntry i
  | respanned h => exact h.tableLawful law
  | made h => exact h.tableLawful law
  | profiles h => exact h.tableLawful law
  | plan h => exact h.tableLawful law
  | coldStart => exact s.coldStart_tableLawful

theorem TableEdit.grantsLawful {s t : State} (h : TableEdit s t) (law : s.GrantsLawful) : t.GrantsLawful := by
  intro k x hx
  cases h with
  | kept h =>
    obtain ⟨g, hg, keeps⟩ := h.grant hx
    exact keeps.lawful (law k g hg)
  | freed i =>
    cases hg : s.grant? i with
    | none =>
      rw [State.freeEntry_none hg] at hx
      exact law k x hx
    | some g => exact law k x (State.grant_freeEntry_some hg hx).2
  | @respanned _ i g g' h =>
    by_cases hk : k = i
    · subst hk
      rw [h.after] at hx
      obtain rfl := Option.some.inj hx
      exact h.lawful (law k g h.before)
    · rw [h.grant_ne hk] at hx
      exact law k x hx
  | made h =>
    obtain ⟨-, rfl⟩ | ⟨-, hx⟩ := h.grant_cases hx
    · exact h.lawful
    · exact law k x hx
  | profiles h => exact law k x (by rw [← hx]; exact (State.grant_congr (by rw [h.table]) k).symm)
  | plan h => exact law k x (by rw [← hx]; exact (State.grant_congr (by rw [h.table]) k).symm)
  | coldStart =>
    rw [State.grant_coldStart] at hx
    cases hx

theorem TableChain.tableLawful {s t : State} (h : TableChain s t) (law : s.TableLawful) : t.TableLawful := by
  induction h with
  | refl => exact law
  | tail _ edit ih => exact edit.tableLawful ih

theorem TableChain.grantsLawful {s t : State} (h : TableChain s t) (law : s.GrantsLawful) : t.GrantsLawful := by
  induction h with
  | refl => exact law
  | tail _ edit ih => exact edit.grantsLawful ih

/-! ### The law of regions -/

theorem State.RegionsLawful.allowed {s : State} (h : s.RegionsLawful) {i : Fin 64} {g : Grant}
    (hg : s.grant? i = some g) : g.AllowedBy s.plan.active := by
  intro a ha
  rcases List.mem_cons.1 ha with rfl | ha
  · exact h.current i g hg
  · obtain ⟨m, hm, rfl⟩ : ∃ m, g.move = some m ∧ m.target = a := by simpa using ha
    exact h.target i g m hg hm

/-- With the plan store as it was, the law of regions is that every grant's spans are allowed. -/
theorem State.RegionsLawful.of_allowed {s t : State} (h : s.RegionsLawful) (plan : t.plan = s.plan)
    (allowed : ∀ i g, t.grant? i = some g → g.AllowedBy s.plan.active) : t.RegionsLawful where
  active := by rw [plan]; exact h.active
  staged := by rw [plan]; exact h.staged
  current i g hg := by
    rw [plan]
    exact allowed i g hg _ (List.mem_cons_self ..)
  target i g m hg hm := by
    rw [plan]
    exact allowed i g hg _ (by simp [Grant.starts, hm])

theorem Grant.Keeps.allowedBy {g g' : Grant} (h : g.Keeps g') {p : Plan} (allowed : g.AllowedBy p) : g'.AllowedBy p := by
  intro a ha
  rw [h.band, h.width, h.cls]
  apply allowed
  rcases List.mem_cons.1 ha with rfl | ha
  · rw [h.start]
    exact List.mem_cons_self ..
  · obtain ⟨m', hm', rfl⟩ : ∃ m, g'.move = some m ∧ m.target = a := by simpa using ha
    obtain ⟨m, hm, e⟩ := h.target m' hm'
    simp [Grant.starts, hm, e]

theorem TableEdit.regionsLawful {s t : State} (h : TableEdit s t) (grants : s.GrantsLawful) (table : s.TableLawful)
    (law : s.RegionsLawful) : t.RegionsLawful := by
  cases h with
  | kept h =>
    refine law.of_allowed h.plan fun k x hx => ?_
    obtain ⟨g, hg, keeps⟩ := h.grant hx
    exact keeps.allowedBy (law.allowed hg)
  | freed i =>
    refine law.of_allowed (by simp) fun k x hx => ?_
    cases hg : s.grant? i with
    | none =>
      rw [State.freeEntry_none hg] at hx
      exact law.allowed hx
    | some g => exact law.allowed (State.grant_freeEntry_some hg hx).2
  | @respanned _ i g g' h =>
    refine law.of_allowed h.plan fun k x hx => ?_
    by_cases hk : k = i
    · subst hk
      rw [h.after] at hx
      obtain rfl := Option.some.inj hx
      exact h.allowed grants table law
    · rw [h.grant_ne hk] at hx
      exact law.allowed hx
  | @made _ _ _ g h =>
    refine law.of_allowed h.plan fun k x hx => ?_
    obtain ⟨-, rfl⟩ | ⟨-, hx⟩ := h.grant_cases hx
    · intro a ha
      obtain rfl : a = x.start := by simpa [Grant.starts, h.move] using ha
      exact h.allowed table
    · exact law.allowed hx
  | profiles h =>
    exact law.of_allowed h.plan fun k x hx => law.allowed (by rw [← hx]; exact (State.grant_congr (by rw [h.table]) k).symm)
  | plan h => exact h.regions grants table law
  | coldStart => exact { State.regionsLawful_reset with }

theorem TableChain.regionsLawful {s t : State} (h : TableChain s t) (grants : s.GrantsLawful) (table : s.TableLawful)
    (law : s.RegionsLawful) : t.RegionsLawful := by
  induction h with
  | refl => exact law
  | tail before edit ih => exact edit.regionsLawful (TableChain.grantsLawful before grants) (TableChain.tableLawful before table) ih

end Sys2Proof.Machine
end

section
/-! ## What the operations of the blocks do to the grant table (R25, R47, R49 to R69, R126, R140 to R161) -/

namespace Sys2Proof.Machine

/-! ### Records that keep -/

theorem Grant.Keeps.news (g : Grant) (x : Bool) : g.Keeps { g with news := x } := .of_same (by simp) (by simp)

theorem Grant.Keeps.withNews (g : Grant) (x : Bool) : g.Keeps (g.withNews x) := .news g _

theorem Grant.Keeps.impairUp (g : Grant) : g.Keeps g.impairUp := by
  unfold Grant.impairUp
  split
  · rename_i live
    exact .of_settled (by simp) rfl (fun h => h.move_eq_none (by simp [live.1])) (fun m hm => ⟨m, hm, rfl⟩) rfl rfl
      fun _ => .inl rfl
  · exact .of_same (by simp) (by simp)

theorem Grant.Keeps.impairDown (g : Grant) : g.Keeps g.impairDown := by
  unfold Grant.impairDown
  split
  · rename_i impaired
    exact .of_settled (by simp) rfl (fun h => h.move_eq_none (by simp [impaired.1])) (fun m hm => ⟨m, hm, rfl⟩) rfl rfl
      fun _ => .inl rfl
  · exact .of_same (by simp) (by simp)

theorem Grant.carryState_pinnable (g : Grant) : g.carryState.pinnable = true := by
  unfold Grant.carryState
  split <;> rfl

theorem Grant.carryState_ne_moving (g : Grant) : g.carryState ≠ .moving := by
  unfold Grant.carryState
  split <;> decide

theorem Grant.Keeps.fallenBack (g : Grant) (n : Nat) : g.Keeps (g.fallenBack n) :=
  .of_settled (by simp [Grant.fallenBack]) rfl (fun _ => rfl) (by simp [Grant.fallenBack]) rfl rfl fun hp =>
    .inr (by simp [Grant.fallenBack, hp])

theorem Grant.Keeps.stayed (g : Grant) : g.Keeps g.stayed :=
  .of_settled (by simp [Grant.stayed]) g.carryState_pinnable (fun _ => rfl) (by simp [Grant.stayed]) rfl rfl fun _ => .inl rfl

/-- A carrier that comes up on a grant that was TUNING (R54, R69). -/
theorem Grant.Keeps.carrierUp {g : Grant} (h : g.state = .tuning) (j : SlotId) :
    g.Keeps { g with state := g.carryState, slot := some j, phaseTimer := none, news := true } :=
  .of_settled (by simp) g.carryState_pinnable (fun hl => hl.move_eq_none (by simp [h])) (fun m hm => ⟨m, hm, rfl⟩) rfl rfl
    fun _ => .inl rfl

theorem Grant.Keeps.quieted {g : Grant} (h : g.Lawful → g.hold ≠ .pinned) (n : Nat) : g.Keeps (g.quieted n) :=
  .of_unpinned (by simp [Grant.quieted]) (by simp [Grant.quieted]) (fun _ => rfl) (by simp [Grant.quieted]) rfl h

theorem Grant.Keeps.drained {g : Grant} (h : g.Lawful → g.hold ≠ .pinned) (hs : g.state ≠ .moving) : g.Keeps g.drained :=
  .of_unpinned (by simp [Grant.drained]) (by simp [Grant.drained]) (fun hl => hl.move_eq_none hs)
    (fun m hm => ⟨m, hm, rfl⟩) rfl h

theorem Grant.Keeps.pointTo (g : Grant) (c : Caller) (j : SlotId) : g.Keeps (g.pointTo c j) := by
  unfold Grant.pointTo
  split
  · rename_i m hm
    split
    · refine ⟨rfl, rfl, rfl, rfl, rfl, fun m' hm' => ⟨m, hm, by cases hm'; rfl⟩, fun h => ⟨?_, h.pins⟩⟩
      simpa [hm] using h.moves
    · exact .of_same (by simp) (by simp)
  · exact .of_same (by simp) (by simp)

/-- A move context that becomes another toward the same target (R145, R147). -/
theorem Grant.Keeps.remove {g : Grant} {m m' : MoveContext} (hm : g.move = some m) (ht : m'.target = m.target)
    (p : Option SlotId) : g.Keeps { g with slot := p, move := some m' } := by
  refine ⟨rfl, rfl, rfl, rfl, rfl, fun x hx => ⟨m, hm, by cases hx; exact ht⟩, fun h => ⟨?_, h.pins⟩⟩
  simpa [hm] using h.moves

/-! ### Operations beside the spans -/

section

variable (s : State)

theorem TableKept.haltPart (p : Option SlotId) : TableKept s (s.haltPart p) := .of_table (by simp) (by simp) (by simp)

theorem TableKept.noteFrag (b : Band) : TableKept s (s.noteFrag b) := .of_table (by simp) (by simp) (by simp)

theorem TableKept.endRepack (r : EndReason) : TableKept s (s.endRepack r) := .of_table (by simp) (by simp) (by simp)

theorem TableKept.modNamed (h : Handle) {f : Grant → Grant} (keeps : ∀ g : Grant, g.Keeps (f g)) :
    TableKept s (s.modNamed h f) := by
  unfold State.modNamed
  split
  · exact .refl s
  · exact .modGrant fun g _ => keeps g

theorem TableKept.turned (w : Watch) (now : Bool) : TableKept s (s.turned w now) := by
  unfold State.turned
  split
  · exact .refl s
  · rename_i h _
    split
    · split
      · have up := TableKept.modNamed s h Grant.Keeps.impairUp
        dsimp only
        split
        · exact up.trans (.of_table (by simp) (by simp) (by simp))
        · exact up
      · exact .modNamed s _ Grant.Keeps.impairDown
    · exact .refl s

theorem TableKept.compareAt (n : Fin 32) (w : Watch) (r : Byte) : TableKept s (s.compareAt n w r) := by
  unfold State.compareAt
  extract_lets lower upper now s₁ s₂ s₃
  have h₂ : TableKept s s₂ := by
    unfold s₂
    split <;> exact .of_table (by simp [s₁]) (by simp [s₁]) (by simp [s₁])
  have h₃ : TableKept s₂ s₃ := by
    unfold s₃
    split
    · exact .turned ..
    · exact .refl _
  exact (h₂.trans h₃).trans (.of_table (by simp) (by simp) (by simp))

theorem TableKept.actOn (n : Fin 32) (r : Byte) : TableKept s (s.actOn n r) := by
  unfold State.actOn
  split
  · split
    · exact .compareAt ..
    · exact .of_table (by simp) (by simp) (by simp)
    · exact (TableKept.of_table (by simp) (by simp) (by simp)).trans (.compareAt ..)
  · exact .refl s

theorem TableKept.withdrawWatch (w : Watch) : TableKept s (s.withdrawWatch w) := by
  unfold State.withdrawWatch
  split
  · exact .refl s
  · split
    · exact .modNamed s _ Grant.Keeps.impairDown
    · exact .refl s

theorem TableKept.emptyPosition (n : Fin 32) : TableKept s (s.emptyPosition n) := by
  unfold State.emptyPosition
  split
  · rename_i w _
    unfold State.removeWatch
    refine (TableKept.withdrawWatch s w).trans ?_
    dsimp only
    split <;> exact .of_table (by simp) (by simp) (by simp)
  · exact .refl s
  · exact .refl s

theorem TableKept.fallBack (i : Fin 64) : TableKept s (s.fallBack i) :=
  (TableKept.modGrant fun g _ => .fallenBack g _).trans (.noteLoad ..)

theorem TableKept.abandonMove (i : Fin 64) : TableKept s (s.abandonMove i) := by
  unfold State.abandonMove
  split
  · exact .refl s
  · split
    · exact .refl s
    · refine TableKept.trans ?_ ((TableKept.setOutcome _ i _).trans (.noteFrag ..))
      split
      · exact (((TableKept.haltPart s _).trans (.modGrant fun g _ => .stayed g)).trans (.recount ..)).trans (.noteLoad ..)
      · exact (TableKept.haltPart s _).trans (.fallBack ..)

theorem TableKept.stopRepack : TableKept s s.stopRepack := by
  unfold State.stopRepack
  split
  · refine TableKept.trans ?_ (.endRepack ..)
    split
    · exact .refl s
    · exact .abandonMove ..
  · exact .refl s

/-- An activation that begins on a RESERVED grant (R52). -/
theorem TableKept.beginActivation {i : Fin 64} {g : Grant} (hg : s.grant? i = some g) (hs : g.state = .reserved)
    (j : SlotId) (byTenant : Bool) : TableKept s (s.beginActivation i g j byTenant) := by
  have activated : TableKept s (s.modGrant i (·.activated j byTenant)) := .modGrant fun x hx => by
    obtain rfl : g = x := Option.some.inj (hg.symm.trans hx)
    exact .of_settled (by simp [Grant.activated, Grant.withNews]) rfl (fun h => h.move_eq_none (by simp [hs]))
      (fun m hm => ⟨m, hm, rfl⟩) rfl rfl fun _ => .inr rfl
  unfold State.beginActivation
  exact (activated.trans (.recount _ i)).trans (.of_table (by simp) (by simp) (by simp))

theorem TableKept.applyGrants {f : Grant → Grant} (i : Fin 64) (keeps : ∀ g : Grant, g.Keeps (f g)) :
    TableKept s (Machine.applyLevels s (s.modGrant i f)) :=
  (TableKept.modGrant fun g _ => keeps g).trans (.applyLevels ..)

/-! ### Grants given up (R57 to R66) -/

/-- A grant that is not PINNED comes to QUIET or FREE (R66). -/
theorem TableChain.enterQuiet {i : Fin 64} (unpinned : ∀ g, s.grant? i = some g → g.Lawful → g.hold ≠ .pinned) :
    TableChain s (s.enterQuiet i) := by
  have quiet : TableChain s (s.modGrant i (·.quieted s.plan.settings.quietInterval)) :=
    (TableKept.modGrant fun g hg => .quieted (unpinned g hg) _).chain
  unfold State.enterQuiet
  dsimp only
  split
  · exact quiet.trans (TableEdit.freed _ i).chain
  · exact quiet

theorem TableKept.enterDraining {i : Fin 64} (p : Option SlotId) (c : Cls)
    (carrying : ∀ g, s.grant? i = some g → g.state ≠ .moving ∧ (g.Lawful → g.hold ≠ .pinned)) :
    TableKept s (s.enterDraining i p c) := by
  have drains : TableKept s (s.modGrant i Grant.drained) :=
    .modGrant fun g hg => .drained (carrying g hg).2 (carrying g hg).1
  unfold State.enterDraining
  dsimp only
  split
  · exact drains
  · exact drains.trans (.of_table (by simp) (by simp) (by simp))

theorem TableChain.takeOffAir {i : Fin 64} (p : Option SlotId) (c : Cls) (cut : Bool)
    (carrying : ∀ g, s.grant? i = some g → g.state ≠ .moving ∧ (g.Lawful → g.hold ≠ .pinned)) :
    TableChain s (s.takeOffAir i p c cut) := by
  unfold State.takeOffAir
  split
  · refine (TableKept.haltPart s p).chain.trans (.enterQuiet _ fun g hg => ?_)
    exact (carrying g (by rw [← hg]; exact (State.grant_congr (by simp) i).symm)).2
  · exact (TableKept.enterDraining s p c carrying).chain

end

end Sys2Proof.Machine
end

section
/-! ## New spans: what the three stages of a placement leave (R36), and the grants that take one (R140, R141, R149) -/

namespace Sys2Proof.Machine

/-! ### The three stages (R36) -/

theorem Site.any_overlap_iff (x : Site) (start : Nat) :
    x.held.any (fun h => sharesCell start x.width h.start h.width) = true ↔
      ∃ h ∈ x.held, sharesCell start x.width h.start h.width = true := List.any_eq_true

theorem Site.any_close_iff (x : Site) (start : Nat) :
    x.held.any (fun h => gapBetween start x.width h.start h.width < requiredGap x.guards x.cls x.edge h) = true ↔
      ∃ h ∈ x.held,
        gapBetween start x.width h.start h.width < x.guards.entry x.cls h.cls + max x.edge h.edge := by
  rw [List.any_eq_true]
  exact exists_congr fun h => and_congr_right fun _ => decide_eq_true_iff

theorem Site.any_blocked_iff (x : Site) (start : Nat) :
    x.blocked.any (fun y => sharesCell start x.width y.1 y.2) = true ↔
      ∃ y ∈ x.blocked, sharesCell start x.width y.1 y.2 = true := List.any_eq_true

/-- The stages are decided in their order. -/
theorem placementStages (x : Site) : PlacementStages x := by
  intro start
  dsimp only
  rw [← x.any_overlap_iff, ← x.any_close_iff, ← x.any_blocked_iff]
  unfold Site.test
  refine ⟨fun h => if_pos h, fun h k => ?_, fun h k l => ?_, fun h k l => ?_⟩
  · rw [if_neg h, if_pos k]
  · rw [if_neg h, if_neg k, if_pos l]
  · rw [if_neg h, if_neg k, if_neg l]

/-- A span at a legal start is clear of every held span of the site (R36). -/
theorem Site.clear_of_legal {x : Site} {y : Held} (legal : x.test y.start = .legal)
    (same : y.width = x.width ∧ y.cls = x.cls ∧ y.edge = x.edge) {h : Held} (hh : h ∈ x.held) :
    Held.Clear x.guards y h := by
  obtain ⟨width, cls, edge⟩ := same
  obtain ⟨overlaps, close, -, -⟩ := placementStages x y.start
  have apart : ¬∃ h ∈ x.held, sharesCell y.start x.width h.start h.width = true := fun e => by
    rw [overlaps e] at legal
    cases legal
  unfold Held.Clear requiredGap
  rw [width, cls, edge]
  constructor
  · exact (Bool.not_eq_true _).mp fun e => apart ⟨h, hh, e⟩
  · refine Nat.le_of_not_lt fun e => ?_
    rw [close apart ⟨h, hh, e⟩] at legal
    cases legal

/-- A span at a legal start is clear of every grant of its band. -/
theorem State.clearFrom_of_legal {s : State} (law : s.TableLawful) {b : Band} {c : Cls} {edge width : Nat} {y : Held}
    (legal : (s.site b c edge width).test y.start = .legal) (same : y.width = width ∧ y.cls = c ∧ y.edge = edge)
    (but : Fin 64 → Prop) : s.ClearFrom b y but := by
  rintro j g - hg rfl z hz
  exact Site.clear_of_legal (x := s.site g.band c edge width) legal same (State.mem_heldSpans_of_grant law.items hg hz)

/-! ### The spans of a grant on a new start -/

section

variable {s : State} {i : Fin 64} {g : Grant} {start : Nat}

/-- A span of a grant at a start that is legal for it is clear of every span held, those of the grant itself included. -/
theorem State.heldFrom_clear (law : s.TableLawful) (legal : (s.moveSite g).test start = .legal) (isTarget : Bool)
    (but : Fin 64 → Prop) : s.ClearFrom g.band (s.heldFrom i g isTarget start) but :=
  State.clearFrom_of_legal (y := s.heldFrom i g isTarget start) law legal ⟨rfl, rfl, rfl⟩ but

/-- A RESERVED grant moved at once to a legal start (R140). -/
theorem Respanned.moveReserved (hg : s.grant? i = some g) (legal : (s.moveSite g).test start = .legal)
    (allowed : s.TableLawful → s.RegionsLawful → s.plan.active.allowsSpan g.band start g.width g.cls = true)
    (byTenant : Bool) :
    Respanned s (s.moveReserved i start byTenant) i g { g with start, impairing := 0, news := g.news || !byTenant } := by
  have spec := s.moveReserved_spec hg start byTenant
  have clear := fun law : s.TableLawful => State.heldFrom_clear (i := i) law legal
  exact
    { before := hg
      after := by rw [State.grant?, spec.entry]
      entry := by rw [spec.entry]; exact ⟨rfl, rfl⟩
      fixture := ⟨rfl, rfl, rfl, rfl⟩
      others := spec.others
      items := .inr ⟨spec.item, spec.otherBand⟩
      counts := by simp
      profiles := by simp
      plan := by simp
      own := fun law => by
        refine List.pairwise_cons.2 ⟨fun y hy => ?_, ?_⟩
        · refine clear law false (fun _ => False) i g not_false hg rfl y ((s.mem_spansOf_iff ..).2 ?_)
          obtain ⟨m, hm, rfl⟩ : ∃ m, g.move = some m ∧ s.heldFrom i g true m.target = y := by
            simpa [State.heldFrom] using hy
          exact .inr ⟨m, hm, rfl⟩
        · cases g.move <;> simp
      clear := fun law x hx => by
        obtain rfl | ⟨m, hm, rfl⟩ := (s.mem_spansOf_iff ..).1 hx
        · exact clear law false _
        · exact law.apart.clear i g hg _ ((s.mem_spansOf_iff ..).2 (.inr ⟨m, hm, rfl⟩))
      allowed := fun _ law regions a ha => by
        rcases List.mem_cons.1 ha with rfl | ha
        · exact allowed law regions
        · exact regions.allowed hg a (List.mem_cons_of_mem _ ha)
      lawful := fun h => ⟨h.moves, h.pins⟩ }

/-- The record of a grant whose move has begun, with its counted load. -/
def Grant.moveBegun (g : Grant) (m : MoveContext) (byTenant : Bool) (counted : Nat) : Grant :=
  { g with state := .moving, move := some m, news := g.news || !byTenant, counted }

/-- The context with which a move begins (R141). -/
def MoveContext.begun (target : Nat) (kind : MoveKind) (origin : MoveOrigin) (j : SlotId) : MoveContext :=
  { target, kind, origin, phase := .targetTuning, second := if kind = .seamless then some j else none }

theorem State.entry_beginMove (hg : s.grant? i = some g) (kind : MoveKind) (origin : MoveOrigin) (j : SlotId)
    (byTenant : Bool) :
    ∃ n, (s.beginMove i start kind origin j byTenant).entry i =
      { s.entry i with grant := some (g.moveBegun (.begun start kind origin j) byTenant n) } := by
  let g₁ := g.moveBegun (.begun start kind origin j) byTenant g.counted
  let s₁ := s.modGrant i fun g => g.moveBegun (.begun start kind origin j) byTenant g.counted
  let s₂ := s₁.beginAttempt j i .moveTarget false start
  have e₁ : s₁.entry i = { s.entry i with grant := some g₁ } := State.entry_modGrant_same s hg _
  have e₂ : s₂.entry i = s₁.entry i := State.entry_congr (by simp [s₂]) i
  have hg₂ : s₂.grant? i = some g₁ := by rw [State.grant?, e₂, e₁]
  obtain ⟨n, e⟩ := s₂.levels.recount_eq g₁
  refine ⟨n, ?_⟩
  have recounted : (s₂.recount i).entry i = { s₂.entry i with grant := some (s₂.levels.recount g₁) } :=
    State.entry_modGrant_same s₂ hg₂ _
  refine recounted.trans ?_
  rw [e, e₂, e₁]
  rfl

theorem EntriesKept.beginMove (s : State) (i : Fin 64) (start : Nat) (kind : MoveKind) (origin : MoveOrigin) (j : SlotId)
    (byTenant : Bool) : EntriesKept s (s.beginMove i start kind origin j byTenant) [i] := by
  unfold State.beginMove State.recount
  dsimp only
  exact (EntriesKept.modGrant s i _).twice
    ((EntriesKept.of_entries (by rw [State.beginAttempt_table]) [i]).twice (EntriesKept.modGrant _ i _))

/-- The start of a move of a grant that is not PINNED, toward a legal start (R141). -/
theorem Respanned.beginMove (hg : s.grant? i = some g) (unpinned : g.hold ≠ .pinned)
    (legal : (s.moveSite g).test start = .legal)
    (allowed : s.TableLawful → s.RegionsLawful → s.plan.active.allowsSpan g.band start g.width g.cls = true)
    (kind : MoveKind) (origin : MoveOrigin) (j : SlotId) (byTenant : Bool) :
    ∃ n, Respanned s (s.beginMove i start kind origin j byTenant) i g
      (g.moveBegun (.begun start kind origin j) byTenant n) := by
  obtain ⟨n, entry⟩ := State.entry_beginMove (start := start) hg kind origin j byTenant
  have clear := fun law : s.TableLawful => State.heldFrom_clear (i := i) law legal
  refine ⟨n, ?_⟩
  exact
    { before := hg
      after := by rw [State.grant?, entry]
      entry := by rw [entry]; exact ⟨rfl, rfl⟩
      fixture := ⟨rfl, rfl, rfl, rfl⟩
      others := EntriesKept.beginMove s i start kind origin j byTenant
      items := .inl ⟨rfl, by simp⟩
      counts := by simp
      profiles := by simp
      plan := by simp
      own := fun law => List.pairwise_pair.2
        (clear law true (fun _ => False) i g not_false hg rfl _ (List.mem_cons_self ..)).symm
      clear := fun law x hx => by
        obtain rfl | ⟨m, hm, rfl⟩ := (s.mem_spansOf_iff ..).1 hx
        · exact law.apart.clear i g hg _ (List.mem_cons_self ..)
        · cases hm
          exact clear law true _
      allowed := fun _ law regions a ha => by
        rcases List.mem_cons.1 ha with rfl | ha
        · exact regions.current i g hg
        · obtain rfl := List.mem_singleton.1 ha
          exact allowed law regions
      lawful := fun _ => ⟨by simp [Grant.moveBegun], fun hp => absurd hp unpinned⟩ }

/-- The record of a grant that comes to carry on its target, before its span changes (R143, R147). -/
def Grant.landed (g : Grant) (j : SlotId) : Grant := { g with state := .live, slot := some j, move := none, news := true }

/-- A grant that has arrived on its target (R143, R147, R149). -/
theorem Respanned.arrived (hg : s.grant? i = some g) {m : MoveContext} (hm : g.move = some m) (j : SlotId) :
    Respanned s (((s.modGrant i (·.landed j)).setOutcome i .moved).relocate i m.target) i g
      { g.landed j with start := m.target, impairing := 0 } := by
  let s₁ := (s.modGrant i (·.landed j)).setOutcome i .moved
  have e₁ : s₁.entry i = { s.entry i with lastOutcome := .moved, grant := some (g.landed j) } := by
    rw [State.entry_setOutcome_same, State.entry_modGrant_same s hg]
  have hg₁ : s₁.grant? i = some (g.landed j) := by rw [State.grant?, e₁]
  have handle : s₁.handleOf i = s.handleOf i := by rw [State.handleOf, e₁]; rfl
  have occupancy : ∀ b, s₁.occupancy b = s.occupancy b := fun b => by simp [s₁, State.occupancy]
  have entry := State.entry_relocate_same s₁ hg₁ m.target
  obtain ⟨item, otherBand⟩ := State.occupancy_relocate s₁ hg₁ m.target
  have mem : s.heldFrom i g true m.target ∈ s.spansOf i g := (s.mem_spansOf_iff ..).2 (.inr ⟨m, hm, rfl⟩)
  rw [handle, occupancy] at item
  simp only [occupancy] at otherBand
  exact
    { before := hg
      after := by rw [State.grant?, entry]
      entry := by rw [entry, e₁]; exact ⟨rfl, rfl⟩
      fixture := ⟨rfl, rfl, rfl, rfl⟩
      others := ((EntriesKept.modGrant s i _).twice (EntriesKept.setEntry _ i _)).twice (EntriesKept.relocate s₁ i _)
      items := .inr ⟨item, otherBand⟩
      counts := by simp
      profiles := by simp
      plan := by simp
      own := fun _ => List.pairwise_singleton ..
      clear := fun law x hx j' g₂ hj hg₂ hb y hy => by
        obtain rfl := List.mem_singleton.1 hx
        exact (law.apart.clear i g hg _ mem j' g₂ hj hg₂ hb y hy).congr ⟨rfl, rfl, rfl, rfl⟩ ⟨rfl, rfl, rfl, rfl⟩
      allowed := fun _ _ regions a ha => by
        obtain rfl := List.mem_singleton.1 ha
        exact regions.target i g m hg hm
      lawful := fun h => ⟨by simp [Grant.landed], fun hp => ⟨rfl, (h.pins hp).2⟩⟩ }

end

end Sys2Proof.Machine
end

section
/-! ## What the operations of the blocks do to the grant table: repack, moves, tunings, grants given up -/

namespace Sys2Proof.Machine

/-! ### Repack (R154 to R161) -/

/-- Regions of a lawful plan that hold one cell are one region (R2). -/
theorem Plan.Lawful.unique {p : Plan} (h : p.Lawful) {j k : Fin 8} {x y : Region} (hx : p[j] = some x)
    (hy : p[k] = some y) (hb : x.band = y.band) {c : Nat} (hc : x.first ≤ c ∧ c ≤ x.last)
    (hc' : y.first ≤ c ∧ c ≤ y.last) : x = y := by
  by_cases e : j = k
  · subst e
    exact Option.some.inj (hx.symm.trans hy)
  · have := h.apart j k x y e hx hy hb
    omega

/-- The start to which a repack step lowers a grant is in the region of its span, which allows its class (R157). -/
theorem State.allowsSpan_of_lowerStart {s : State} (law : s.TableLawful) (regions : s.RegionsLawful) {i : Fin 64}
    {g : Grant} (hg : s.grant? i = some g) {start : Nat} (h : s.lowerStart g = some start) :
    s.plan.active.allowsSpan g.band start g.width g.cls = true := by
  obtain ⟨k, x, found, -, first, last, -⟩ := (s.lowerStart_eq_some_iff g start).1 h
  obtain ⟨band, holds⟩ := Plan.holds_of_regionAt found
  obtain ⟨k', -, hx, -⟩ := Plan.regionAt_spec found
  obtain ⟨j, y, hy, hb, h1, h2, classes⟩ := (Plan.allowsSpan_iff ..).1 (regions.current i g hg)
  have width := law.widths i g hg
  obtain rfl : x = y := regions.active.unique hx hy (band.trans hb.symm) holds ⟨h1, by omega⟩
  exact (Plan.allowsSpan_iff ..).2 ⟨j, x, hy, hb, first, last, classes⟩

/-- The step that a repack chooses: a candidate, and a lower start for it (R157). -/
theorem State.chooseStep_spec {s : State} {b : Band} {i : Fin 64} {start : Nat} (h : s.chooseStep b = some (i, start)) :
    ∃ g, s.grant? i = some g ∧ g.repackable = true ∧ s.lowerStart g = some start := by
  obtain ⟨it, -, e⟩ := List.exists_of_findSome?_eq_some h
  split at e
  · cases e
  · rename_i g hg
    split at e
    · rename_i repackable
      obtain ⟨n, hn, e⟩ := Option.map_eq_some_iff.1 e
      cases e
      exact ⟨g, hg, repackable, hn⟩
    · cases e

theorem Grant.repackable_iff (g : Grant) :
    g.repackable = true ↔ g.hold ≠ .pinned ∧ g.fixed = false ∧ (g.state = .reserved ∨ g.state = .live) := by
  simp [Grant.repackable, and_assoc]

/-- A repack step chosen for a grant may be made. -/
theorem State.legal_of_lowerStart {s : State} {g : Grant} {start : Nat} (h : s.lowerStart g = some start) :
    (s.moveSite g).test start = .legal := by
  obtain ⟨-, -, -, -, -, -, -, legal, -⟩ := (s.lowerStart_eq_some_iff g start).1 h
  exact legal

theorem TableChain.repackSteps (b : Band) (n : Nat) : ∀ s : State, TableChain s (State.repackSteps b n s) := by
  induction n with
  | zero => exact fun s => (TableKept.endRepack s _).chain
  | succ n ih =>
    intro s
    unfold State.repackSteps
    split
    · exact (TableKept.endRepack s _).chain
    · rename_i i start chosen
      obtain ⟨g, hg, candidate, lower⟩ := State.chooseStep_spec chosen
      obtain ⟨unpinned, -⟩ := g.repackable_iff.1 candidate
      have legal := State.legal_of_lowerStart lower
      have allowed := fun law regions => State.allowsSpan_of_lowerStart (s := s) law regions hg lower
      simp only [hg]
      split
      · have moved : TableKept (s.moveReserved i start false) (((s.moveReserved i start false).countMove).noteFrag b) :=
          .of_table (by simp) (by simp) (by simp)
        exact ((TableEdit.respanned (.moveReserved hg legal allowed false)).chain.trans moved.chain).trans (ih _)
      · split
        · exact (TableKept.endRepack s _).chain
        · rename_i j _
          obtain ⟨_, began⟩ := Respanned.beginMove hg unpinned legal allowed .seamless .repack j false
          exact (TableEdit.respanned began).chain.trans (TableKept.noteFrag _ b).chain

section

variable (s : State)

theorem TableChain.continueRepack : TableChain s s.continueRepack := by
  unfold State.continueRepack
  split
  · exact .refl s
  · exact .repackSteps _ _ s

theorem TableChain.startRepack (b : Band) : TableChain s (s.startRepack b) := by
  unfold State.startRepack
  have kept : TableKept s (s.withRepack { s.engine.repack with running := true, band := some b, moves := 0 }) :=
    .of_table (by simp) (by simp) (by simp)
  exact kept.chain.trans (.continueRepack _)

theorem TableChain.refreshFrag (b : Band) : TableChain s (s.refreshFrag b) := by
  have noted := (TableKept.noteFrag s b).chain
  unfold State.refreshFrag
  dsimp only
  split
  · exact noted.trans (.startRepack _ b)
  · exact noted

theorem TableChain.repackAfter (o : MoveOrigin) (e : MoveEnd) : TableChain s (s.repackAfter o e) := by
  unfold State.repackAfter
  split
  · split
    · have counted : TableKept s s.countMove := .of_table (by simp) (by simp) (by simp)
      exact counted.chain.trans (.continueRepack _)
    · exact (TableKept.endRepack s _).chain
    · exact .continueRepack s
  · exact .refl s

/-- What follows the end of a move in one event (R126, R154, R159). -/
theorem TableChain.moveEnded (old : State) (b : Band) (o : MoveOrigin) (e : MoveEnd) :
    TableChain s (((noteLoad old s).refreshFrag b).repackAfter o e) :=
  ((TableKept.noteLoad old s).chain.trans (.refreshFrag _ b)).trans (.repackAfter _ o e)

/-! ### Outcomes of tunings (R54, R55, R68, R69, R110 to R112, R143 to R148) -/

theorem TableChain.arrive (i : Fin 64) (j : SlotId) : TableChain s (s.arrive i j) := by
  unfold State.arrive
  split
  · exact .refl s
  · rename_i g hg
    split
    · exact .refl s
    · rename_i m hm
      have halted : TableKept s (if m.kind = .seamless then s.haltPart g.slot else s) := by
        split
        · exact .haltPart s _
        · exact .refl s
      have held : (if m.kind = .seamless then s.haltPart g.slot else s).grant? i = some g := by
        rw [← hg]
        exact State.grant_congr (by split <;> simp) i
      exact ((halted.chain.trans (TableEdit.respanned (.arrived held hm j)).chain).trans (TableKept.recount _ i).chain).trans
        (.moveEnded _ s g.band m.origin .onTarget)

theorem TableChain.stayBehind (i : Fin 64) (p : Option SlotId) : TableChain s (s.stayBehind i p) := by
  unfold State.stayBehind
  split
  · exact .refl s
  · rename_i g _
    split
    · exact .refl s
    · rename_i m _
      have stays : TableKept s (s.modGrant i fun g => { g.stayed with slot := p }) :=
        .modGrant fun g _ => (Grant.Keeps.stayed g).trans (.of_same (by simp) (by simp))
      exact ((stays.trans (.setOutcome _ i _)).trans (.recount _ i)).chain.trans
        (.moveEnded _ s g.band m.origin .failed)

theorem TableChain.fallbackFails (i : Fin 64) : TableChain s (s.fallbackFails i) := by
  unfold State.fallbackFails
  split
  · exact .refl s
  · rename_i g _
    split
    · exact .refl s
    · rename_i m _
      exact (((TableKept.fallBack s i).trans (.setOutcome _ i _)).chain.trans (.refreshFrag _ g.band)).trans
        (.repackAfter _ m.origin .failed)

/-- An attempt begins, and the grant's record points to its slot (R108, R109). -/
theorem TableKept.attempt (j : SlotId) (i : Fin 64) (c : Caller) (second : Bool) (start : Nat) :
    TableKept s ((s.beginAttempt j i c second start).modGrant i (·.pointTo c j)) :=
  (TableKept.of_table (by simp) (by simp) (by simp)).trans (.modGrant fun g _ => .pointTo g c j)

theorem TableChain.beginFallback {i : Fin 64} {g : Grant} (hg : s.grant? i = some g) {m : MoveContext}
    (hm : g.move = some m) : TableChain s (s.beginFallback i g m) := by
  have falls : TableKept s (s.modGrant i fun g => { g with move := some { m with phase := .fallbackTuning } }) :=
    .modGrant fun x hx => by
      obtain rfl : g = x := Option.some.inj (hg.symm.trans hx)
      exact .remove (m' := { m with phase := .fallbackTuning }) hm rfl g.slot
  unfold State.beginFallback
  dsimp only
  split
  · exact falls.chain.trans (.fallbackFails _ i)
  · exact (falls.trans (.attempt ..)).chain

theorem TableChain.tuningFails (i : Fin 64) (c : Caller) : TableChain s (s.tuningFails i c) := by
  unfold State.tuningFails
  split
  · exact .refl s
  · rename_i g hg
    cases c with
    | activation => exact ((TableKept.fallBack s i).trans (.setOutcome _ i _)).chain
    | relock => exact (TableKept.fallBack s i).chain
    | moveTarget =>
      dsimp only
      split
      · exact .refl s
      · rename_i m hm
        split
        · exact .stayBehind s i _
        · exact .beginFallback s hg hm
    | fallback => exact .fallbackFails s i
    | test => exact .refl s

theorem TableKept.carrierUp {i : Fin 64} (tuning : ∀ g, s.grant? i = some g → g.state = .tuning) (j : SlotId) :
    TableKept s (s.carrierUp i j) :=
  (TableKept.modGrant fun g hg => .carrierUp (tuning g hg) j).trans (.setOutcome _ i _)

theorem TableChain.tuningSucceeds {i : Fin 64} {c : Caller} (awaits : ∀ g, s.grant? i = some g → g.awaits c = true)
    (j : SlotId) : TableChain s (s.tuningSucceeds i c j) := by
  cases c with
  | activation => exact (TableKept.carrierUp s (fun g hg => by simpa [Grant.awaits] using awaits g hg) j).chain
  | relock => exact (TableKept.carrierUp s (fun g hg => by simpa [Grant.awaits] using awaits g hg) j).chain
  | moveTarget => exact .arrive s i j
  | fallback => exact .stayBehind s i _
  | test => exact .refl s

theorem TableChain.seekRetry (i : Fin 64) (c : Caller) (j : SlotId) : TableChain s (s.seekRetry i c j) := by
  unfold State.seekRetry
  split
  · exact .refl s
  · split
    · exact .tuningFails s i c
    · exact (TableKept.attempt ..).chain

theorem TableChain.attemptFails (j : SlotId) (a : Attempt) : TableChain s (s.attemptFails j a) := by
  have failed : TableChain s (s.failSlot j) := (TableKept.of_table (by simp) (by simp) (by simp)).chain
  unfold State.attemptFails
  split
  · exact (TableKept.of_table (by simp) (by simp) (by simp)).chain
  · split
    · exact failed
    · split
      · exact failed
      · split
        · split
          · exact failed.trans (.tuningFails ..)
          · exact failed.trans (.seekRetry ..)
        · exact failed

theorem TableChain.attemptLocks (j : SlotId) (a : Attempt) : TableChain s (s.attemptLocks j a) := by
  have locked : TableChain s (s.lockSlot j) := (TableKept.of_table (by simp) (by simp) (by simp)).chain
  unfold State.attemptLocks
  split
  · exact (TableKept.of_table (by simp) (by simp) (by simp)).chain
  · split
    · exact locked
    · rename_i h _
      split
      · exact locked
      · rename_i g hg
        split
        · rename_i awaits
          refine locked.trans (.tuningSucceeds _ (fun x hx => ?_) j)
          have hx' : s.grant? h.entry = some x := by
            rw [← hx]
            exact (State.grant_congr (by simp) _).symm
          obtain rfl : g = x := Option.some.inj ((State.grantOf_some hg).1.symm.trans hx')
          exact awaits
        · exact locked

/-! ### Loss of lock (R68, R114, R145) -/

theorem TableChain.lockLoss {i : Fin 64} {g : Grant} (hg : s.grant? i = some g) (carries : g.carries = true)
    (j : SlotId) : TableChain s (s.lockLoss j i g) := by
  have counted : TableKept s (s.countLoss j) := .of_table (by simp) (by simp) (by simp)
  have held : ((s.countLoss j).setOutcome i .lost).grant? i = some g := by
    rw [State.grant_setOutcome, ← hg]
    exact State.grant_congr (by simp) i
  have tuning : TableKept ((s.countLoss j).setOutcome i .lost)
      (((s.countLoss j).setOutcome i .lost).modGrant i fun g => { g with state := .tuning, news := true }) :=
    .modGrant fun x hx => by
      obtain rfl : g = x := Option.some.inj (held.symm.trans hx)
      refine .of_settled (by simp) rfl (fun h => h.move_eq_none fun e => ?_) (fun m hm => ⟨m, hm, rfl⟩) rfl rfl
        fun _ => .inl rfl
      simp [Grant.carries, e] at carries
  have lost := (counted.trans (.setOutcome _ i .lost)).trans tuning
  unfold State.lockLoss
  dsimp only
  split
  · exact (lost.trans (.of_table (by simp) (by simp) (by simp))).chain.trans (.seekRetry ..)
  · exact (lost.trans (.of_table (by simp) (by simp) (by simp))).chain

theorem TableKept.seamlessLoss {i : Fin 64} {g : Grant} (hg : s.grant? i = some g) {m : MoveContext}
    (hm : g.move = some m) (j : SlotId) : TableKept s (s.seamlessLoss j i m) := by
  have failed : TableKept s (s.failSlot j) := .of_table (by simp) (by simp) (by simp)
  have hard : TableKept (s.failSlot j)
      ((s.failSlot j).modGrant i fun g =>
        { g with slot := m.second, move := some { m with kind := .hard, second := none } }) :=
    .modGrant fun x hx => by
      have held : (s.failSlot j).grant? i = some g := by
        rw [← hg]
        exact State.grant_congr (by simp) i
      obtain rfl : g = x := Option.some.inj (held.symm.trans hx)
      exact .remove (m' := { m with kind := .hard, second := none }) hm rfl m.second
  have lost := ((failed.trans hard).trans (.recount _ i)).trans (.noteLoad s _)
  unfold State.seamlessLoss
  exact lost.trans (.of_table (by simp) (by simp) (by simp))

theorem TableChain.lossOfLock (j : SlotId) : TableChain s (s.lossOfLock j) := by
  have counted : TableChain s (s.countLoss j) := (TableKept.of_table (by simp) (by simp) (by simp)).chain
  unfold State.lossOfLock
  split
  · exact counted
  · split
    · exact counted
    · rename_i g hg
      obtain ⟨held, -⟩ := State.grantOf_some hg
      split
      · rename_i carries
        exact .lockLoss s held carries j
      · split
        · exact counted
        · rename_i m hm
          split
          · exact (TableKept.seamlessLoss s held hm j).chain
          · exact counted

/-! ### Grants given up, and timers that run out (R50, R57 to R66) -/

/-- What giving a grant up asks of it: while PINNED it would have a lease, which the law of pins denies it. -/
theorem TableChain.giveUp {i : Fin 64} {g : Grant} {byTenant : Bool} (hg : s.grant? i = some (g.withNews byTenant))
    (loose : g.hold = .pinned → g.lease.isSome = true) (cut : Bool) : TableChain s (s.giveUp i g cut) := by
  have unpinned : ∀ x : Grant, x.hold = g.hold → x.lease = g.lease → x.Lawful → x.hold ≠ .pinned := by
    intro x hold lease law hp
    obtain ⟨-, none, -⟩ := law.pins hp
    rw [lease] at none
    have := loose (hold ▸ hp)
    simp [none] at this
  have own : ∀ x, s.grant? i = some x → x = g.withNews byTenant := fun x hx => Option.some.inj (hx.symm.trans hg)
  have halts : TableChain s ((s.haltPart g.slot).enterQuiet i) := by
    refine (TableKept.haltPart s _).chain.trans (.enterQuiet _ fun x hx => ?_)
    obtain rfl := own x (by rw [← hx]; exact (State.grant_congr (by simp) i).symm)
    exact unpinned _ rfl rfl
  have off : g.state ≠ .moving → TableChain s (s.takeOffAir i g.slot g.cls cut) := fun hs =>
    .takeOffAir s _ _ _ fun x hx => by
      obtain rfl := own x hx
      exact ⟨hs, unpinned _ rfl rfl⟩
  unfold State.giveUp
  split
  · exact (TableEdit.freed s i).chain
  · exact halts
  · rename_i hs
    exact off (by simp [hs])
  · rename_i hs
    exact off (by simp [hs])
  · split
    · exact .refl s
    · rename_i m hm
      split
      · have halted := TableKept.haltPart s m.second
        have left : TableKept (s.haltPart m.second)
            ((s.haltPart m.second).modGrant i fun g => { g with state := g.carryState, move := none }) :=
          .modGrant fun x _ => .of_settled (by simp) x.carryState_pinnable (fun _ => rfl) (by simp) rfl rfl
            fun _ => .inl rfl
        have kept : TableKept s (s.leaveSeamless i m.second) := (halted.trans left).trans (.recount _ i)
        refine kept.chain.trans (.takeOffAir _ _ _ _ fun x hx => ?_)
        have held : (s.haltPart m.second).grant? i = some (g.withNews byTenant) := by
          rw [← hg]
          exact State.grant_congr (by simp) i
        have entry := State.grant_modGrant_same _ held fun g => { g with state := g.carryState, move := none }
        have counted := State.grant_modGrant_same _ entry
          ((s.haltPart m.second).modGrant i fun g => { g with state := g.carryState, move := none }).levels.recount
        obtain ⟨n, e⟩ := LevelUnit.recount_eq
          ((s.haltPart m.second).modGrant i fun g => { g with state := g.carryState, move := none }).levels
          { g.withNews byTenant with state := (g.withNews byTenant).carryState, move := none }
        rw [e] at counted
        obtain rfl := Option.some.inj (counted.symm.trans hx)
        exact ⟨Grant.carryState_ne_moving _, unpinned _ rfl rfl⟩
      · exact halts
  · split
    · exact halts
    · exact .refl s
  · exact .refl s

theorem TableChain.endGrant {i : Fin 64} (o : LastOutcome) (byTenant cut : Bool)
    (loose : ∀ g, s.grant? i = some g → g.hold = .pinned → g.lease.isSome = true) :
    TableChain s (s.endGrant i o byTenant cut) := by
  unfold State.endGrant
  split
  · exact .refl s
  · rename_i g hg
    have held : (s.setOutcome i o).grant? i = some g := by rw [State.grant_setOutcome, hg]
    have noted : TableKept s ((s.setOutcome i o).modGrant i (·.withNews byTenant)) :=
      (TableKept.setOutcome s i o).trans (.modGrant fun x _ => .withNews x byTenant)
    have given := noted.chain.trans
      (.giveUp _ (State.grant_modGrant_same _ held (·.withNews byTenant)) (loose g hg) cut)
    have loaded := given.trans (TableKept.noteLoad s _).chain
    dsimp only
    split
    · split
      · exact loaded.trans (.refreshFrag ..)
      · exact loaded
    · split
      · exact (loaded.trans (.refreshFrag ..)).trans (.repackAfter ..)
      · exact loaded.trans (.repackAfter ..)

theorem TableChain.endDrain {i : Fin 64} {g : Grant} (hg : s.grant? i = some g) (hs : g.state = .draining) :
    TableChain s (s.endDrain i g) := by
  have noted : TableKept s (s.modGrant i fun g => { g with news := true }) := .modGrant fun x _ => .news x true
  have halted := noted.trans (.haltPart _ g.slot)
  have given : TableChain s (((s.modGrant i fun g => { g with news := true }).haltPart g.slot).enterQuiet i) := by
    refine halted.chain.trans (.enterQuiet _ fun x hx law hp => ?_)
    have held : ((s.modGrant i fun g => { g with news := true }).haltPart g.slot).grant? i =
        some { g with news := true } := by
      rw [← State.grant_modGrant_same s hg fun g => { g with news := true }]
      exact State.grant_congr (by simp) i
    obtain rfl := Option.some.inj (held.symm.trans hx)
    have := (law.pins hp).1
    simp [hs, GrantState.pinnable] at this
  have loaded := given.trans (TableKept.noteLoad s _).chain
  unfold State.endDrain
  dsimp only
  split
  · exact loaded.trans (.refreshFrag ..)
  · exact loaded

theorem TableChain.freeByTimer (i : Fin 64) (g : Grant) : TableChain s (s.freeByTimer i g) :=
  (TableEdit.freed s i).chain.trans (.refreshFrag ..)

end

end Sys2Proof.Machine
end

section
/-! ## What an AUTO search gives (R37), and what placements are tested against (R27, R178) -/

namespace Sys2Proof.Machine

/-! ### The search over regions (R37) -/

section

variable {x : Site} {r : Region} {regions : List Region}

/-- The starts that a region has for a span of width 1 or more. -/
theorem Region.lt_starts_iff (hw : 1 ≤ x.width) (m : Nat) (h : r.first ≤ m) :
    m < r.first + r.starts x.width ↔ m + x.width ≤ r.last + 1 := by
  unfold Region.starts Region.size
  omega

/-- The lowest start of a region at which the test gives an outcome. -/
theorem Site.lowest_starts_iff (hw : 1 ≤ x.width) (want : Placed) (m : Nat) :
    x.lowest want (r.starts x.width) r.first = some m ↔
      (r.first ≤ m ∧ m + x.width ≤ r.last + 1) ∧ x.test m = want ∧ ∀ k, r.first ≤ k → k < m → x.test k ≠ want := by
  rw [Site.lowest_eq_some_iff]
  constructor
  · rintro ⟨first, last, test, least⟩
    exact ⟨⟨first, (Region.lt_starts_iff hw m first).1 last⟩, test, least⟩
  · rintro ⟨⟨first, last⟩, test, least⟩
    exact ⟨first, (Region.lt_starts_iff hw m first).2 last, test, least⟩

/-- A region with a start of an outcome has a lowest one, at or below it. -/
theorem Site.exists_lowest (hw : 1 ≤ x.width) {want : Placed} {m : Nat} (first : r.first ≤ m)
    (last : m + x.width ≤ r.last + 1) (test : x.test m = want) :
    ∃ k, x.lowest want (r.starts x.width) r.first = some k ∧ k ≤ m := by
  classical
  have found : ∃ k, r.first ≤ k ∧ x.test k = want := ⟨m, first, test⟩
  obtain ⟨low, here⟩ := Nat.find_spec found
  have below : Nat.find found ≤ m := Nat.find_min' found ⟨first, test⟩
  refine ⟨Nat.find found, (Site.lowest_starts_iff hw want _).2 ⟨⟨low, by omega⟩, here, fun k hk lt h => ?_⟩, below⟩
  exact Nat.find_min found lt ⟨hk, h⟩

theorem Site.search_eq_none_iff (hw : 1 ≤ x.width) :
    x.search regions = none ↔ ∀ m, StartsIn x regions m → x.test m ≠ .legal := by
  unfold Site.search
  rw [List.min?_eq_none_iff, List.filterMap_eq_nil_iff]
  constructor
  · rintro none m ⟨r, hr, first, last⟩ legal
    obtain ⟨k, found, -⟩ := Site.exists_lowest hw first last legal
    rw [none r hr] at found
    cases found
  · intro none r hr
    rw [Option.eq_none_iff_forall_ne_some]
    intro m found
    obtain ⟨⟨first, last⟩, legal, -⟩ := (Site.lowest_starts_iff hw .legal m).1 found
    exact none m ⟨r, hr, first, last⟩ legal

theorem Site.search_eq_some_iff (hw : 1 ≤ x.width) (n : Nat) :
    x.search regions = some n ↔
      StartsIn x regions n ∧ x.test n = .legal ∧ ∀ m, m < n → StartsIn x regions m → x.test m ≠ .legal := by
  unfold Site.search
  rw [List.min?_eq_some_iff]
  simp only [List.mem_filterMap, forall_exists_index, and_imp]
  constructor
  · rintro ⟨⟨r, hr, found⟩, least⟩
    obtain ⟨⟨first, last⟩, legal, -⟩ := (Site.lowest_starts_iff hw .legal n).1 found
    refine ⟨⟨r, hr, first, last⟩, legal, ?_⟩
    rintro m lt ⟨q, hq, first', last'⟩ legal'
    obtain ⟨k, found', le⟩ := Site.exists_lowest hw first' last' legal'
    have := least k q hq found'
    omega
  · rintro ⟨⟨r, hr, first, last⟩, legal, least⟩
    refine ⟨⟨r, hr, (Site.lowest_starts_iff hw .legal n).2 ⟨⟨first, last⟩, legal, fun k hk lt => ?_⟩⟩, ?_⟩
    · exact least k lt ⟨r, hr, hk, by omega⟩
    · intro k q hq found
      obtain ⟨⟨first', last'⟩, legal', -⟩ := (Site.lowest_starts_iff hw .legal k).1 found
      by_contra lt
      exact least k (by omega) ⟨q, hq, first', last'⟩ legal'

theorem Site.blockedSomewhere_iff (hw : 1 ≤ x.width) :
    x.blockedSomewhere regions = true ↔ ∃ m, StartsIn x regions m ∧ x.test m = .blocked := by
  unfold Site.blockedSomewhere
  simp only [List.any_eq_true, Option.isSome_iff_exists]
  constructor
  · rintro ⟨r, hr, m, found⟩
    obtain ⟨⟨first, last⟩, blocked, -⟩ := (Site.lowest_starts_iff hw .blocked m).1 found
    exact ⟨m, ⟨r, hr, first, last⟩, blocked⟩
  · rintro ⟨m, ⟨r, hr, first, last⟩, blocked⟩
    obtain ⟨k, found, -⟩ := Site.exists_lowest hw first last blocked
    exact ⟨r, hr, k, found⟩

theorem stagesAndSearch : StagesAndSearch := fun x _ =>
  ⟨placementStages x, fun hw =>
    ⟨Site.search_eq_some_iff hw, Site.search_eq_none_iff hw, Site.blockedSomewhere_iff hw⟩⟩

/-- A start that a search gives is legal and lies in one of its regions, at any width. -/
theorem Site.search_spec {n : Nat} (h : x.search regions = some n) :
    x.test n = .legal ∧ ∃ r ∈ regions, r.first ≤ n ∧ n < r.first + r.starts x.width := by
  obtain ⟨r, hr, found⟩ := List.mem_filterMap.1 (List.min?_mem h)
  obtain ⟨first, last, legal, -⟩ := (Site.lowest_eq_some_iff ..).1 found
  exact ⟨legal, r, hr, first, last⟩

end

/-! ### Held spans (R27) -/

theorem mem_heldOf_iff (s : State) (it : OccItem) (h : Held) :
    h ∈ heldOf s it ↔
      ∃ g, s.grant? it.handle.entry = some g ∧ h.entry = it.handle.entry ∧ h.cls = g.cls ∧
        h.edge = (s.profile g.profile).edgeGuard ∧
        ((h.isTarget = false ∧ h.start = it.start ∧ h.width = it.width) ∨
          ∃ m, g.move = some m ∧ h.isTarget = true ∧ h.start = m.target ∧ h.width = g.width) := by
  obtain ⟨entry, isTarget, start, width, cls, edge⟩ := h
  unfold heldOf
  cases hg : s.grant? it.handle.entry with
  | none => simp
  | some g =>
    cases hm : g.move with
    | none =>
      simp only [List.mem_singleton, Held.mk.injEq, Option.some.injEq, exists_eq_left', hm, reduceCtorEq, false_and,
        exists_false, or_false]
      tauto
    | some m =>
      simp only [List.mem_cons, List.not_mem_nil, or_false, Held.mk.injEq, Option.some.injEq, exists_eq_left', hm]
      tauto

theorem heldSpansOfBand : HeldSpansOfBand := by
  intro s b h
  simp only [State.heldSpans, List.mem_flatMap, mem_heldOf_iff]
  exact exists_congr fun it => exists_and_left.symm

/-! ### Blocked cells (R178) -/

theorem Monitor.mem_positions_iff (m : Monitor) (p : Position) : p ∈ m.positions.toList ↔ ∃ n, m.position n = p := by
  rw [Vector.mem_toList_iff, Vector.mem_iff_getElem]
  exact ⟨fun ⟨i, h, e⟩ => ⟨⟨i, h⟩, e⟩, fun ⟨n, e⟩ => ⟨n.val, n.isLt, e⟩⟩

theorem State.mem_blockedRanges_iff (s : State) (b : Band) (start width : Nat) :
    (start, width) ∈ s.blockedRanges b ↔ BlockStands s b start width := by
  simp only [State.blockedRanges, List.mem_filterMap, Monitor.mem_positions_iff, BlockStands]
  constructor
  · rintro ⟨_, ⟨n, rfl⟩, h⟩
    split at h
    · rename_i w at_n
      split at h
      · rename_i b' start' width' target
        split at h
        · rename_i stands
          simp only [Bool.and_eq_true, beq_iff_eq] at stands
          obtain ⟨⟨⟨enabled, condition⟩, action⟩, rfl⟩ := stands
          cases h
          exact ⟨n, w, at_n, target, enabled, condition, action⟩
        · cases h
      · cases h
    · cases h
  · rintro ⟨n, w, at_n, target, enabled, condition, action⟩
    exact ⟨_, ⟨n, rfl⟩, by simp [at_n, target, enabled, condition, action]⟩

theorem blockedCellsOfBand : BlockedCellsOfBand := by
  refine fun s b => ⟨fun y => s.mem_blockedRanges_iff b y.1 y.2, fun c => ?_⟩
  simp only [State.blockedCell, List.any_eq_true, Prod.exists, s.mem_blockedRanges_iff, Bool.and_eq_true,
    decide_eq_true_eq]

/-! ### Distances of spans (R10, R11) -/

theorem gapBetween_of_above {a w a' w' : Nat} (h : a' + w' ≤ a) : gapBetween a w a' w' = a - (a' + w') := by
  unfold gapBetween
  split <;> omega

theorem distancesOfSpans : DistancesOfSpans :=
  ⟨fun _ _ _ _ => ⟨sharesCell_iff .., fun h => if_pos h, gapBetween_of_above⟩,
    fun m => ⟨rfl, rfl, rfl, rfl, rfl, rfl, m.entry_comm⟩⟩

end Sys2Proof.Machine

namespace Sys2Proof.Proofs
open Sys2Proof.Machine

/-- Settles O22: a region's lowest start of an outcome is the first one at which the test gives it, and the search takes the
least of these. -/
theorem searchGivesLowestLegalStart : Obligations.SearchGivesLowestLegalStart :=
  ⟨stagesAndSearch, heldSpansOfBand, blockedCellsOfBand, fun _ => ⟨fun _ => rfl, fun _ => rfl⟩, distancesOfSpans⟩

end Sys2Proof.Proofs
end

section
/-! ## What RESERVE asks before it makes a grant: its steps 9 to 13 (R33 to R37) -/

namespace Sys2Proof.Machine

variable {s : State} {r : Req} {w : Wish}

/-! ### Frozen regions, and the regions searched (R33, R34) -/

theorem Plan.mem_wishRegions_iff (p : Plan) (w : Wish) (x : Region) :
    x ∈ p.wishRegions w ↔
      (∃ k : Fin 8, p[k] = some x ∧ (w.region = none ∨ w.region = some k)) ∧ x.band = w.band ∧
        x.classes.has w.cls = true := by
  unfold Plan.wishRegions
  cases hr : w.region with
  | none => simp [Plan.mem_candidates_iff]
  | some k =>
    cases hk : p[k] with
    | none => simp [hk, -Fin.getElem_fin]
    | some y =>
      by_cases fits : y.band = w.band ∧ y.classes.has w.cls = true
      · simp only [hk, if_pos fits, List.mem_singleton, reduceCtorEq, false_or, Option.some.injEq, exists_eq_right']
        constructor
        · rintro rfl
          exact ⟨rfl, fits⟩
        · rintro ⟨rfl, -⟩
          rfl
      · simp only [hk, if_neg fits, List.not_mem_nil, reduceCtorEq, false_or, Option.some.injEq, exists_eq_right',
          false_iff, not_and]
        rintro rfl band has
        exact fits ⟨band, has⟩

theorem candidate_iff (x : Region) : Candidate s w x ↔ x ∈ s.plan.active.wishRegions w :=
  (Plan.mem_wishRegions_iff ..).symm

/-- The regions searched are the candidates that are not frozen and hold a span of the width (R33, R34). -/
theorem State.mem_wishSearch_iff (hw : 1 ≤ s.wishWidth w) (x : Region) :
    x ∈ s.wishSearch w ↔ Searched s w (s.wishWidth w) x := by
  have size : s.wishWidth w ≤ x.size ↔ x.first + s.wishWidth w ≤ x.last + 1 := by
    unfold Region.size
    omega
  simp only [State.wishSearch, List.mem_filter, ← candidate_iff, Searched, Bool.and_eq_true, Bool.not_eq_true',
    decide_eq_true_eq, size]

theorem Plan.wishFrozen_iff (p : Plan) (w : Wish) :
    p.wishFrozen w = true ↔
      (w.placement = .explicit ∧ p.frozenAt w.band w.start = true) ∨
        (w.placement = .auto ∧
          ((∃ k x, w.region = some k ∧ p[k] = some x ∧ x.frozen = true) ∨
            (w.region = none ∧ (∃ x, x ∈ p.wishRegions w) ∧ ∀ x ∈ p.wishRegions w, x.frozen = true))) := by
  unfold Plan.wishFrozen Plan.wishRegions
  cases hp : w.placement with
  | explicit => simp
  | auto =>
    cases hr : w.region with
    | none =>
      rw [← and_assoc]
      simp only [Bool.and_eq_true, Bool.not_eq_true', List.isEmpty_eq_false_iff_exists_mem, List.all_eq_true]
      simp
    | some k => cases hk : p[k] <;> simp [hk, -Fin.getElem_fin]

theorem admissionFrozen_iff :
    AdmissionFrozen s w ↔ s.table.planFrozen = true ∨ s.plan.active.wishFrozen w = true := by
  simp only [AdmissionFrozen, candidate_iff, Plan.wishFrozen_iff]

/-! ### The quota, and the entry taken (R29, R35) -/

theorem quotaLeft_iff : s.quotaLeft r = true ↔ QuotaLeft s r := by
  unfold State.quotaLeft QuotaLeft
  cases r.port with
  | management => simp
  | tenant => cases s.directoryEntry r.tenant <;> simp

theorem State.freeEntryNumber_eq_none_iff : s.freeEntryNumber = none ↔ ∀ i, s.grant? i ≠ none := by
  simp [State.freeEntryNumber, mem_entryNumbers]

theorem State.freeEntryNumber_eq_some_iff {i : Fin 64} :
    s.freeEntryNumber = some i ↔ s.grant? i = none ∧ ∀ k, k < i → s.grant? k ≠ none := by
  have lowest : ∀ j, s.freeEntryNumber = some j → s.grant? j = none ∧ ∀ k, k < j → s.grant? k ≠ none := by
    intro j found
    obtain ⟨free, before, after, split, earlier⟩ := List.find?_eq_some_iff_append.1 found
    refine ⟨by simpa using free, fun k lt => ?_⟩
    have mem : k ∈ before ++ j :: after := split ▸ mem_entryNumbers k
    have ordered : (before ++ j :: after).Pairwise (· < ·) := split ▸ List.pairwise_lt_finRange 64
    obtain ⟨-, later, -⟩ := List.pairwise_append.1 ordered
    rcases List.mem_append.1 mem with hb | ha
    · have held := earlier k hb
      simpa [← Option.isSome_iff_ne_none] using held
    · rcases List.mem_cons.1 ha with rfl | ha
      · exact absurd lt (lt_irrefl k)
      · exact absurd lt (List.rel_of_pairwise_cons later ha).asymm
  refine ⟨lowest i, fun ⟨free, least⟩ => ?_⟩
  cases found : s.freeEntryNumber with
  | none => exact absurd free (State.freeEntryNumber_eq_none_iff.1 found i)
  | some j =>
    obtain ⟨free', least'⟩ := lowest j found
    rcases lt_trichotomy i j with lt | rfl | lt
    · exact absurd free (least' i lt)
    · rfl
    · exact absurd free' (least j lt)

/-! ### The steps in their order -/

theorem State.admission_frozen (h : AdmissionFrozen s w) : s.admission r w = .error .frozen := by
  unfold State.admission
  rcases admissionFrozen_iff.1 h with frozen | frozen
  · rw [if_pos frozen]
  · rw [if_pos frozen, ite_self]

/-- Steps 10 to 13, once nothing that step 9 looks at is frozen. -/
theorem State.admission_thawed (h : ¬AdmissionFrozen s w) :
    s.admission r w =
      if (s.profile w.profile).state ≠ .ready then .error .profileNotReady
      else if (s.profile w.profile).classes.has w.cls = false then .error .profileClass
      else if s.quotaLeft r = false then .error .quota
      else if s.wishRegionOk w = false then .error .region
      else
        match s.freeEntryNumber with
        | none => .error .noSpace
        | some i => (s.wishStart w).map fun start => (i, start) := by
  obtain ⟨table, region⟩ := not_or.1 fun e => h (admissionFrozen_iff.2 e)
  rw [State.admission, if_neg table, if_neg region] <;> rfl

/-- Steps 11 to 13, for a READY profile that allows the class. -/
theorem State.admission_profiled (h : ¬AdmissionFrozen s w) (ready : (s.profile w.profile).state = .ready)
    (has : (s.profile w.profile).classes.has w.cls = true) :
    s.admission r w =
      if s.quotaLeft r = false then .error .quota
      else if s.wishRegionOk w = false then .error .region
      else
        match s.freeEntryNumber with
        | none => .error .noSpace
        | some i => (s.wishStart w).map fun start => (i, start) := by
  rw [State.admission_thawed h, if_neg (not_not_intro ready), if_neg (by simp [has])]

/-- Step 13, in the entry taken. -/
theorem State.admission_placed (h : ¬AdmissionFrozen s w) (ready : (s.profile w.profile).state = .ready)
    (has : (s.profile w.profile).classes.has w.cls = true) (quota : QuotaLeft s r) (region : s.wishRegionOk w = true)
    {i : Fin 64} (entry : s.freeEntryNumber = some i) :
    s.admission r w = (s.wishStart w).map fun start => (i, start) := by
  rw [State.admission_profiled h ready has, if_neg (by simp [quotaLeft_iff.2 quota]), if_neg (by simp [region]), entry]

/-- A RESERVE gets its entry and start exactly when it has passed every one of steps 9 to 13. -/
theorem State.admission_eq_ok_iff {i : Fin 64} {start : Nat} :
    s.admission r w = .ok (i, start) ↔
      ¬AdmissionFrozen s w ∧ (s.profile w.profile).state = .ready ∧ (s.profile w.profile).classes.has w.cls = true ∧
        QuotaLeft s r ∧ s.wishRegionOk w = true ∧ s.freeEntryNumber = some i ∧ s.wishStart w = .ok start := by
  constructor
  · intro h
    by_cases frozen : AdmissionFrozen s w
    · rw [State.admission_frozen frozen] at h
      cases h
    rw [State.admission_thawed frozen] at h
    split at h
    · cases h
    rename_i ready
    split at h
    · cases h
    rename_i has
    split at h
    · cases h
    rename_i quota
    split at h
    · cases h
    rename_i region
    split at h
    · cases h
    · rename_i j entry
      cases starts : s.wishStart w with
      | error c =>
        rw [starts] at h
        cases h
      | ok n =>
        rw [starts] at h
        cases h
        exact ⟨frozen, not_not.1 ready, by simpa using has, quotaLeft_iff.1 (by simpa using quota), by simpa using region,
          entry, rfl⟩
  · rintro ⟨frozen, ready, has, quota, region, entry, starts⟩
    rw [State.admission_placed frozen ready has quota region entry, starts]
    rfl

/-! ### Step 13 by placement (R36, R37) -/

theorem State.wishStart_explicit (h : w.placement = .explicit) :
    s.wishStart w =
      match (s.wishSite w).test w.start with
      | .legal => .ok w.start
      | p => .error p.refusal := by
  unfold State.wishStart
  rw [h] <;> rfl

theorem State.wishStart_auto (h : w.placement = .auto) :
    s.wishStart w =
      match (s.wishSite w).search (s.wishSearch w) with
      | some start => .ok start
      | none => .error (if (s.wishSite w).blockedSomewhere (s.wishSearch w) then .blocked else .noSpace) := by
  unfold State.wishStart
  rw [h] <;> rfl

theorem State.wishStart_explicit_eq_ok_iff (h : w.placement = .explicit) (start : Nat) :
    s.wishStart w = .ok start ↔ (s.wishSite w).test w.start = .legal ∧ start = w.start := by
  rw [State.wishStart_explicit h]
  cases (s.wishSite w).test w.start <;> simp [eq_comm]

/-- A start that lies in a region searched. -/
theorem State.startsIn_wishSearch (hw : 1 ≤ s.wishWidth w) (n : Nat) :
    StartsIn (s.wishSite w) (s.wishSearch w) n ↔
      ∃ x, Searched s w (s.wishWidth w) x ∧ x.first ≤ n ∧ n + s.wishWidth w ≤ x.last + 1 :=
  exists_congr fun x => and_congr_left' (State.mem_wishSearch_iff hw x)

theorem State.wishRegionOk_explicit (h : w.placement = .explicit) :
    s.wishRegionOk w = s.plan.active.allowsSpan w.band w.start (s.wishWidth w) w.cls := by
  rw [State.wishRegionOk, h]

theorem State.wishRegionOk_auto (hw : 1 ≤ s.wishWidth w) (h : w.placement = .auto) :
    s.wishRegionOk w = true ↔ ∃ x, Searched s w (s.wishWidth w) x := by
  simp only [State.wishRegionOk, h, ← State.mem_wishSearch_iff hw, Bool.not_eq_true',
    List.isEmpty_eq_false_iff_exists_mem]

/-- The start that an AUTO placement gets is the lowest legal one of the regions searched. -/
theorem State.wishStart_auto_ok (hw : 1 ≤ s.wishWidth w) (h : w.placement = .auto) {n : Nat}
    (lies : StartsIn (s.wishSite w) (s.wishSearch w) n) (legal : (s.wishSite w).test n = .legal)
    (least : ∀ m, m < n → StartsIn (s.wishSite w) (s.wishSearch w) m → (s.wishSite w).test m ≠ .legal) :
    s.wishStart w = .ok n := by
  rw [State.wishStart_auto h, (Site.search_eq_some_iff hw n).2 ⟨lies, legal, least⟩]

/-- An AUTO placement without a legal start is refused BLOCKED where some start fails by blocked cells only. -/
theorem State.wishStart_auto_error (hw : 1 ≤ s.wishWidth w) (h : w.placement = .auto)
    (none : ∀ n, StartsIn (s.wishSite w) (s.wishSearch w) n → (s.wishSite w).test n ≠ .legal) :
    s.wishStart w =
      .error (if (s.wishSite w).blockedSomewhere (s.wishSearch w) then .blocked else .noSpace) := by
  rw [State.wishStart_auto h, (Site.search_eq_none_iff hw).2 none]

theorem admissionDecides : AdmissionDecides := by
  intro s r w
  dsimp only
  refine ⟨State.admission_frozen, fun thawed => ⟨fun ready => ?_, fun ready has => ?_, fun ready has => ?_⟩⟩
  · rw [State.admission_thawed thawed, if_pos ready]
  · rw [State.admission_thawed thawed, if_neg (not_not_intro ready), if_pos has]
  have region (hw : 1 ≤ s.wishWidth w) : s.wishRegionOk w = true ↔
      if w.placement = .explicit then s.plan.active.allowsSpan w.band w.start (s.wishWidth w) w.cls = true
      else ∃ x, Searched s w (s.wishWidth w) x := by
    cases hp : w.placement with
    | explicit => rw [State.wishRegionOk_explicit hp, if_pos rfl]
    | auto => rw [State.wishRegionOk_auto hw hp, if_neg (by decide)]
  refine ⟨fun quota => ?_, fun quota hw outside => ?_, fun quota hw inside => ⟨fun full => ?_, fun i free least => ?_⟩⟩
  · rw [State.admission_profiled thawed ready has, if_pos (Bool.eq_false_iff.2 fun e => quota (quotaLeft_iff.1 e))]
  · rw [State.admission_profiled thawed ready has, if_neg (by simp [quotaLeft_iff.2 quota]),
      if_pos (by rw [← Bool.not_eq_true, region hw]; exact outside)]
  · rw [State.admission_profiled thawed ready has, if_neg (by simp [quotaLeft_iff.2 quota]),
      if_neg (by simp [(region hw).2 inside]), State.freeEntryNumber_eq_none_iff.2 full]
  rw [State.admission_placed thawed ready has quota ((region hw).2 inside)
    (State.freeEntryNumber_eq_some_iff.2 ⟨free, least⟩)]
  refine ⟨fun explicit => ?_, fun auto => ⟨fun n lies legal lowest => ?_, fun illegal => ?_⟩⟩
  · rw [State.wishStart_explicit explicit]
    refine ⟨fun h => ?_, fun h => ?_, fun h => ?_, fun h => ?_⟩ <;> rw [h] <;> rfl
  · rw [State.wishStart_auto_ok hw auto ((State.startsIn_wishSearch hw n).2 lies) legal fun m lt inside =>
      lowest m lt ((State.startsIn_wishSearch hw m).1 inside)]
    rfl
  · rw [State.wishStart_auto_error hw auto fun n lies => illegal n ((State.startsIn_wishSearch hw n).1 lies)]
    have blocked := Site.blockedSomewhere_iff (x := s.wishSite w) (regions := s.wishSearch w) hw
    simp only [State.startsIn_wishSearch hw] at blocked
    refine ⟨fun somewhere => ?_, fun none => ?_⟩
    · rw [if_pos (blocked.2 somewhere)]
      rfl
    · rw [if_neg fun h => ?_]
      · rfl
      · obtain ⟨n, lies, at_n⟩ := blocked.1 h
        exact none n lies at_n

/-! ### RESERVE answered -/

theorem Wish.plain_iff (w : Wish) : w.plain = true ↔ w.hold = .opened ∧ w.fixed = false ∧ w.group = .none := by
  simp [Wish.plain, and_assoc]

/-- A RESERVE whose fields are read and in range: step 2, step 3, and steps 9 to 13. -/
theorem reserve_eq (wishes : Wishes r s w) (inRange : WishInRange s w) :
    reserve r s =
      if r.port = .tenant ∧ w.plain = false then refuse s .notPermitted
      else
        enabledTenant r s
          (match s.admission r w with
           | .error c => refuse s c
           | .ok (i, start) =>
             answerDone (s.makeGrant r w i start) (s.handleBytes i ++ be16 start ++ [byte (s.wishWidth w)])) := by
  simp only [reserve, (s.wishOf_eq_some_iff r w).2 wishes, if_pos ((wishInRange_iff s w).1 inRange)] <;> rfl

theorem reserveAnswered : ReserveAnswered := by
  intro s src f h
  dsimp only
  intro w wishes inRange
  have eq := reserve_eq wishes inRange
  refine ⟨fun port loose => ?_, fun port plain disabled => ?_, fun may => ?_⟩
  · refine does_of_handler h rfl (eq.trans ?_)
    rw [if_pos ⟨port, Bool.eq_false_iff.2 fun e => loose ((Wish.plain_iff w).1 e)⟩]
    rfl
  · refine does_of_handler h rfl (eq.trans ?_)
    rw [if_neg (by simp [(Wish.plain_iff w).2 plain]), enabledTenant, if_pos ⟨port, disabled⟩]
    rfl
  · have passed : ¬((requestOf src.port f).port = .tenant ∧ w.plain = false) := by
      rintro ⟨port, loose⟩
      rcases may with management | ⟨-, plain⟩
      · cases management.symm.trans port
      · simp [(Wish.plain_iff w).2 plain] at loose
    rw [if_neg passed, enabledTenant_pass (may.imp id And.left)] at eq
    refine ⟨fun i start admitted => does_of_handler h rfl ?_, fun c refused => does_of_handler h rfl ?_⟩
    · rw [eq, admitted]
      rfl
    · rw [eq, refused]
      rfl

end Sys2Proof.Machine

namespace Sys2Proof.Proofs
open Sys2Proof.Machine

/-- Settles O23: the handler's own refusals, and the steps of its admission one after another. -/
theorem reserveMakesTheGrantAdmitted : Obligations.ReserveMakesTheGrantAdmitted := ⟨reserveAnswered, admissionDecides⟩

/-- Settles O24, from what an admission has passed. -/
theorem explicitReserveAdmission : Obligations.ExplicitReserveAdmission := by
  intro s r w i start explicit
  have thawed : ¬AdmissionFrozen s w ↔
      s.table.planFrozen = false ∧ s.plan.active.frozenAt w.band w.start = false := by
    simp [AdmissionFrozen, explicit]
  rw [State.admission_eq_ok_iff, thawed, State.wishRegionOk_explicit explicit, State.freeEntryNumber_eq_some_iff,
    State.wishStart_explicit_eq_ok_iff explicit, and_assoc]
  rfl

end Sys2Proof.Proofs
end

section
/-! ## The grant that RESERVE makes (R38, R48) -/

namespace Sys2Proof.Machine

/-! ### The recompute of a fragmentation level (R153, R154) -/

theorem State.frag_noteFrag (s : State) (b : Band) : (s.noteFrag b).engine.frag.get b = s.fragOf b := by
  simp [State.noteFrag, State.setFrag, PerBand.get_put]

/-- Without the band's switch a recompute notes the level and starts nothing. -/
theorem State.refreshFrag_of_off {s : State} {b : Band} (h : s.plan.settings.autoRepack.get b = false) :
    s.refreshFrag b = s.noteFrag b := by
  have off : (s.noteFrag b).mayAutoStart b = false := by simp [State.mayAutoStart, h]
  simp [State.refreshFrag, off]

/-! ### The grant, beside that recompute -/

/-- The record of the entry that RESERVE takes (R38). -/
def State.newEntry (s : State) (r : Req) (w : Wish) (i : Fin 64) (start : Nat) : Entry :=
  { s.entry i with
    tenant := Fin.ofNat 16 r.tenant, lastOutcome := .none
    grant := some (newGrant r.port w start (s.wishWidth w) s.plan.settings.holdTime) }

/-- What RESERVE does before it recomputes the level of the band: record, occupancy item, counts (R38). -/
def State.grantAdded (s : State) (r : Req) (w : Wish) (i : Fin 64) (start : Nat) : State :=
  let t := s.setEntry i (s.newEntry r w i start)
  let t := t.setOccupancy w.band
    (insertItem { handle := s.handleOf i, start, width := s.wishWidth w } (t.occupancy w.band))
  let t := t.changeCount r.tenant (· + 1)
  t.changeReferences w.profile (· + 1)

variable (s : State) (r : Req) (w : Wish) (i : Fin 64) (start : Nat)

theorem State.makeGrant_eq : s.makeGrant r w i start = (s.grantAdded r w i start).refreshFrag w.band := rfl

theorem newLease_eq (p : Port) :
    newLease p w =
      match p with
      | .tenant => if w.lease = 0 then some 3600 else some w.lease
      | .management => if w.hold = .pinned ∨ w.lease = 0 then none else some w.lease := by
  cases p with
  | tenant => exact apply_ite some _ _ _
  | management => rfl

theorem State.entries_grantAdded :
    (s.grantAdded r w i start).table.entries = (s.setEntry i (s.newEntry r w i start)).table.entries := by
  simp [State.grantAdded]

theorem State.entry_grantAdded : (s.grantAdded r w i start).entry i = s.newEntry r w i start :=
  (State.entry_congr (s.entries_grantAdded r w i start) i).trans (State.entry_setEntry_same s i _)

theorem State.occupancy_grantAdded (b : Band) :
    (s.grantAdded r w i start).occupancy b =
      if b = w.band then
        insertItem { handle := s.handleOf i, start, width := s.wishWidth w } (s.occupancy b)
      else s.occupancy b := by
  have list : (s.grantAdded r w i start).table.occupancy = s.table.occupancy.put w.band
      (insertItem { handle := s.handleOf i, start, width := s.wishWidth w } (s.occupancy w.band)) := by
    simp [State.grantAdded, State.setOccupancy, State.setEntry, State.occupancy]
  rw [State.occupancy, list]
  split
  · rename_i e
    rw [e, PerBand.get_put]
  · rename_i e
    rw [PerBand.get_put_ne _ e]
    rfl

theorem State.counts_grantAdded (k : Fin 15) :
    (s.grantAdded r w i start).table.counts[k] =
      if r.tenant = k.val + 1 then s.table.counts[k] + 1 else s.table.counts[k] := by
  simp only [State.grantAdded, State.changeReferences_table, State.counts_changeCount]
  rfl

theorem State.profile_grantAdded (k : Fin 8) :
    (s.grantAdded r w i start).profile k =
      if w.profile = k then { s.profile k with references := (s.profile k).references + 1 } else s.profile k := by
  simp only [State.grantAdded, State.profile_changeReferences]
  simp [State.profile]

theorem EntriesKept.grantAdded : EntriesKept s (s.grantAdded r w i start) [i] :=
  (EntriesKept.setEntry s i _).twice (EntriesKept.of_entries (s.entries_grantAdded r w i start) [i])

variable {r}

theorem State.grantAdded_made (hr : r.tenant < 16) : GrantMade s (s.grantAdded r w i start) r w i start where
  generation := by
    rw [State.entry_grantAdded]
    rfl
  tenant := by
    rw [State.entry_grantAdded]
    exact Nat.mod_eq_of_lt hr
  outcome := by
    rw [State.entry_grantAdded]
    rfl
  grant := by
    rw [State.grant?, State.entry_grantAdded]
    exact congrArg
      (fun lease => some { newGrant r.port w start (s.wishWidth w) s.plan.settings.holdTime with lease })
      (newLease_eq w r.port)
  item := by
    rw [State.occupancy_grantAdded, if_pos rfl]
    rfl
  otherBand b hb := by rw [State.occupancy_grantAdded, if_neg hb]
  counts := s.counts_grantAdded r w i start
  references k := by
    rw [State.profile_grantAdded]
    exact if_congr eq_comm rfl rfl
  others := EntriesKept.grantAdded s r w i start
  slots := .of_pool (by simp [State.grantAdded]) []
  rest := by simp [State.grantAdded]

variable {w i start}

/-- The record of a level leaves what RESERVE has made. -/
theorem GrantMade.noteFrag {s t : State} (h : GrantMade s t r w i start) (b : Band) :
    GrantMade s (t.noteFrag b) r w i start := by
  have table : (t.noteFrag b).table = t.table := by simp
  have entry : ∀ k, (t.noteFrag b).entry k = t.entry k := fun k => State.entry_congr (by rw [table]) k
  have occupancy : ∀ c, (t.noteFrag b).occupancy c = t.occupancy c := fun c => by rw [State.occupancy, table]; rfl
  have profile : ∀ k, (t.noteFrag b).profile k = t.profile k := fun k => by simp [State.profile]
  exact
    { generation := by rw [entry]; exact h.generation
      tenant := by rw [entry]; exact h.tenant
      outcome := by rw [entry]; exact h.outcome
      grant := by rw [State.grant?, entry]; exact h.grant
      item := by rw [occupancy]; exact h.item
      otherBand := fun c hc => by rw [occupancy]; exact h.otherBand c hc
      counts := by rw [table]; exact h.counts
      references := fun k => by rw [profile]; exact h.references k
      others := fun k hk => by rw [entry]; exact h.others k hk
      slots := h.slots.trans (.of_pool (by simp) [])
      rest := by simpa using h.rest }

theorem State.grantCount_tenant {k : Fin 15} (h : r.tenant = k.val + 1) : s.grantCount r.tenant = s.table.counts[k] := by
  simp only [State.grantCount, (tenantPlace_eq_some_iff ..).2 h]

/-- The count of the tenant that a RESERVE is made for, once it is made (R29). -/
theorem GrantMade.grantCount {s t : State} (h : GrantMade s t r w i start) (hr : r.tenant < 16) :
    t.grantCount r.tenant = if 1 ≤ r.tenant then s.grantCount r.tenant + 1 else 0 := by
  split
  · have place : r.tenant = (⟨r.tenant - 1, by omega⟩ : Fin 15).val + 1 := by
      dsimp only
      omega
    rw [State.grantCount_tenant t place, State.grantCount_tenant s place, h.counts, if_pos place]
  · have none : tenantPlace r.tenant = none := tenantPlace_eq_none (.inl (by omega))
    simp only [State.grantCount, none]

theorem grantIsMade : GrantIsMade := by
  intro s r w i start hr
  have made := s.grantAdded_made w i start hr
  refine ⟨⟨_, s.makeGrant_eq r w i start, made, by simp [State.grantAdded], by simp [State.grantAdded]⟩, fun off => ?_⟩
  have settings : (s.grantAdded r w i start).plan.settings.autoRepack.get w.band = false := by
    rw [made.rest.1]
    exact off
  have noted := GrantMade.noteFrag made w.band
  rw [State.makeGrant_eq, State.refreshFrag_of_off settings]
  refine ⟨noted, ?_, GrantMade.grantCount noted hr⟩
  rw [State.frag_noteFrag]
  exact (State.fragOf_congr (by simp) (by simp) (by simp) _).symm

theorem itemsJoinAndLeave : ItemsJoinAndLeave := fun x l _ =>
  ⟨insertItem_perm x l, insertItem_ordered, rfl⟩

end Sys2Proof.Machine

namespace Sys2Proof.Proofs
open Sys2Proof.Machine

/-- Settles O25: the grant is made before the recompute, which without the band's switch leaves it alone. -/
theorem reservedGrantRecord : Obligations.ReservedGrantRecord := ⟨grantIsMade, itemsJoinAndLeave⟩

end Sys2Proof.Proofs
end

section
/-! ## What the requests do to the grant table, the profiles and the plan -/

namespace Sys2Proof.Machine

/-! ### The checks that requests share (R30), and the answer (R185) -/

section Requests

variable {r : Req} {s : State}

theorem TableChain.managementRequest {inRange : Bool} {pass : State × Reply}
    (h : r.port = .management → TableChain s pass.1) : TableChain s (managementRequest r s inRange pass).1 := by
  unfold Machine.managementRequest managementOnly
  split
  · split
    · rename_i port
      exact h port
    · exact .refl s
  · exact .refl s

theorem TableChain.enabledTenant {pass : State × Reply} (h : TableChain s pass.1) :
    TableChain s (enabledTenant r s pass).1 := by
  unfold Machine.enabledTenant
  split
  · exact .refl s
  · exact h

theorem TableChain.currentHandle {h : Handle} {pass : Grant → State × Reply}
    (k : ∀ g, s.grant? h.entry = some g → TableChain s (pass g).1) : TableChain s (currentHandle r s h pass).1 := by
  unfold Machine.currentHandle
  split
  · exact .refl s
  · rename_i g hg
    exact k g (State.grantOf_some hg).1

theorem TableChain.ownHandle {inRange : Bool} {pass : Fin 64 → Grant → State × Reply}
    (h : ∀ i g, s.grant? i = some g → TableChain s (pass i g).1) : TableChain s (ownHandle r s inRange pass).1 := by
  unfold Machine.ownHandle
  split
  · exact .refl s
  · rename_i i _
    split
    · refine .enabledTenant (.currentHandle fun g hg => ?_)
      unfold owned
      split
      · exact .refl s
      · exact h i g hg
    · exact .refl s

theorem TableChain.managementHandle {inRange : Bool} {pass : Fin 64 → Grant → State × Reply}
    (h : ∀ i g, s.grant? i = some g → TableChain s (pass i g).1) :
    TableChain s (managementHandle r s inRange pass).1 := by
  unfold Machine.managementHandle
  split
  · exact .refl s
  · rename_i i _
    exact .managementRequest fun _ => .currentHandle fun g hg => h i g hg

theorem State.removeFrame_kept (s : State) (src : Source) : TableKept s (s.removeFrame src) := by
  cases src with
  | priority => exact .of_table rfl rfl rfl
  | queue p => exact .of_table (by simp [State.removeFrame]) (by simp [State.removeFrame]) (by simp [State.removeFrame])

theorem State.taken_kept (s : State) (src : Source) : TableKept s (s.taken src) := by
  cases src with
  | priority => exact (s.removeFrame_kept .priority).trans (.stopRepack _)
  | queue p => exact s.removeFrame_kept (.queue p)

/-- A request row changes what its handler changes, on a frame that is of this row. -/
theorem TableChain.serve {row : Instr} {handler : Handler}
    (h : ∀ src f u, s.rowOf src f = row → TableChain u (handler (requestOf src.port f) u).1) :
    TableChain s (s.serve row handler) := by
  rcases s.serve_cases row handler with e | ⟨src, f, -, hrow, e⟩
  · rw [e]
    exact .refl s
  · rw [e]
    have placed := (h src f (s.taken src) hrow).trans
      (TableKept.of_table (t := s.answer handler src f) (State.place_table ..) (State.place_profiles ..)
        (State.place_plan ..)).chain
    exact (s.taken_kept src).chain.trans placed

end Requests

/-! ### The plan store (R4 to R18) -/

theorem PlanEdited.of_regions {s : State} {p : PlanStore} (guards : p.guards = s.plan.guards)
    (active : s.RegionsLawful → p.active.Lawful) (staged : s.RegionsLawful → ∀ q, p.staged = some q → q.Lawful)
    (allows : ∀ b start width c, s.plan.active.allowsSpan b start width c = true →
      p.active.allowsSpan b start width c = true) : PlanEdited s (s.withPlan p) where
  table := rfl
  profiles := rfl
  spans law b := by
    rw [show (s.withPlan p).plan = p from rfl, guards]
    exact law.spans b
  regions _ _ law :=
    { active := active law
      staged := staged law
      current := fun i g hg => allows _ _ _ _ (law.current i g hg)
      target := fun i g m hg hm => allows _ _ _ _ (law.target i g m hg hm) }

/-- A plan store that has kept its active plan and its guards. -/
theorem PlanEdited.of_active {s : State} {p : PlanStore} (guards : p.guards = s.plan.guards)
    (active : p.active = s.plan.active) (staged : s.RegionsLawful → ∀ q, p.staged = some q → q.Lawful) :
    PlanEdited s (s.withPlan p) :=
  .of_regions guards (fun law => active ▸ law.active) staged fun _ _ _ _ h => active ▸ h

theorem TableChain.withPlan {s : State} {p : PlanStore} (h : PlanEdited s (s.withPlan p)) : TableChain s (s.withPlan p) :=
  (TableEdit.plan h).chain

theorem Plan.getElem_set (p : Plan) (k : Fin 8) (x : Option Region) (j : Fin 8) :
    (p.set k x)[j] = if j = k then x else p[j] := by
  by_cases e : j = k
  · subst e
    simp
  · have ne : k.val ≠ j.val := fun h => e (Fin.ext h.symm)
    simp [e, ne]

/-- A record written into a lawful plan: absent, or good and clear of the others (R2, R5). -/
theorem Plan.Lawful.set {p : Plan} (h : p.Lawful) {k : Fin 8} {x : Option Region}
    (good : ∀ y, x = some y → bandFirst y.band ≤ y.first ∧ y.first ≤ y.last ∧ y.last ≤ bandLast y.band ∧ y.classes ≠ 0)
    (apart : ∀ y, x = some y → ∀ j z, j ≠ k → p[j] = some z → y.band = z.band → y.last < z.first ∨ z.last < y.first) :
    Plan.Lawful (p.set k x) where
  good j y hy := by
    rw [Plan.getElem_set] at hy
    split at hy
    · exact good y hy
    · exact h.good j y hy
  apart j j' y z ne hy hz hb := by
    rw [Plan.getElem_set] at hy hz
    split at hy
    · rename_i e
      rw [if_neg fun e' => ne (e.trans e'.symm)] at hz
      exact apart y hy j' z (fun e' => ne (e.trans e'.symm)) hz hb
    · rename_i e
      split at hz
      · exact (apart z hz j y e hy hb.symm).symm
      · exact h.apart j j' y z ne hy hz hb

theorem Plan.Lawful.freeze {p : Plan} (h : p.Lawful) (k : Fin 8) (flag : Bool) : (p.freeze k flag).Lawful := by
  refine h.set (fun y hy => ?_) fun y hy j z ne hz hb => ?_
  · obtain ⟨x, hx, rfl⟩ := Option.map_eq_some_iff.1 hy
    exact h.good k x hx
  · obtain ⟨x, hx, rfl⟩ := Option.map_eq_some_iff.1 hy
    exact h.apart k j x z (Ne.symm ne) hx hz hb

theorem Plan.allowsSpan_freeze (p : Plan) (k : Fin 8) (flag : Bool) {b : Band} {start width : Nat} {c : Cls}
    (h : p.allowsSpan b start width c = true) : (p.freeze k flag).allowsSpan b start width c = true := by
  obtain ⟨j, x, hx, hb, first, last, has⟩ := (Plan.allowsSpan_iff ..).1 h
  rw [Plan.allowsSpan_iff]
  by_cases e : j = k
  · subst e
    exact ⟨j, { x with frozen := flag }, by rw [Plan.freeze, Plan.getElem_set, if_pos rfl, hx]; rfl, hb, first, last, has⟩
  · exact ⟨j, x, by rw [Plan.freeze, Plan.getElem_set, if_neg e, hx], hb, first, last, has⟩

theorem presentRecord_good {r : Req} {x : Region} (h : presentRecord r = some x) :
    bandFirst x.band ≤ x.first ∧ x.first ≤ x.last ∧ x.last ≤ bandLast x.band ∧ x.classes ≠ 0 := by
  unfold presentRecord at h
  split at h
  · simp only [Option.ite_none_right_eq_some, Bool.and_eq_true, cellInBand_iff, decide_eq_true_eq, bne_iff_ne,
      Option.some.injEq] at h
    obtain ⟨⟨⟨⟨⟨first, -⟩, -, last⟩, order⟩, classes⟩, rfl⟩ := h
    exact ⟨first, order, last, classes⟩
  · cases h

theorem writtenRecord_good {r : Req} {record : Option Region} (h : writtenRecord r = some record) (y : Region)
    (hy : record = some y) :
    bandFirst y.band ≤ y.first ∧ y.first ≤ y.last ∧ y.last ≤ bandLast y.band ∧ y.classes ≠ 0 := by
  subst hy
  unfold writtenRecord at h
  split at h
  · cases h
  · cases h
  · obtain ⟨x, hx, e⟩ := Option.map_eq_some_iff.1 h
    cases e
    exact presentRecord_good hx

variable (r : Req) (s : State)

theorem TableChain.stageRegion : TableChain s (stageRegion r s).1 := by
  unfold Machine.stageRegion
  split
  · rename_i k record _ written
    refine .managementRequest fun _ => ?_
    split
    · exact .refl s
    · rename_i free
      refine .withPlan (.of_active rfl rfl fun law q hq => ?_)
      cases hq
      have base : s.plan.base.Lawful := by
        unfold PlanStore.base
        cases staged : s.plan.staged with
        | none => exact law.active
        | some q => exact law.staged q staged
      refine base.set (writtenRecord_good written) fun y hy j z ne hz hb => ?_
      subst hy
      have clear : ¬(y.first ≤ z.last ∧ z.first ≤ y.last) := fun e => free ((Plan.clashes_some_iff s.plan.base k y).2 ⟨j, z, ne, hz, hb.symm, e⟩)
      omega
  · exact .refl s

theorem TableChain.discardStaged : TableChain s (discardStaged r s).1 :=
  .managementRequest fun _ => .withPlan (.of_active rfl rfl fun _ q hq => by cases hq)

theorem TableChain.freezeRegion : TableChain s (freezeRegion r s).1 := by
  unfold Machine.freezeRegion
  split
  · rename_i k flag _ _
    refine .managementRequest fun _ => .withPlan (.of_regions rfl (fun law => law.active.freeze k flag)
      (fun law q hq => ?_) fun b start width c h => s.plan.active.allowsSpan_freeze k flag h)
    obtain ⟨p, hp, rfl⟩ := Option.map_eq_some_iff.1 hq
    exact (law.staged p hp).freeze k flag
  · exact .refl s

/-- A list of held spans in which the guard check finds nothing keeps every gap. -/
theorem pairwise_of_firstOffence {m : GuardMatrix} {l : List Held} (h : firstOffence m l = none) :
    l.Pairwise (Held.Keeps m) := by
  induction l with
  | nil => exact .nil
  | cons low rest ih =>
    unfold firstOffence at h
    split at h
    · cases h
    · rename_i none
      refine List.pairwise_cons.2 ⟨fun y hy => (Held.keeps_iff ..).2 ?_, ih h⟩
      simpa using List.find?_eq_none.1 none y hy

/-- The held spans of a band are clear of each other by a new matrix that its guard check admits (R12). -/
theorem State.spans_of_guardConflict {s : State} {m : GuardMatrix} (h : s.guardConflict m = none) (law : s.TableLawful)
    (b : Band) : (s.heldSpans b).Pairwise (Held.Clear m) := by
  have none : firstOffence m (sortHeld (s.heldSpans b)) = none := by
    unfold State.guardConflict at h
    split at h
    · cases h
    · rename_i up
      cases b with
      | up => exact up
      | down => exact h
  have perm := sortHeld_perm (s.heldSpans b)
  have cells : (sortHeld (s.heldSpans b)).Pairwise (Held.Clear s.plan.guards) :=
    perm.symm.pairwise (law.spans b) fun {_ _} e => e.symm
  refine perm.pairwise (((pairwise_of_firstOffence none).and cells).imp fun ⟨keeps, clear⟩ => ⟨clear.1, ?_⟩)
    fun {_ _} e => e.symm
  exact keeps

theorem TableChain.setGuard : TableChain s (setGuard r s).1 := by
  refine .managementRequest fun _ => ?_
  split
  · exact .refl s
  · rename_i free
    exact .withPlan
      { table := rfl, profiles := rfl, spans := State.spans_of_guardConflict free,
        regions := fun _ _ law => ⟨law.active, law.staged, law.current, law.target⟩ }

theorem TableChain.setTenant : TableChain s (setTenant r s).1 := by
  unfold Machine.setTenant
  split
  · refine .managementRequest fun _ => ?_
    split
    · exact .refl s
    · exact .withPlan (.of_active rfl rfl fun law => law.staged)
  · exact .refl s

theorem TableChain.switchStart (old : Settings) (b : Band) : TableChain s (s.switchStart old b) := by
  unfold State.switchStart
  split
  · exact .startRepack s b
  · exact .refl s

theorem TableChain.setPlanSettings : TableChain s (setPlanSettings r s).1 := by
  unfold Machine.setPlanSettings
  split
  · exact .refl s
  · rename_i x _
    have written : TableChain s (s.withPlan { s.plan with settings := x }) :=
      .withPlan (.of_active rfl rfl fun law => law.staged)
    exact .managementRequest fun _ => (written.trans (.switchStart _ _ .up)).trans (.switchStart _ _ .down)

/-! ### The grant table (R31 to R44) -/

variable {r s}

/-- The start that step 13 gives is legal, and a region that allows the class holds the span from it (R36, R37). -/
theorem State.wishStart_spec {w : Wish} {start : Nat} (width : 1 ≤ s.wishWidth w) (region : s.wishRegionOk w = true)
    (placed : s.wishStart w = .ok start) :
    (s.wishSite w).test start = .legal ∧
      s.plan.active.allowsSpan w.band start (s.wishWidth w) w.cls = true := by
  cases hp : w.placement with
  | explicit =>
    obtain ⟨legal, rfl⟩ := (State.wishStart_explicit_eq_ok_iff hp start).1 placed
    exact ⟨legal, (State.wishRegionOk_explicit hp).symm.trans region⟩
  | auto =>
    rw [State.wishStart_auto hp] at placed
    split at placed
    · rename_i found
      cases placed
      obtain ⟨⟨x, hx, first, last⟩, legal, -⟩ := (Site.search_eq_some_iff (x := s.wishSite w) width start).1 found
      obtain ⟨⟨⟨k, hk, -⟩, band, has⟩, -⟩ := (State.mem_wishSearch_iff width x).1 hx
      exact ⟨legal, (Plan.allowsSpan_iff ..).2 ⟨k, x, hk, band, first, last, has⟩⟩
    · cases placed

/-- A new grant is lawful where a tenant may ask for an OPEN one only (R32). -/
theorem newGrant_lawful {p : Port} {w : Wish} (plain : p = .tenant → w.plain = true) (start width holdTime : Nat) :
    (newGrant p w start width holdTime).Lawful where
  moves := by simp [newGrant]
  pins hold := by
    have pinned : w.hold = .pinned := hold
    cases p with
    | management => simp [newGrant, newLease, GrantState.pinnable, pinned]
    | tenant =>
      have opened := ((Wish.plain_iff w).1 (plain rfl)).1
      rw [pinned] at opened
      cases opened

/-- What passes the steps of RESERVE is clear of every held span, on a READY profile, in a region that allows it. -/
theorem Made.of_admission {w : Wish} {i : Fin 64} {start : Nat} (hr : r.tenant < 16) (payload : 1 ≤ w.payload)
    (plain : r.port = .tenant → w.plain = true) (admitted : s.admission r w = .ok (i, start)) :
    Made s (s.grantAdded r w i start) i r.tenant (newGrant r.port w start (s.wishWidth w) s.plan.settings.holdTime) := by
  obtain ⟨-, ready, -, -, region, entry, placed⟩ := State.admission_eq_ok_iff.1 admitted
  obtain ⟨free, -⟩ := State.freeEntryNumber_eq_some_iff.1 entry
  have made := s.grantAdded_made w i start hr
  have width : s.TableLawful → 1 ≤ s.wishWidth w := fun law =>
    Nat.mul_pos payload (law.expansions w.profile (by simp [ready]))
  exact
    { before := free
      after := by rw [State.grant?, State.entry_grantAdded]; rfl
      generation := made.generation
      tenant := made.tenant
      others := made.others
      item := made.item
      otherBand := made.otherBand
      counts := made.counts
      references := s.profile_grantAdded r w i start
      plan := made.rest.1
      ready
      width
      move := rfl
      clear := fun law =>
        State.clearFrom_of_legal (y := s.heldFrom i (newGrant r.port w start (s.wishWidth w) _) false start) law
          (State.wishStart_spec (width law) region placed).1 ⟨rfl, rfl, rfl⟩ _
      allowed := fun law => (State.wishStart_spec (width law) region placed).2
      lawful := newGrant_lawful plain .. }

theorem payload_of_payloadOk {c : Cls} {n : Nat} (h : payloadOk c n = true) : 1 ≤ n := by
  cases c <;> simp only [payloadOk, Bool.and_eq_true, decide_eq_true_eq] at h <;> exact h.1

theorem TableChain.reserve (hr : r.tenant < 16) : TableChain s (reserve r s).1 := by
  unfold Machine.reserve
  split
  · exact .refl s
  · rename_i w _
    split
    · rename_i ok
      have payload := payload_of_payloadOk (Bool.and_eq_true_iff.1 ok).1
      split
      · exact .refl s
      · rename_i plain
        refine .enabledTenant ?_
        split
        · exact .refl s
        · rename_i i start admitted
          have made := Made.of_admission hr payload (fun port => by simpa [port] using plain) admitted
          exact (TableEdit.made made).chain.trans (.refreshFrag _ w.band)
    · exact .refl s

/-- A frame that is a RESERVE has a tenant id (R13, R183). -/
theorem State.tenant_of_rowOf_reserve {src : Source} {f : Frame} (h : s.rowOf src f = .reserve) :
    (requestOf src.port f).tenant < 16 := by
  unfold State.rowOf at h
  split at h
  · cases h
  · split at h
    · cases h
    · rename_i row form
      unfold goodForm at form
      split at form
      · cases form
      · split at form
        · rename_i good
          obtain ⟨-, -, tenant⟩ := good
          have : (headerByte f 2).toNat < 16 := by
            cases p : src.port <;> rw [p] at tenant <;> simp [tenantIdOk] at tenant <;> omega
          exact this
        · cases form

variable (r s)

theorem TableChain.lookup : TableChain s (lookup r s).1 :=
  .ownHandle fun i g _ => by
    unfold answerDone
    dsimp only
    split
    · exact (TableKept.modGrant fun x _ => .news x false).chain
    · exact .refl s

theorem TableKept.clearNews (l : List (Fin 64)) : TableKept s (s.clearNews l) := by
  induction l generalizing s with
  | nil => exact .refl s
  | cons i l ih => exact (TableKept.modGrant fun x _ => .news x false).trans (ih _)

theorem TableChain.readNews : TableChain s (readNews r s).1 := by
  unfold Machine.readNews
  split
  · exact .refl s
  · exact .enabledTenant (TableKept.clearNews s _).chain

end Sys2Proof.Machine
end

section
/-! ## What the other requests do to the grant table, the profiles and the plan -/

namespace Sys2Proof.Machine

theorem TableChain.of_kept {s t : State} (h : TableKept s t) : TableChain s t := h.chain

/-- A change beside the table, the profiles and the plan. -/
theorem TableChain.of_table {s t : State} (table : t.table = s.table) (profiles : t.profiles = s.profiles)
    (plan : t.plan = s.plan) : TableChain s t := (TableKept.of_table table profiles plan).chain

theorem TableChain.done {s t : State} {payload : List Byte} (h : TableChain s t) :
    TableChain s (answerDone t payload).1 := h

theorem TableChain.accepted {s t : State} {payload : List Byte} (h : TableChain s t) :
    TableChain s (answerAccepted t payload).1 := h

section Handlers

variable (r : Req) (s : State)

/-! ### Lives and protection of grants (R51 to R61, R78 to R86) -/

theorem State.activation_reserved {s : State} {g : Grant} {j : SlotId} (h : s.activation g = .ok j) :
    g.state = .reserved := by
  unfold State.activation at h
  split at h
  · cases h
  · rename_i reserved
    exact not_not.1 reserved

theorem TableChain.activate : TableChain s (activate r s).1 :=
  .ownHandle fun i g hg => by
    split
    · exact .refl s
    · rename_i j ok
      exact (TableKept.beginActivation s hg (State.activation_reserved ok) j r.byTenant).chain

/-- A change of a grant that is not PINNED, in what the law of PINNED grants reads, to a hold class that is not PINNED. -/
theorem Grant.Keeps.of_loose {g g' : Grant}
    (fixture : g'.cls = g.cls ∧ g'.band = g.band ∧ g'.start = g.start ∧ g'.width = g.width ∧ g'.profile = g.profile)
    (state : g'.state = g.state) (move : g'.move = g.move) (loose : g'.hold ≠ .pinned) : g.Keeps g' := by
  obtain ⟨cls, band, start, width, profile⟩ := fixture
  refine ⟨cls, band, start, width, profile, fun m hm => ⟨m, move ▸ hm, rfl⟩, fun h => ⟨?_, fun hp => absurd hp loose⟩⟩
  rw [state, move]
  exact h.moves

/-- A change of the grant that an entry holds. -/
theorem TableChain.modHeld {s : State} {i : Fin 64} {g : Grant} (hg : s.grant? i = some g) {f : Grant → Grant}
    (keeps : g.Keeps (f g)) : TableChain s (s.modGrant i f) :=
  (TableKept.modGrant fun x hx => by
    obtain rfl : g = x := Option.some.inj (hg.symm.trans hx)
    exact keeps).chain

theorem TableChain.renew : TableChain s (renew r s).1 :=
  .ownHandle fun i g hg => by
    split
    · exact .refl s
    · split
      · exact .refl s
      · rename_i loose
        exact .modHeld hg (.of_loose ⟨rfl, rfl, rfl, rfl, rfl⟩ rfl rfl loose)

theorem State.endedReply_fst (s : State) (i : Fin 64) : (s.endedReply i).1 = s := by
  unfold State.endedReply
  dsimp only
  split <;> rfl

theorem TableChain.ended {s : State} {i : Fin 64} {g : Grant} (hg : s.grant? i = some g) (loose : g.hold ≠ .pinned)
    (o : LastOutcome) (byTenant cut : Bool) : TableChain s ((s.endGrant i o byTenant cut).endedReply i).1 := by
  rw [State.endedReply_fst]
  refine .endGrant s o byTenant cut fun x hx hp => ?_
  obtain rfl : g = x := Option.some.inj (hg.symm.trans hx)
  exact absurd hp loose

theorem TableChain.withdraw : TableChain s (withdraw r s).1 :=
  .ownHandle fun i g hg => by
    split
    · exact .refl s
    · split
      · exact .refl s
      · rename_i loose
        split
        · exact .refl s
        · exact .ended hg loose ..

theorem TableChain.revoke : TableChain s (revoke r s).1 := by
  unfold Machine.revoke
  split
  · exact .refl s
  · refine .managementHandle fun i g hg => ?_
    split
    · exact .refl s
    · split
      · exact .refl s
      · rename_i loose
        exact .ended hg loose ..

theorem TableChain.hold : TableChain s (hold r s).1 :=
  .managementHandle fun i g hg => by
    split
    · exact .refl s
    · exact .modHeld hg (.of_loose ⟨rfl, rfl, rfl, rfl, rfl⟩ rfl rfl (by simp))

theorem TableChain.unhold : TableChain s (unhold r s).1 :=
  .managementHandle fun i g hg => by
    split
    · exact .refl s
    · exact .modHeld hg (.of_loose ⟨rfl, rfl, rfl, rfl, rfl⟩ rfl rfl (by simp))

theorem Grant.Keeps.pinned {g : Grant} (h : g.state.pinnable = true) : g.Keeps g.pinned :=
  ⟨rfl, rfl, rfl, rfl, rfl, fun m hm => ⟨m, hm, rfl⟩, fun law => ⟨law.moves, fun _ => ⟨h, rfl, rfl⟩⟩⟩

theorem TableChain.pin : TableChain s (pin r s).1 :=
  .managementHandle fun i g hg => by
    split
    · exact .refl s
    · rename_i pinnable
      split
      · exact .refl s
      · exact .modHeld hg (.pinned (by simpa using pinnable))

theorem TableKept.setPlanFrozen (frozen : Bool) : TableKept s (s.setPlanFrozen frozen) := .of_entries rfl rfl rfl rfl rfl

theorem TableChain.freezePlan : TableChain s (freezePlan r s).1 := by
  unfold Machine.freezePlan
  split
  · exact .refl s
  · refine .managementRequest fun _ => ?_
    unfold answerDone
    dsimp only
    split
    · exact ((TableKept.setPlanFrozen s true).trans (.stopRepack _)).chain
    · exact (TableKept.setPlanFrozen s false).chain

/-! ### Profiles (R93 to R96) -/

theorem State.profile_setProfile (k : Fin 8) (p : Profile) (j : Fin 8) :
    (s.setProfile k p).profile j = if k = j then p else s.profile j := by
  by_cases e : k = j
  · subst e
    simp [State.setProfile, State.profile]
  · have ne : k.val ≠ j.val := fun h => e (Fin.ext h)
    simp [State.setProfile, State.profile, ne, e]

theorem Profile.Keeps.refl (p : Profile) : p.Keeps p := ⟨rfl, fun _ => ⟨rfl, id⟩, id⟩

theorem TableChain.setProfile {s : State} {k : Fin 8} {p : Profile} (h : (s.profile k).Keeps p) :
    TableChain s (s.setProfile k p) := by
  refine (TableEdit.profiles (s := s) (t := s.setProfile k p) ⟨rfl, rfl, fun j => ?_⟩).chain
  rw [State.profile_setProfile]
  split
  · rename_i e
    exact e ▸ h
  · exact .refl _

theorem writtenProfile_expansion {r : Req} {order : ModOrder} {n edge : Nat} {classes : ClassSet}
    (h : writtenProfile r = some (order, n, edge, classes)) : 1 ≤ n := by
  unfold writtenProfile at h
  split at h
  · simp only [Option.ite_none_right_eq_some, Bool.and_eq_true, Bool.or_eq_true, beq_iff_eq, Option.some.injEq,
      Prod.mk.injEq] at h
    obtain ⟨⟨⟨range, -⟩, -⟩, -, rfl, -⟩ := h
    omega
  · cases h

theorem TableChain.writeProfile : TableChain s (writeProfile r s).1 := by
  unfold Machine.writeProfile
  split
  · rename_i k order n edge classes _ written
    refine .managementRequest fun _ => ?_
    split
    · exact .refl s
    · rename_i unused
      refine .setProfile ⟨rfl, fun used => absurd used unused, fun _ => ⟨fun _ => writtenProfile_expansion written, ?_, ?_⟩⟩
      · simp
      · rintro _ ⟨⟩
        decide
  · exact .refl s

theorem TableChain.clearProfile : TableChain s (clearProfile r s).1 := by
  unfold Machine.clearProfile
  split
  · exact .refl s
  · refine .managementRequest fun _ => ?_
    split
    · exact .refl s
    · rename_i unused
      refine .setProfile ⟨(not_not.1 unused).symm, fun used => absurd used unused, fun _ => ⟨?_, ?_, ?_⟩⟩ <;>
        simp [Profile.cleared]

/-! ### Levels and budgets (R127 to R131) -/

theorem TableChain.relevel {i : Fin 64} {g : Grant} {f : Grant → Grant} (keeps : ∀ g : Grant, g.Keeps (f g)) :
    TableChain s (s.relevel i g f).1 := by
  unfold State.relevel
  dsimp only
  split
  · exact .refl s
  · exact .done (.of_kept ((TableKept.applyGrants s i keeps).trans (.noteLoad ..)))

theorem TableChain.setLevel : TableChain s (setLevel r s).1 :=
  .ownHandle fun i g _ => by
    split
    · exact .refl s
    · exact .relevel s fun x => .of_same ⟨rfl, rfl, rfl, rfl, rfl⟩ ⟨rfl, rfl, rfl, rfl, rfl⟩

theorem TableChain.assignGroup : TableChain s (assignGroup r s).1 := by
  unfold Machine.assignGroup
  split
  · exact .refl s
  · exact .managementHandle fun i g _ =>
      .relevel s fun x => .of_same ⟨rfl, rfl, rfl, rfl, rfl⟩ ⟨rfl, rfl, rfl, rfl, rfl⟩

theorem TableChain.setGroup : TableChain s (setGroup r s).1 := by
  unfold Machine.setGroup
  split
  · exact .refl s
  · rename_i unit _
    refine .managementRequest fun _ => ?_
    have written : TableKept s { s with levels := unit } := .of_table rfl rfl rfl
    dsimp only
    split
    · exact .refl s
    · exact .done (.of_kept ((written.trans (.applyLevels ..)).trans (.noteLoad ..)))

theorem TableChain.setBudget : TableChain s (setBudget r s).1 := by
  unfold Machine.setBudget
  split
  · exact .refl s
  · rename_i b _
    have written : TableKept s (s.setBudget b (r.word 1)) := .of_table rfl rfl rfl
    refine .managementRequest fun _ => ?_
    split
    · exact .refl s
    · unfold answerDone
      dsimp only
      split
      · exact (written.trans (.loadDecreased _)).chain
      · exact written.chain

/-! ### Moves (R137 to R141, R151, R156, R160) -/

theorem State.mem_openCandidates_iff (g : Grant) (x : Region) :
    x ∈ s.openCandidates g ↔
      (∃ k : Fin 8, s.plan.active[k] = some x ∧ x.band = g.band ∧ x.classes.has g.cls = true) ∧ x.frozen = false := by
  simp only [State.openCandidates, List.mem_filter, Plan.mem_candidates_iff, Bool.not_eq_true']

/-- The AUTO target of a grant is legal and lies in a region that allows its class (R139). -/
theorem State.autoTarget_spec {s : State} {i : Fin 64} {g : Grant} (hg : s.grant? i = some g) {start : Nat}
    (h : s.autoTarget g = some start) :
    (s.moveSite g).test start = .legal ∧
      (s.TableLawful → s.plan.active.allowsSpan g.band start g.width g.cls = true) := by
  refine ⟨(Site.search_spec h).1, fun law => ?_⟩
  have width : 1 ≤ (s.moveSite g).width := law.widths i g hg
  obtain ⟨⟨x, hx, first, last⟩, -⟩ := (Site.search_eq_some_iff width start).1 h
  obtain ⟨⟨k, hk, band, has⟩, -⟩ := (s.mem_openCandidates_iff g x).1 hx
  exact (Plan.allowsSpan_iff ..).2 ⟨k, x, hk, band, first, last, has⟩

theorem State.moveTarget_spec {s : State} {i : Fin 64} {g : Grant} (hg : s.grant? i = some g) {target : Option Nat}
    {start : Nat} (h : s.moveTarget g target = .ok start) :
    (s.moveSite g).test start = .legal ∧
      (s.TableLawful → s.plan.active.allowsSpan g.band start g.width g.cls = true) := by
  unfold State.moveTarget at h
  split at h
  · rename_i n
    split at h
    · cases h
    · rename_i allowed
      split at h
      · rename_i legal
        cases h
        exact ⟨legal, fun _ => by simpa using allowed⟩
      · cases h
  · split at h
    · split at h
      · rename_i n found
        cases h
        exact State.autoTarget_spec hg found
      · cases h
    · cases h

/-- A MOVE that passes step 13 names a grant that is not PINNED, and has the target of that step (R137). -/
theorem State.moveChecks_spec {s : State} {g : Grant} {target : Option Nat} {start : Nat}
    (h : s.moveChecks r g target = .ok start) : g.hold ≠ .pinned ∧ s.moveTarget g target = .ok start := by
  unfold State.moveChecks at h
  split at h
  · cases h
  · split at h
    · cases h
    · rename_i loose
      split at h
      · cases h
      · split at h
        · cases h
        · exact ⟨loose, h⟩

theorem TableChain.move : TableChain s (move r s).1 := by
  unfold Machine.move
  split
  · rename_i target kind _ _
    refine .ownHandle fun i g hg => ?_
    split
    · exact .refl s
    · rename_i start passed
      obtain ⟨loose, found⟩ := State.moveChecks_spec r passed
      obtain ⟨legal, allowed⟩ := State.moveTarget_spec hg found
      have allows := fun (law : s.TableLawful) (_ : s.RegionsLawful) => allowed law
      unfold State.carryOutMove
      split
      · exact .done ((TableEdit.respanned (.moveReserved hg legal allows r.byTenant)).chain.trans (.refreshFrag ..))
      · split
        · exact .refl s
        · rename_i p _
          obtain ⟨_, began⟩ := Respanned.beginMove hg loose legal allows p.kind .request p.slot r.byTenant
          exact .accepted ((TableEdit.respanned began).chain.trans (.refreshFrag ..))
  · exact .refl s

theorem TableChain.repack : TableChain s (repack r s).1 := by
  unfold Machine.repack
  split
  · exact .refl s
  · refine .managementRequest fun _ => ?_
    split
    · exact .refl s
    · split
      · exact .refl s
      · exact .startRepack ..

theorem TableChain.stopRepack : TableChain s (stopRepack r s).1 :=
  .managementRequest fun _ => (TableKept.stopRepack s).chain

theorem TableChain.autoMove {i : Fin 64} {g : Grant} (hg : s.grant? i = some g) (loose : g.hold ≠ .pinned) :
    TableChain s (s.autoMove i g) := by
  unfold State.autoMove
  split
  · exact ((TableKept.setOutcome s i .noTarget).trans (.modGrant fun x _ => .news x true)).chain
  · rename_i start found
    split
    · exact .refl s
    · rename_i p _
      obtain ⟨legal, allowed⟩ := State.autoTarget_spec hg found
      obtain ⟨_, began⟩ := Respanned.beginMove hg loose legal (fun law _ => allowed law) p.kind .auto p.slot false
      exact (TableEdit.respanned began).chain.trans (.refreshFrag ..)

theorem State.loose_of_askForbidden {s : State} {a : Ask} {g : Grant} (h : s.askForbidden a g = false) :
    g.hold ≠ .pinned := by
  intro pinned
  simp [State.askForbidden, pinned] at h

theorem TableChain.takeAsk : TableChain s s.takeAsk := by
  unfold State.takeAsk
  split
  · exact .refl s
  · rename_i a rest _
    have taken : TableChain s { s with engine := { s.engine with asks := rest } } := .of_table rfl rfl rfl
    dsimp only
    split
    · exact taken
    · rename_i g hg
      split
      · exact taken
      · rename_i permitted
        exact taken.trans (.autoMove _ (State.grantOf_some hg).1 (State.loose_of_askForbidden (by simpa using permitted)))

/-! ### The monitor's requests (R166 to R175), and those of the ports (R186) -/

theorem TableChain.setWatch : TableChain s (setWatch r s).1 := by
  unfold Machine.setWatch
  split
  · exact .refl s
  · rename_i n _
    split
    · exact .refl s
    · refine .managementRequest fun _ => ?_
      split
      · exact .refl s
      · split
        · exact .refl s
        · exact .done (.of_kept ((TableKept.emptyPosition s n).trans (.of_table (by simp) (by simp) (by simp))))

theorem TableChain.clearWatch : TableChain s (clearWatch r s).1 := by
  unfold Machine.clearWatch
  split
  · exact .refl s
  · refine .managementRequest fun _ => ?_
    split
    · exact .refl s
    · exact (TableKept.emptyPosition s _).chain

theorem TableChain.setSweep : TableChain s (setSweep r s).1 := by
  unfold Machine.setSweep
  split
  · exact .refl s
  · exact .managementRequest fun _ => .done (.of_table (by simp) (by simp) (by simp))

theorem TableChain.sweep : TableChain s (sweep r s).1 := by
  refine .managementRequest fun _ => ?_
  split
  · exact .refl s
  · exact .accepted (.of_table (by simp) (by simp) (by simp))

theorem TableChain.clearHits : TableChain s (clearHits r s).1 :=
  .managementRequest fun _ => .done (.of_table rfl rfl rfl)

theorem TableChain.readEvents : TableChain s (readEvents r s).1 :=
  .managementRequest fun _ => .done (.of_table rfl rfl rfl)

theorem TableChain.setEventMask : TableChain s (setEventMask r s).1 :=
  .managementRequest fun _ => .done (.of_table rfl rfl rfl)

end Handlers

end Sys2Proof.Machine
end

section
/-! ## What a step does to the grant table, the profiles and the plan -/

namespace Sys2Proof.Machine

variable (s : State)

/-! ### RESTART (R8, R45, R190) -/

@[simp] theorem State.haltSlots_plan (l : List SlotId) : (s.haltSlots l).plan = s.plan := by
  induction l generalizing s with
  | nil => rfl
  | cons j l ih => rw [State.haltSlots, ih, State.haltSlot_plan]

theorem TableChain.restartEntry (i : Fin 64) : TableChain s (s.restartEntry i) := by
  rcases s.restartEntry_cases i with ⟨-, e⟩ | ⟨g, -, -, e⟩ | ⟨g, -, -, e⟩
  · rw [e]
    exact .refl s
  · rw [e]
    exact .of_kept (.modGrant fun x _ => .news x false)
  · rw [e]
    have halted : TableKept s (s.haltSlots (slotsOf g)) := .of_table (by simp) (by simp) (by simp)
    have ready : TableKept s (s.readyToFree i g) := halted.trans (.setOutcome _ i .revoked)
    exact ready.chain.trans (TableEdit.freed _ i).chain

theorem TableChain.restartEntries (l : List (Fin 64)) : TableChain s (s.restartEntries l) := by
  induction l generalizing s with
  | nil => exact .refl s
  | cons i l ih => exact (TableChain.restartEntry s i).trans (ih _)

theorem TableChain.grantsRestarted : TableChain s s.grantsRestarted :=
  have engine : TableChain s s.restartEngine := .of_table rfl rfl rfl
  engine.trans (TableChain.restartEntries s.restartEngine entryNumbers)

/-- Every grant that is left when the load of a restart is noted is PINNED (R45). -/
theorem State.pinned_of_restarted {i : Fin 64} {g : Grant} (hg : (noteLoad s s.grantsRestarted).grant? i = some g) :
    g.hold = .pinned := by
  obtain ⟨n, e⟩ := noteLoad_sameButLoads s s.grantsRestarted i
  rw [State.grant?, e] at hg
  dsimp only at hg
  obtain ⟨x, hx, rfl⟩ := Option.map_eq_some_iff.1 hg
  rw [State.grant_grantsRestarted, Option.map_eq_some_iff] at hx
  obtain ⟨y, hy, rfl⟩ := hx
  simpa using (Option.filter_eq_some_iff.1 hy).2

/-- The decision on the staged plan, where every grant is PINNED and so has no target (R8). -/
theorem PlanEdited.decided {s : State} (pinned : ∀ i g, s.grant? i = some g → g.hold = .pinned) :
    PlanEdited s (s.withPlan (s.plan.decided s.decidePlan)) where
  table := rfl
  profiles := rfl
  spans law b := by
    have guards : (s.plan.decided s.decidePlan).guards = s.plan.guards := by cases s.decidePlan <;> rfl
    rw [show (s.withPlan (s.plan.decided s.decidePlan)).plan = s.plan.decided s.decidePlan from rfl, guards]
    exact law.spans b
  regions grants _ law := by
    have noTarget : ∀ i g m, s.grant? i = some g → g.move = some m → False := fun i g m hg hm => by
      have := (grants i g hg).pinned_move (pinned i g hg)
      rw [hm] at this
      cases this
    have kept : ∀ p : PlanStore, p.active = s.plan.active → p.staged = none → (s.withPlan p).RegionsLawful :=
      fun p active staged =>
        { active := by
            show p.active.Lawful
            rw [active]
            exact law.active
          staged := fun q hq => by
            rw [show (s.withPlan p).plan.staged = p.staged from rfl, staged] at hq
            cases hq
          current := fun i g hg => by
            show p.active.allowsSpan _ _ _ _ = true
            rw [active]
            exact law.current i g hg
          target := fun i g m hg hm => (noTarget i g m hg hm).elim }
    unfold State.decidePlan
    cases staged : s.plan.staged with
    | none => exact kept _ rfl rfl
    | some q =>
      dsimp only
      split
      · rename_i holds
        have active : (s.plan.decided .applied).active = q := by simp [PlanStore.decided, staged]
        refine ⟨?_, fun p hp => (by cases hp), fun i g hg => ?_, fun i g m hg hm => (noTarget i g m hg hm).elim⟩
        · exact (congrArg Plan.Lawful active).mpr (law.staged q staged)
        · rw [State.planHolds_eq, List.all_eq_true] at holds
          have allowed := holds i (mem_entryNumbers i)
          rw [show s.grant? i = some g from hg] at allowed
          exact (congrArg (fun p : Plan => p.allowsSpan g.band g.start g.width g.cls = true) active).mpr allowed
      · exact kept _ rfl rfl

theorem TableChain.restartBlocks : TableChain s s.restartBlocks := by
  rw [State.restartBlocks_eq]
  have loaded := (TableChain.grantsRestarted s).trans (.of_kept (.noteLoad s _))
  have decided := loaded.trans (.withPlan (.decided fun i g hg => s.pinned_of_restarted hg))
  exact decided.trans (.of_table (State.resetFrag_table _) (State.resetFrag_profiles _) (State.resetFrag_plan _))

theorem TableChain.restarted : TableChain s s.restarted := by
  refine (TableChain.restartBlocks s).trans (.of_table ?_ ?_ ?_) <;> simp [State.restarted]

theorem TableChain.warmRestart : TableChain s s.warmRestart.1 := by
  rw [State.warmRestart_eq]
  exact (TableChain.restarted s).trans (.of_table (by simp) (by simp) (by simp))

theorem TableChain.restart (r : Req) : TableChain s (restart r s).1 :=
  .managementRequest fun _ => .done (TableChain.warmRestart s)

/-! ### Transactions (R182) -/

theorem TableKept.setPort (p : Port) (x : PortState) : TableKept s (s.setPort p x) :=
  .of_table (by simp) (by simp) (by simp)

theorem TableKept.storeFrame (p : Port) (f : Frame) (claim : Progress) : TableKept s (s.storeFrame p f claim) := by
  cases claim with
  | selected => exact .refl s
  | nothing => exact .refl s
  | prioritySlot => exact .of_table rfl rfl rfl
  | queuePlace =>
    unfold State.storeFrame
    dsimp only
    split
    · exact .setPort ..
    · exact .refl s

theorem TableKept.endWrite (p : Port) (f : Frame) : TableKept s (s.endWrite p f) := by
  unfold State.endWrite
  split
  · exact .refl s
  · exact .setPort ..
  · exact (TableKept.of_table (by simp) (by simp) (by simp)).trans (.storeFrame ..)

theorem TableKept.release (p : Port) (f : Frame) : TableKept s (s.release p f) := by
  unfold State.release
  split
  · exact .setPort ..
  · exact .endWrite ..

variable {s}

theorem TableKept.transaction {p : Port} {n : Nat} {run : State} (h : TableKept s run) :
    TableKept s (s.transaction p n run) := by
  unfold State.transaction
  split
  · exact .refl s
  · split
    · exact .setPort ..
    · exact h

theorem TableKept.afterSelect {p : Port} {n : Nat} {run : State} (h : TableKept s run) :
    TableKept s (s.afterSelect p n run) := by
  unfold State.afterSelect
  split
  · exact .setPort ..
  · split
    · exact h
    · exact .refl s

theorem TableKept.read {p : Port} {run : Nat → State → State} (h : ∀ n s, TableKept s (run n s)) (part : ReadPart) :
    TableKept s (s.read p run part) := by
  have selected : TableKept s (s.select p) := .setPort ..
  cases part with
  | whole n => exact .transaction (selected.trans (h n _))
  | select => exact .transaction selected
  | rest n => exact .afterSelect (h n s)
  | release => exact .release ..

variable (s)

theorem TableKept.write (p : Port) (priority : Bool) (part : WritePart) : TableKept s (s.write p priority part) := by
  have selected : TableKept s (s.select p) := .setPort ..
  have claimed : ∀ t : State, TableKept t (t.startWrite p priority) := fun t => .setPort ..
  cases part with
  | whole f => exact .transaction ((selected.trans (claimed _)).trans (.endWrite ..))
  | select => exact .transaction selected
  | command => exact .afterSelect (claimed s)
  | finish f => exact .release ..

theorem TableKept.readOldest (p : Port) (n : Nat) : TableKept s (s.readOldest p n) := by
  unfold State.readOldest
  split
  · exact .setPort ..
  · exact .of_table (by simp [State.returns]) (by simp [State.returns]) (by simp [State.returns])

theorem TableKept.readCounts (p : Port) (n : Nat) : TableKept s (s.readCounts p n) :=
  .of_table (by simp [State.readCounts, State.returns]) (by simp [State.readCounts, State.returns])
    (by simp [State.readCounts, State.returns])

/-! ### What arrives from outside, and the timers -/

theorem TableChain.whileRunning {run : State} (h : TableChain s run) : TableChain s (s.whileRunning run) := by
  unfold State.whileRunning
  split
  · exact .refl s
  · exact h

theorem TableChain.onSlot (b : Band) (n : Nat) {run : SlotId → State} (h : ∀ j, TableChain s (run j)) :
    TableChain s (s.onSlot b n run) := by
  unfold State.onSlot
  split
  · exact .refl s
  · exact .whileRunning s (h _)

theorem TableChain.onGrant (i : Fin 64) {run : Grant → State} (h : ∀ g, s.grant? i = some g → TableChain s (run g)) :
    TableChain s (s.onGrant i run) := by
  unfold State.onGrant
  split
  · exact .refl s
  · rename_i g hg
    exact .whileRunning s (h g hg)

theorem TableChain.lockedOn (j : SlotId) : TableChain s (s.lockedOn j) := by
  unfold State.lockedOn
  split
  · exact .attemptLocks ..
  all_goals exact .refl s

theorem TableChain.failedOn (j : SlotId) : TableChain s (s.failedOn j) := by
  unfold State.failedOn
  split
  · exact .attemptFails ..
  all_goals exact .refl s

theorem TableChain.lostOn (j : SlotId) : TableChain s (s.lostOn j) := by
  unfold State.lostOn
  split
  · exact .attemptFails ..
  · exact .lossOfLock ..
  all_goals exact .refl s

theorem TableKept.takeReading (tag value : Byte) : TableKept s (s.takeReading tag value) := by
  unfold State.takeReading
  split
  · exact .refl s
  · rename_i x _
    split
    · have ended : TableKept s (s.withMonitor fun m => { m with inFlight := none }) := .of_table rfl rfl rfl
      have acted : TableKept s
          (if x.void then s.withMonitor fun m => { m with inFlight := none }
           else (s.withMonitor fun m => { m with inFlight := none }).actOn x.position value) := by
        split
        · exact ended
        · exact ended.trans (.actOn ..)
      exact acted.trans (.of_table (by simp) (by simp) (by simp))
    · exact .refl s

theorem TableKept.takePilot (p : Byte) : TableKept s (s.takePilot p) := by
  have read : TableKept s (s.setReading p) := .of_table rfl rfl rfl
  unfold State.takePilot
  exact (read.trans (.trackPilot _)).trans (.of_table (by simp) (by simp) (by simp))

theorem TableKept.senseElapsed : TableKept s s.senseElapsed := by
  unfold State.senseElapsed
  split
  · exact .refl s
  · exact .of_table (by simp) (by simp) (by simp)

theorem Profile.Keeps.settled {p : Profile} (h : p.state = .settling) : p.Keeps p.settled where
  references := rfl
  used _ := ⟨rfl, fun _ => rfl⟩
  lawful law := ⟨fun _ => law.expansion (by simp [h]), by simp [Profile.settled], by simp [Profile.settled]⟩

/-! ### One millisecond -/

/-- A grant that keeps all but its timers, and has no lease or hold time that was not there. -/
theorem Grant.Keeps.of_timers {g g' : Grant}
    (fixture : g'.cls = g.cls ∧ g'.band = g.band ∧ g'.start = g.start ∧ g'.width = g.width ∧ g'.profile = g.profile)
    (life : g'.state = g.state ∧ g'.move = g.move ∧ g'.hold = g.hold) (lease : g.lease = none → g'.lease = none)
    (holdTime : g.holdTime = none → g'.holdTime = none) : g.Keeps g' := by
  obtain ⟨cls, band, start, width, profile⟩ := fixture
  obtain ⟨state, move, hold⟩ := life
  refine ⟨cls, band, start, width, profile, fun m hm => ⟨m, move ▸ hm, rfl⟩, fun law => ⟨?_, fun hp => ?_⟩⟩
  · rw [state, move]
    exact law.moves
  · obtain ⟨pinnable, noLease, noHold⟩ := law.pins (hold ▸ hp)
    exact ⟨state ▸ pinnable, lease noLease, holdTime noHold⟩

/-- The lease of a grant after a millisecond. -/
def Grant.leaseTicked (g : Grant) : Grant :=
  match g.lease with
  | some n =>
    if g.leaseRuns then { g with lease := some (secondsTick n g.leaseMs).1, leaseMs := (secondsTick n g.leaseMs).2 }
    else g
  | none => g

/-- The hold time of a grant after a millisecond. -/
def Grant.holdTicked (g : Grant) : Grant :=
  match g.holdTime with
  | some n =>
    if g.holdRuns then { g with holdTime := some (secondsTick n g.holdMs).1, holdMs := (secondsTick n g.holdMs).2 }
    else g
  | none => g

theorem Grant.tick_eq (g : Grant) :
    g.tick = { g.leaseTicked.holdTicked with phaseTimer := g.leaseTicked.holdTicked.phaseTimer.map (· - 1) } := rfl

theorem Grant.Keeps.leaseTicked (g : Grant) : g.Keeps g.leaseTicked := by
  unfold Grant.leaseTicked
  split
  · rename_i n hn
    split
    · exact .of_timers ⟨rfl, rfl, rfl, rfl, rfl⟩ ⟨rfl, rfl, rfl⟩ (by simp [hn]) id
    · exact .refl g
  · exact .refl g

theorem Grant.Keeps.holdTicked (g : Grant) : g.Keeps g.holdTicked := by
  unfold Grant.holdTicked
  split
  · rename_i n hn
    split
    · exact .of_timers ⟨rfl, rfl, rfl, rfl, rfl⟩ ⟨rfl, rfl, rfl⟩ id (by simp [hn])
    · exact .refl g
  · exact .refl g

theorem Grant.Keeps.tick (g : Grant) : g.Keeps g.tick := by
  rw [Grant.tick_eq]
  exact ((Grant.Keeps.leaseTicked g).trans (.holdTicked _)).trans
    (.of_timers ⟨rfl, rfl, rfl, rfl, rfl⟩ ⟨rfl, rfl, rfl⟩ id id)

theorem Profile.Keeps.tick (p : Profile) : p.Keeps p.tick := by
  unfold Profile.tick
  split
  · exact .refl p
  · rename_i n hn
    split
    · rename_i more
      refine ⟨rfl, fun _ => ⟨rfl, id⟩, fun law => ⟨law.expansion, law.settling.trans (by simp [hn]), ?_⟩⟩
      rintro _ ⟨⟩
      have := law.settle n hn
      omega
    · exact ⟨rfl, fun _ => ⟨rfl, id⟩, fun law => ⟨law.expansion, law.settling, law.settle⟩⟩

theorem State.entry_tick (i : Fin 64) : s.tick.entry i = (s.entry i).tick := by
  simp [State.entry, State.tick]

theorem Entry.Keeps.tick (e : Entry) : e.Keeps e.tick := by
  refine ⟨rfl, rfl, ?_⟩
  unfold Entry.tick
  cases e.grant with
  | none => exact .none
  | some g => exact .some (.tick g)

/-- The profiles after a millisecond, and nothing else of it. -/
def State.profilesTicked (s : State) : State := { s with profiles := Vector.ofFn fun k => (s.profile k).tick }

theorem State.profile_profilesTicked (k : Fin 8) : s.profilesTicked.profile k = (s.profile k).tick := by
  simp [State.profilesTicked, State.profile]

theorem State.entry_profilesTicked (i : Fin 64) : s.profilesTicked.entry i = s.entry i :=
  State.entry_congr (by simp only [State.profilesTicked]) i

theorem ProfilesEdited.tick : ProfilesEdited s s.profilesTicked where
  table := by simp only [State.profilesTicked]
  plan := by simp only [State.profilesTicked]
  profile k := by
    rw [State.profile_profilesTicked]
    exact .tick _

theorem TableKept.tick : TableKept s.profilesTicked s.tick where
  entries i := by
    rw [State.entry_tick, State.entry_profilesTicked]
    exact .tick _
  occupancy := by simp only [State.tick, State.profilesTicked]
  counts := by simp only [State.tick, State.profilesTicked]
  profiles := by simp only [State.tick, State.profilesTicked]
  plan := by simp only [State.tick, State.profilesTicked]

theorem TableChain.tick : TableChain s s.tick := (TableEdit.profiles (.tick s)).chain.trans (TableKept.tick s).chain

end Sys2Proof.Machine
end

section
/-! ## The laws of moves and PINNED grants, of the table and of regions are kept by every step -/

namespace Sys2Proof.Machine

/-! ### Requests that only read -/

section Readers

variable (r : Req) (s : State)

theorem TableChain.readRegion : TableChain s (readRegion r s).1 := by
  unfold Machine.readRegion
  split
  · exact .managementRequest fun _ => .done (.refl s)
  · exact .refl s

theorem TableChain.readTenant : TableChain s (readTenant r s).1 := by
  unfold Machine.readTenant
  split
  · exact .refl s
  · exact .managementRequest fun _ => .done (.refl s)

theorem TableChain.find : TableChain s (find r s).1 := by
  unfold Machine.find
  split
  · exact .refl s
  · split
    · exact .enabledTenant (.done (.refl s))
    · exact .refl s

theorem TableChain.listOwn : TableChain s (listOwn r s).1 := by
  unfold Machine.listOwn
  split
  · exact .enabledTenant (.done (.refl s))
  · exact .refl s

theorem TableChain.listBand : TableChain s (listBand r s).1 := by
  unfold Machine.listBand
  split
  · exact .refl s
  · exact .managementRequest fun _ => .done (.refl s)

theorem TableChain.readProfile : TableChain s (readProfile r s).1 := by
  unfold Machine.readProfile
  split
  · exact .refl s
  · exact .managementRequest fun _ => .done (.refl s)

theorem TableChain.readSlot : TableChain s (readSlot r s).1 := by
  unfold Machine.readSlot
  split
  · exact .refl s
  · exact .managementRequest fun _ => .done (.refl s)

theorem TableChain.readWatch : TableChain s (readWatch r s).1 := by
  unfold Machine.readWatch
  split
  · exact .refl s
  · exact .managementRequest fun _ => .done (.refl s)

end Readers

/-! ### The expiries (R50, R57, R64, R66, R95, R171) -/

section Expiries

variable (s : State)

theorem TableChain.holdExpiry (i : Fin 64) :
    TableChain s (s.onGrant i fun g => if g.holdRuns then (s.setOutcome i .lapsed).freeByTimer i g else s) :=
  .onGrant s i fun g _ => by
    split
    · exact (TableKept.setOutcome s i .lapsed).chain.trans (.freeByTimer ..)
    · exact .refl s

theorem TableChain.leaseExpiry (i : Fin 64) :
    TableChain s (s.onGrant i fun g =>
      if g.leaseRuns then (s.endGrant i .expired false false).raise .leaseExpired else s) :=
  .onGrant s i fun g hg => by
    split
    · rename_i runs
      have leased : ∀ x, s.grant? i = some x → x.hold = .pinned → x.lease.isSome = true := fun x hx _ => by
        obtain rfl : g = x := Option.some.inj (hg.symm.trans hx)
        exact (Bool.and_eq_true_iff.1 runs).2
      exact (TableChain.endGrant s .expired false false leased).trans (.of_table rfl rfl rfl)
    · exact .refl s

theorem TableChain.drainExpiry (i : Fin 64) :
    TableChain s (s.onGrant i fun g => if g.state = .draining then s.endDrain i g else s) :=
  .onGrant s i fun g hg => by
    split
    · rename_i draining
      exact .endDrain s hg draining
    · exact .refl s

theorem TableChain.quietExpiry (i : Fin 64) :
    TableChain s (s.onGrant i fun g => if g.state = .quiet then s.freeByTimer i g else s) :=
  .onGrant s i fun g _ => by
    split
    · exact .freeByTimer ..
    · exact .refl s

theorem TableChain.settleExpiry (k : Fin 8) :
    TableChain s (s.whileRunning
      (if (s.profile k).state = .settling then s.setProfile k (s.profile k).settled else s)) := by
  refine .whileRunning s ?_
  split
  · rename_i settling
    exact .setProfile (.settled settling)
  · exact .refl s

end Expiries

/-! ### Commands and steps -/

/-- A request row whose handler changes nothing but by such changes does so too. -/
theorem TableChain.served {row : Instr} {handler : Handler} (h : ∀ r s, TableChain s (handler r s).1) (s : State) :
    TableChain s (s.serve row handler) := .serve fun _ _ u _ => h _ u

/-- Every command makes a chain of these changes. -/
theorem exec_chain (c : Instr) (s : State) : ∃ t, exec c s = .next t ∧ TableChain s t := by
  cases c with
  | writeRequest p part => exact ⟨_, rfl, (TableKept.write s p false part).chain⟩
  | writeRequestPriority p part => exact ⟨_, rfl, (TableKept.write s p true part).chain⟩
  | readResponse p part => exact ⟨_, rfl, (TableKept.read (fun n t => .readOldest t p n) part).chain⟩
  | readStatus p part => exact ⟨_, rfl, (TableKept.read (fun n t => .readCounts t p n) part).chain⟩
  | otherCommandByte p command part =>
    refine ⟨_, rfl, ?_⟩
    split
    · exact (TableKept.read (fun n t => .setPort t p _) part).chain
    · exact .refl s
  | badRequestFrame => exact ⟨_, rfl, .served (fun _ s => .refl s) s⟩
  | notReadyAnswer => exact ⟨_, rfl, .served (fun _ s => .refl s) s⟩
  | stageRegion => exact ⟨_, rfl, .served .stageRegion s⟩
  | discardStaged => exact ⟨_, rfl, .served .discardStaged s⟩
  | freezeRegion => exact ⟨_, rfl, .served .freezeRegion s⟩
  | readRegion => exact ⟨_, rfl, .served .readRegion s⟩
  | setGuard => exact ⟨_, rfl, .served .setGuard s⟩
  | setTenant => exact ⟨_, rfl, .served .setTenant s⟩
  | readTenant => exact ⟨_, rfl, .served .readTenant s⟩
  | setPlanSettings => exact ⟨_, rfl, .served .setPlanSettings s⟩
  | readSettings => exact ⟨_, rfl, .served (fun _ s => .managementRequest fun _ => .done (.refl s)) s⟩
  | reserve => exact ⟨_, rfl, .serve fun _ _ _ row => .reserve (State.tenant_of_rowOf_reserve row)⟩
  | lookup => exact ⟨_, rfl, .served .lookup s⟩
  | find => exact ⟨_, rfl, .served .find s⟩
  | listOwn => exact ⟨_, rfl, .served .listOwn s⟩
  | listBand => exact ⟨_, rfl, .served .listBand s⟩
  | activate => exact ⟨_, rfl, .served .activate s⟩
  | renew => exact ⟨_, rfl, .served .renew s⟩
  | withdraw => exact ⟨_, rfl, .served .withdraw s⟩
  | revoke => exact ⟨_, rfl, .served .revoke s⟩
  | hold => exact ⟨_, rfl, .served .hold s⟩
  | unhold => exact ⟨_, rfl, .served .unhold s⟩
  | pin => exact ⟨_, rfl, .served .pin s⟩
  | freezePlan => exact ⟨_, rfl, .served .freezePlan s⟩
  | writeProfile => exact ⟨_, rfl, .served .writeProfile s⟩
  | clearProfile => exact ⟨_, rfl, .served .clearProfile s⟩
  | readProfile => exact ⟨_, rfl, .served .readProfile s⟩
  | readSlot => exact ⟨_, rfl, .served .readSlot s⟩
  | setLevel => exact ⟨_, rfl, .served .setLevel s⟩
  | assignGroup => exact ⟨_, rfl, .served .assignGroup s⟩
  | setGroup => exact ⟨_, rfl, .served .setGroup s⟩
  | setBudget => exact ⟨_, rfl, .served .setBudget s⟩
  | readLevels => exact ⟨_, rfl, .served (fun _ s => .managementRequest fun _ => .done (.refl s)) s⟩
  | move => exact ⟨_, rfl, .served .move s⟩
  | repack => exact ⟨_, rfl, .served .repack s⟩
  | stopRepack => exact ⟨_, rfl, .served .stopRepack s⟩
  | setWatch => exact ⟨_, rfl, .served .setWatch s⟩
  | clearWatch => exact ⟨_, rfl, .served .clearWatch s⟩
  | readWatch => exact ⟨_, rfl, .served .readWatch s⟩
  | setSweep => exact ⟨_, rfl, .served .setSweep s⟩
  | sweep => exact ⟨_, rfl, .served .sweep s⟩
  | readResults => exact ⟨_, rfl, .served (fun _ s => .managementRequest fun _ => .done (.refl s)) s⟩
  | readHits => exact ⟨_, rfl, .served (fun _ s => .managementRequest fun _ => .done (.refl s)) s⟩
  | clearHits => exact ⟨_, rfl, .served .clearHits s⟩
  | readEvents => exact ⟨_, rfl, .served .readEvents s⟩
  | setEventMask => exact ⟨_, rfl, .served .setEventMask s⟩
  | readNews => exact ⟨_, rfl, .served .readNews s⟩
  | status => exact ⟨_, rfl, .served (fun _ s => .enabledTenant (.done (.refl s))) s⟩
  | restart => exact ⟨_, rfl, .served (fun r s => .restart s r) s⟩
  | holdTimerExpiry i => exact ⟨_, rfl, .holdExpiry s i⟩
  | leaseExpiry i => exact ⟨_, rfl, .leaseExpiry s i⟩
  | drainTimerExpiry i => exact ⟨_, rfl, .drainExpiry s i⟩
  | quietTimerExpiry i => exact ⟨_, rfl, .quietExpiry s i⟩
  | lockTimeout b n => exact ⟨_, rfl, .onSlot s b n (.failedOn s)⟩
  | settleTimerExpiry k => exact ⟨_, rfl, .settleExpiry s k⟩
  | periodTimerExpiry => exact ⟨_, rfl, .whileRunning s (.of_table (by simp) (by simp) (by simp))⟩
  | senseTimeout => exact ⟨_, rfl, .whileRunning s (TableKept.senseElapsed s).chain⟩
  | pilotReading p => exact ⟨_, rfl, .whileRunning s (TableKept.takePilot s p).chain⟩
  | locked b n => exact ⟨_, rfl, .onSlot s b n (.lockedOn s)⟩
  | failed b n => exact ⟨_, rfl, .onSlot s b n (.failedOn s)⟩
  | lost b n => exact ⟨_, rfl, .onSlot s b n (.lostOn s)⟩
  | reading tag value => exact ⟨_, rfl, .whileRunning s (TableKept.takeReading s tag value).chain⟩
  | automaticMove =>
    refine ⟨_, rfl, ?_⟩
    split
    · exact .refl s
    · exact .takeAsk s
  | coldReset => exact ⟨_, rfl, .of_table rfl rfl rfl⟩
  | resetNRelease =>
    refine ⟨_, rfl, ?_⟩
    split
    · exact (TableEdit.coldStart s).chain
    · exact .refl s

theorem TableChain.idle (s : State) : TableChain s s.idle := by
  unfold State.idle
  split
  · exact .of_table rfl rfl rfl
  · split
    · exact .refl s
    · exact .tick s

/-- Every step makes a chain of these changes. -/
theorem step_chain {s t : State} (h : step s = .next t) : TableChain s t := by
  unfold step at h
  split at h
  · cases h
    exact .idle s
  · rename_i c rest _
    obtain ⟨u, hu, chain⟩ := exec_chain c { s with pending := rest }
    have taken : TableChain s { s with pending := rest } := .of_table rfl rfl rfl
    rw [hu] at h
    cases h
    exact taken.trans chain

end Sys2Proof.Machine

namespace Sys2Proof.Proofs
open Sys2Proof.Machine

/-- Settles O55: every change of which a step is made keeps each grant lawful. -/
theorem movesAndPinsStayLawful : Obligations.MovesAndPinsStayLawful := by
  intro s t moves pins h
  exact t.grantsLawful_iff.1 ((step_chain h).grantsLawful (s.grantsLawful_iff.2 ⟨moves, pins⟩))

theorem tableLawKept : TableLawKept := fun _ _ law h => (step_chain h).tableLawful law

theorem regionLawKept : RegionLawKept := fun s _ moves pins table law h =>
  (step_chain h).regionsLawful (s.grantsLawful_iff.2 ⟨moves, pins⟩) table law

/-- Settles O57, by the changes of which a step is made. -/
theorem tableStaysLawful : Obligations.TableStaysLawful := ⟨tableLawKept, regionLawKept⟩

end Sys2Proof.Proofs
end

section
/-! ## What an entry that becomes FREE leaves, what LOOKUP returns, and pages of lists (R25, R40, R43, R44) -/

namespace Sys2Proof.Machine

/-! ### The measurement in flight (R174, R179) -/

theorem Monitor.inFlight_detach (m : Monitor) (h : Handle) {x : Measurement} (hx : m.inFlight = some x) :
    (m.detach h).inFlight = some (if x.handle = some h then { x with void := true } else x) := by
  simp [Monitor.detach, Monitor.voidFor, Monitor.mapWatches, hx]

end Sys2Proof.Machine

namespace Sys2Proof.Proofs
open Sys2Proof.Machine

/-- Settles O33, record by record. -/
theorem freedEntryLeavesEveryRecord : Obligations.FreedEntryLeavesEveryRecord := by
  intro s i g hg
  dsimp only
  have monitor := State.monitor_freeEntry hg
  have position : ∀ n, (s.freeEntry i).monitor.position n = (s.monitor.detach (s.handleOf i)).position n := fun n => by
    rw [monitor]
  refine ⟨State.entry_freeEntry_same s hg, .freeEntry s i, ?_, fun b hb => ?_, State.counts_freeEntry hg, fun k => ?_,
    fun n w hw => ?_, fun n hn => ?_, fun x hx => ?_, by simp, by simp, by simp, by simp, by simp⟩
  · rw [State.occupancy_freeEntry hg, if_pos rfl]
    rfl
  · rw [State.occupancy_freeEntry hg, if_neg (Ne.symm hb)]
  · rw [State.profile_freeEntry hg]
    exact if_congr eq_comm rfl rfl
  · exact (position n).trans ((s.monitor.position_detach (s.handleOf i) n).1 w hw)
  · exact (position n).trans ((s.monitor.position_detach (s.handleOf i) n).2 hn)
  · rw [monitor]
    exact s.monitor.inFlight_detach (s.handleOf i) hx

end Sys2Proof.Proofs
end

section
/-! ## What LOOKUP returns (R39, R40) -/

namespace Sys2Proof.Machine

theorem flagByte_eq (b : Bool) : flagByte b = if b then 1 else 0 := rfl

/-- The move context in the record. -/
theorem moveBytes_eq (m : Option MoveContext) :
    moveBytes m =
      [byte (m.elim 0 (·.target) / 256), byte (m.elim 0 (·.target)), byte (m.elim 0 (·.kind.code)),
        byte (m.elim 0 (·.origin.code)), byte (m.elim 0 (·.phase.code))] := by
  cases m <;> rfl

/-- The 32 bytes of the record, one by one. -/
theorem State.recordOf_eq (s : State) (i : Fin 64) (g : Grant) :
    s.recordOf i g =
      [byte i.val, (s.entry i).generation, byte g.state.code, byte (s.entry i).tenant.val, byte g.cls.code,
        byte (bandCode g.band), byte (g.start / 256), byte g.start, byte g.payload, byte g.profile.val, byte g.width,
        byte g.hold.code, if g.fixed then 1 else 0, g.level, byte g.group.code, byte (s.presence g),
        byte (g.lease.getD 0 / 256), byte (g.lease.getD 0), byte (g.holdTime.getD 0 / 256), byte (g.holdTime.getD 0),
        byte ((s.phaseTimerOf g).getD 0 / 256), byte ((s.phaseTimerOf g).getD 0), byte (slotPart g.slot),
        byte ((g.move.elim 0 (·.target)) / 256), byte (g.move.elim 0 (·.target)), byte (g.move.elim 0 (·.kind.code)),
        byte (g.move.elim 0 (·.origin.code)), byte (g.move.elim 0 (·.phase.code)), byte (slotPart g.second),
        byte g.impairing, if g.news then 1 else 0, byte (s.entry i).lastOutcome.code] := by
  simp only [State.recordOf, moveBytes_eq, flagByte_eq, be16, partValue, List.cons_append, List.nil_append]

theorem lookupReturns : LookupReturns := by
  intro s src f h
  dsimp only
  intro i g names may
  refine does_of_handler h rfl ?_
  rw [lookup, ownHandle_pass names may rfl, State.recordOf_eq, State.modGrant_some _ names.grant]
  rfl

/-- The bits of a sum of the six presence flags (R40). -/
theorem presence_bits (lease hold phase slot move second : Bool) :
    let p := byte (lease.toNat + 2 * hold.toNat + 4 * phase.toNat + 8 * slot.toNat + 16 * move.toNat + 32 * second.toNat)
    p.getLsbD 0 = lease ∧ p.getLsbD 1 = hold ∧ p.getLsbD 2 = phase ∧ p.getLsbD 3 = slot ∧ p.getLsbD 4 = move ∧
      p.getLsbD 5 = second ∧ p.getLsbD 6 = false ∧ p.getLsbD 7 = false := by
  revert lease hold phase slot move second
  decide

theorem State.phaseTimerOf_tuning {s : State} {g : Grant} (h : g.state = .tuning) :
    (∀ j a, g.slot = some j → (s.slot j).state = .tuning a → s.phaseTimerOf g = some a.timeout) ∧
      ((∀ j a, g.slot = some j → (s.slot j).state ≠ .tuning a) → s.phaseTimerOf g = none) := by
  unfold State.phaseTimerOf
  rw [h]
  dsimp only
  cases g.slot with
  | none => exact ⟨nofun, fun _ => rfl⟩
  | some k =>
    dsimp only
    constructor
    · rintro j a ⟨⟩ ha
      rw [ha]
    · intro none
      split
      · rename_i a ha
        exact absurd ha (none k a rfl)
      · rfl

theorem State.phaseTimerOf_other {s : State} {g : Grant} (h : g.state ≠ .tuning) : s.phaseTimerOf g = g.phaseTimer := by
  unfold State.phaseTimerOf
  split
  · rename_i tuning
    exact absurd tuning h
  · rfl

theorem optionalPartsOnTheWire : OptionalPartsOnTheWire := by
  intro s g
  dsimp only
  obtain ⟨b0, b1, b2, b3, b4, b5, b6, b7⟩ := presence_bits g.lease.isSome g.holdTime.isSome (s.phaseTimerOf g).isSome
    g.slot.isSome g.move.isSome g.second.isSome
  refine ⟨State.phaseTimerOf_other, State.phaseTimerOf_tuning, ⟨b0, b1, b2, b3, b4, b5, fun k hk => ?_⟩, ?_, rfl,
    fun j => rfl⟩
  · match k, hk with
    | 6, _ => exact b6
    | 7, _ => exact b7
    | k + 8, _ => exact BitVec.getLsbD_of_ge _ _ (by omega)
  · unfold Grant.second
    cases g.move <;> rfl

theorem codesOnTheWire : CodesOnTheWire := by
  refine ⟨rfl, rfl, rfl, rfl, fun e => ⟨fun h => ?_, fun g h => ?_⟩, rfl, rfl, rfl, rfl, rfl, rfl, fun set => ⟨rfl, rfl, rfl⟩⟩
  · simp [Entry.stateCode, h]
  · simp [Entry.stateCode, h]

end Sys2Proof.Machine

namespace Sys2Proof.Proofs
open Sys2Proof.Machine

/-- Settles O26: the record byte by byte, and the parts and codes in it. -/
theorem lookupReturnsRecord : Obligations.LookupReturnsRecord := ⟨lookupReturns, optionalPartsOnTheWire, codesOnTheWire⟩

end Sys2Proof.Proofs
end

section
/-! ## Pages of lists (R43, R44) -/

namespace Sys2Proof.Machine

/-- A page holds up to 8 items. -/
theorem pagePayload_eq {α : Type} (all : List α) (item : α → List Byte) :
    pagePayload all item =
      byte (min 8 all.length) :: (if 8 < all.length then 1 else 0) :: (all.take 8).flatMap item := by
  have size : (all.take Config.pageSize).length = min 8 all.length := List.length_take
  have more : min 8 all.length < all.length ↔ 8 < all.length := by omega
  simp only [pagePayload, flagByte_eq, size, decide_eq_true_eq, more]
  rfl

/-- LIST_OWN from a sender that passes step 3. -/
theorem listOwn_eq {r : Req} {s : State} (hr : r.byte 0 ≤ 63)
    (enabled : r.port = .management ∨ s.tenantEnabled r.tenant = true) :
    listOwn r s = answerDone s
      (pagePayload (entryNumbers.filter fun i => r.byte 0 ≤ i.val && s.ownEntry r i) fun i =>
        s.handleBytes i ++ [byte (s.entry i).stateCode]) := by
  rw [listOwn, if_pos (by omega), enabledTenant_pass enabled]

/-- LIST_BAND from management, on a cell of a band. -/
theorem listBand_eq {r : Req} {s : State} {b : Band} (port : r.port = .management) (hb : r.byte 0 = bandCode b)
    (first : bandFirst b ≤ r.word 1) (last : r.word 1 ≤ bandLast b) :
    listBand r s = answerDone s
      (pagePayload ((s.occupancy b).filter fun it => r.word 1 ≤ it.start) fun it =>
        [byte it.handle.entry.val, it.handle.generation] ++ be16 it.start) := by
  simp only [listBand, (bandOfCode_eq_some_iff ..).2 hb]
  exact managementRequest_pass port ((cellInBand_iff ..).2 ⟨first, last⟩)

end Sys2Proof.Machine

namespace Sys2Proof.Proofs
open Sys2Proof.Machine

/-- Settles O28: both lists are pages of what their filters leave. -/
theorem listsReturnPages : Obligations.ListsReturnPages := by
  intro s src f
  dsimp only
  refine ⟨fun h hr enabled => does_of_handler h rfl ?_, fun b h port hb first last => does_of_handler h rfl ?_⟩
  · rw [listOwn_eq hr enabled, pagePayload_eq]
    rfl
  · rw [listBand_eq port hb first last, pagePayload_eq]
    rfl

end Sys2Proof.Proofs
end

section
/-! ## The fragmentation level: free cells and free runs of a band (R28, R153, R154) -/

namespace Sys2Proof.Machine

/-! ### The level and its recompute (R153, R154) -/

theorem levelOfCounts_spec (f l : Nat) :
    (levelOfCounts f l = 0 ↔ f = 0 ∨ f ≤ 2 * l) ∧
      (levelOfCounts f l = 1 ↔ f ≠ 0 ∧ 2 * l < f ∧ f ≤ 4 * l) ∧
      (levelOfCounts f l = 2 ↔ f ≠ 0 ∧ 4 * l < f ∧ f ≤ 8 * l) ∧
      (levelOfCounts f l = 3 ↔ f ≠ 0 ∧ 8 * l < f) := by
  unfold levelOfCounts
  split
  · omega
  · split
    · omega
    · split <;> omega

theorem State.fragTurnsUrgent_iff (s : State) (b : Band) :
    s.fragTurnsUrgent b = true ↔ s.fragOf b = 3 ∧ s.engine.frag.get b ≠ 3 := by
  simp [State.fragTurnsUrgent]

/-- The auto-start condition reads nothing that the record of a level changes. -/
theorem State.mayAutoStart_noteFrag (s : State) (b : Band) :
    (s.noteFrag b).mayAutoStart b = true ↔
      s.plan.settings.autoRepack.get b = true ∧ s.engine.repack.running = false ∧ s.table.planFrozen = false := by
  have running : (s.noteFrag b).engine.repack.running = s.engine.repack.running := by
    simp [State.noteFrag, State.setFrag]
  simp [State.mayAutoStart, running, and_assoc]

theorem State.noteFrag_eq (s : State) (b : Band) :
    s.noteFrag b =
      if s.fragOf b = 3 ∧ s.engine.frag.get b ≠ 3 then (s.setFrag b (s.fragOf b)).raise .fragUrgent
      else s.setFrag b (s.fragOf b) := by
  simp only [State.noteFrag, State.raiseIf, State.fragTurnsUrgent_iff]

theorem State.refreshFrag_eq (s : State) (b : Band) :
    s.refreshFrag b =
      if (s.fragOf b = 3 ∧ s.engine.frag.get b ≠ 3) ∧ s.plan.settings.autoRepack.get b = true ∧
          s.engine.repack.running = false ∧ s.table.planFrozen = false then
        (s.noteFrag b).startRepack b
      else s.noteFrag b := by
  simp only [State.refreshFrag, Bool.and_eq_true, State.fragTurnsUrgent_iff, State.mayAutoStart_noteFrag]

theorem levelAndRecompute : LevelAndRecompute := by
  refine ⟨levelOfCounts_spec, fun s b => ⟨rfl, fun (calm : ¬(s.fragOf b = 3 ∧ s.engine.frag.get b ≠ 3)) => ?_,
    fun (turns : s.fragOf b = 3 ∧ s.engine.frag.get b ≠ 3) stays => ?_,
    fun (turns : s.fragOf b = 3 ∧ s.engine.frag.get b ≠ 3) starts => ?_⟩⟩
  · rw [State.refreshFrag_eq, if_neg fun h => calm h.1, State.noteFrag_eq, if_neg calm]
    rfl
  · rw [State.refreshFrag_eq, if_neg fun h => stays h.2, State.noteFrag_eq, if_pos turns]
    rfl
  · rw [State.refreshFrag_eq, if_pos ⟨turns, starts⟩, State.noteFrag_eq, if_pos turns]
    rfl

/-! ### Runs of cells that no span of an ordered list covers (R28) -/

/-- No span of a list covers a cell. -/
def Uncovered (spans : List (Nat × Nat)) (x : Nat) : Prop := ∀ y ∈ spans, ¬(y.1 ≤ x ∧ x < y.1 + y.2)

theorem uncovered_cons_iff (y : Nat × Nat) (spans : List (Nat × Nat)) (x : Nat) :
    Uncovered (y :: spans) x ↔ ¬(y.1 ≤ x ∧ x < y.1 + y.2) ∧ Uncovered spans x := List.forall_mem_cons

/-- A cell below every span of an ordered list is uncovered. -/
theorem uncovered_of_lt {y : Nat × Nat} {spans : List (Nat × Nat)} {x : Nat}
    (ordered : (y :: spans).Pairwise fun a b => a.1 ≤ b.1) (h : x < y.1) : Uncovered (y :: spans) x := by
  intro z hz
  rcases List.mem_cons.1 hz with rfl | hz
  · omega
  · have := (List.pairwise_cons.1 ordered).1 z hz
    omega

/-- The free runs from a cell on, each with its first cell and its length. -/
def runSpans (last : Nat) : Nat → List (Nat × Nat) → List (Nat × Nat)
  | c, [] => [(c, last + 1 - c)]
  | c, (a, w) :: rest =>
    if a + w ≤ c then runSpans last c rest
    else if last < a then [(c, last + 1 - c)]
    else (c, a - c) :: runSpans last (a + w) rest

theorem freeRuns_eq (last c : Nat) (spans : List (Nat × Nat)) :
    freeRuns last c spans = (runSpans last c spans).map Prod.snd := by
  induction spans generalizing c with
  | nil => rfl
  | cons y rest ih =>
    obtain ⟨a, w⟩ := y
    unfold freeRuns runSpans
    split
    · exact ih c
    · split
      · rfl
      · rw [ih (a + w)]
        rfl

/-- The cells of a run are free. -/
theorem runSpans_free {last c : Nat} {spans : List (Nat × Nat)} (ordered : spans.Pairwise fun a b => a.1 ≤ b.1)
    {y : Nat × Nat} (hy : y ∈ runSpans last c spans) {x : Nat} (first : y.1 ≤ x) (within : x < y.1 + y.2) :
    c ≤ x ∧ x ≤ last ∧ Uncovered spans x := by
  induction spans generalizing c with
  | nil =>
    obtain rfl := List.mem_singleton.1 hy
    dsimp only at first within
    exact ⟨first, by omega, fun _ h => absurd h List.not_mem_nil⟩
  | cons z rest ih =>
    obtain ⟨a, w⟩ := z
    have later := (List.pairwise_cons.1 ordered).2
    unfold runSpans at hy
    split at hy
    · obtain ⟨low, high, free⟩ := ih later hy
      exact ⟨low, high, (uncovered_cons_iff ..).2 ⟨by dsimp only; omega, free⟩⟩
    · split at hy
      · obtain rfl := List.mem_singleton.1 hy
        dsimp only at first within
        exact ⟨first, by omega, uncovered_of_lt ordered (by dsimp only; omega)⟩
      · rcases List.mem_cons.1 hy with rfl | hy
        · dsimp only at first within
          exact ⟨first, by omega, uncovered_of_lt ordered (by dsimp only; omega)⟩
        · obtain ⟨low, high, free⟩ := ih later hy
          exact ⟨by omega, high, (uncovered_cons_iff ..).2 ⟨by dsimp only; omega, free⟩⟩

/-- Free cells in a row lie in one of the runs: a single cell, or any number where every span has a width. -/
theorem exists_runSpans {last c : Nat} {spans : List (Nat × Nat)} (ordered : spans.Pairwise fun a b => a.1 ≤ b.1)
    {x n : Nat} (hn : 1 ≤ n) (wide : n = 1 ∨ ∀ y ∈ spans, 1 ≤ y.2) (first : c ≤ x) (within : x + n ≤ last + 1)
    (free : ∀ k, x ≤ k → k < x + n → Uncovered spans k) :
    ∃ y ∈ runSpans last c spans, y.1 ≤ x ∧ x + n ≤ y.1 + y.2 := by
  induction spans generalizing c with
  | nil => exact ⟨_, List.mem_singleton_self _, first, by dsimp only; omega⟩
  | cons z rest ih =>
    obtain ⟨a, w⟩ := z
    have later := (List.pairwise_cons.1 ordered).2
    have wideLater : n = 1 ∨ ∀ y ∈ rest, 1 ≤ y.2 := wide.imp_right fun h y hy => h y (List.mem_cons_of_mem _ hy)
    have freeLater : ∀ k, x ≤ k → k < x + n → Uncovered rest k := fun k low high =>
      ((uncovered_cons_iff ..).1 (free k low high)).2
    have apart : ∀ k, x ≤ k → k < x + n → ¬(a ≤ k ∧ k < a + w) := fun k low high =>
      ((uncovered_cons_iff ..).1 (free k low high)).1
    unfold runSpans
    split
    · exact ih later wideLater first freeLater
    · split
      · exact ⟨_, List.mem_singleton_self _, first, by dsimp only; omega⟩
      · by_cases below : x + n ≤ a
        · exact ⟨_, List.mem_cons_self, first, by dsimp only; omega⟩
        · have above : a + w ≤ x := by
            have here := apart x (Nat.le_refl x) (by omega)
            rcases wide with one | wide
            · omega
            · have positive : 1 ≤ w := wide _ List.mem_cons_self
              have at_a := apart a
              omega
          obtain ⟨y, hy, inside⟩ := ih later wideLater above freeLater
          exact ⟨y, List.mem_cons_of_mem _ hy, inside⟩

/-- The runs follow one another. -/
theorem runSpans_pairwise (last c : Nat) (spans : List (Nat × Nat)) :
    (∀ y ∈ runSpans last c spans, c ≤ y.1) ∧
      (runSpans last c spans).Pairwise fun y z => y.1 + y.2 ≤ z.1 := by
  induction spans generalizing c with
  | nil => exact ⟨by simp [runSpans], List.pairwise_singleton ..⟩
  | cons z rest ih =>
    obtain ⟨a, w⟩ := z
    unfold runSpans
    split
    · exact ih c
    · split
      · exact ⟨by simp, List.pairwise_singleton ..⟩
      · obtain ⟨low, apart⟩ := ih (a + w)
        refine ⟨fun y hy => ?_, List.pairwise_cons.2 ⟨fun y hy => ?_, apart⟩⟩
        · rcases List.mem_cons.1 hy with rfl | hy
          · exact Nat.le_refl c
          · have := low y hy
            omega
        · have := low y hy
          dsimp only
          omega

/-- The free cells from a cell on, run by run. -/
def freeCellsOf (last c : Nat) (spans : List (Nat × Nat)) : List Nat :=
  (runSpans last c spans).flatMap fun y => List.range' y.1 y.2

theorem length_freeCellsOf (last c : Nat) (spans : List (Nat × Nat)) :
    (freeCellsOf last c spans).length = (freeRuns last c spans).sum := by
  rw [freeRuns_eq, freeCellsOf, List.length_flatMap]
  simp only [List.length_range']

theorem nodup_freeCellsOf (last c : Nat) (spans : List (Nat × Nat)) : (freeCellsOf last c spans).Nodup := by
  refine List.nodup_flatMap.2 ⟨fun y _ => List.nodup_range', (runSpans_pairwise last c spans).2.imp fun {y z} h x hy hz => ?_⟩
  have := List.mem_range'_1.1 hy
  have := List.mem_range'_1.1 hz
  omega

theorem mem_freeCellsOf_iff {last c : Nat} {spans : List (Nat × Nat)} (ordered : spans.Pairwise fun a b => a.1 ≤ b.1)
    (x : Nat) : x ∈ freeCellsOf last c spans ↔ c ≤ x ∧ x ≤ last ∧ Uncovered spans x := by
  simp only [freeCellsOf, List.mem_flatMap, List.mem_range'_1]
  constructor
  · rintro ⟨y, hy, first, within⟩
    exact runSpans_free ordered hy first within
  · rintro ⟨low, high, free⟩
    obtain ⟨y, hy, first, within⟩ := exists_runSpans (last := last) (n := 1) ordered (Nat.le_refl 1) (.inl rfl) low (by omega)
      fun k h1 h2 => by
        obtain rfl : k = x := by omega
        exact free
    exact ⟨y, hy, first, by omega⟩

/-! ### The held spans of a band in order -/

theorem insertSpan_perm (x : Nat × Nat) (l : List (Nat × Nat)) : (insertSpan x l).Perm (x :: l) := by
  induction l with
  | nil => exact .refl _
  | cons y ys ih =>
    unfold insertSpan
    split
    · exact .refl _
    · exact (ih.cons y).trans (.swap ..)

theorem insertSpan_ordered (x : Nat × Nat) {l : List (Nat × Nat)} (h : l.Pairwise fun a b => a.1 ≤ b.1) :
    (insertSpan x l).Pairwise fun a b => a.1 ≤ b.1 := by
  induction l with
  | nil => exact List.pairwise_singleton ..
  | cons y ys ih =>
    obtain ⟨hy, hys⟩ := List.pairwise_cons.1 h
    unfold insertSpan
    split
    · rename_i le
      refine List.pairwise_cons.2 ⟨fun z hz => ?_, h⟩
      rcases List.mem_cons.1 hz with rfl | hz
      · exact le
      · exact le.trans (hy z hz)
    · refine List.pairwise_cons.2 ⟨fun z hz => ?_, ih hys⟩
      rcases List.mem_cons.1 ((insertSpan_perm x ys).mem_iff.1 hz) with rfl | hz
      · omega
      · exact hy z hz

theorem sortSpans_perm (l : List (Nat × Nat)) : (sortSpans l).Perm l := by
  induction l with
  | nil => exact .refl _
  | cons x xs ih => exact (insertSpan_perm x _).trans (ih.cons x)

theorem sortSpans_ordered (l : List (Nat × Nat)) : (sortSpans l).Pairwise fun a b => a.1 ≤ b.1 := by
  induction l with
  | nil => exact .nil
  | cons x xs ih => exact insertSpan_ordered x ih

/-- The spans that break the free runs of a band. -/
def State.bandSpans (s : State) (b : Band) : List (Nat × Nat) :=
  sortSpans ((s.heldSpans b).map fun h => (h.start, h.width))

theorem State.bandSpans_ordered (s : State) (b : Band) : (s.bandSpans b).Pairwise fun x y => x.1 ≤ y.1 :=
  sortSpans_ordered _

theorem State.mem_bandSpans_iff (s : State) (b : Band) (y : Nat × Nat) :
    y ∈ s.bandSpans b ↔ ∃ h ∈ s.heldSpans b, (h.start, h.width) = y := by
  rw [State.bandSpans, (sortSpans_perm _).mem_iff, List.mem_map]

theorem State.uncovered_bandSpans_iff (s : State) (b : Band) (x : Nat) :
    Uncovered (s.bandSpans b) x ↔ ∀ h ∈ s.heldSpans b, ¬Covers h x := by
  simp only [Uncovered, State.mem_bandSpans_iff, forall_exists_index, and_imp, forall_apply_eq_imp_iff₂, Covers]

/-- The free cells of a region of a band. -/
theorem State.freeIn_iff (s : State) (r : Region) (x : Nat) :
    FreeIn s r x ↔ x ∈ freeCellsOf r.last r.first (s.bandSpans r.band) := by
  rw [mem_freeCellsOf_iff (s.bandSpans_ordered r.band), FreeIn, State.uncovered_bandSpans_iff]

/-! ### The regions of a band -/

theorem Plan.present_regions (p : Plan) : p.present.map Prod.snd = (List.finRange 8).filterMap fun k => p[k] := by
  have records : p.toList.zipIdx = (List.finRange 8).map fun k => (p[k], k.val) := by
    refine List.ext_getElem (by simp) fun i h h' => ?_
    simp
  unfold Plan.present
  rw [records, List.filterMap_map, List.map_filterMap]
  refine List.filterMap_congr fun k _ => ?_
  dsimp only [Function.comp]
  cases p[k] <;> rfl

/-- The runs of the region of an index, if that is present and of the band. -/
def State.runsAt (s : State) (b : Band) (k : Fin 8) : List Nat :=
  match s.plan.active[k] with
  | none => []
  | some r => if r.band = b then freeRuns r.last r.first (s.bandSpans b) else []

theorem State.bandRuns_eq (s : State) (b : Band) : s.bandRuns b = (List.finRange 8).flatMap (s.runsAt b) := by
  have runs : s.bandRuns b = ((s.plan.active.present.map Prod.snd).filter fun r => r.band == b).flatMap fun r =>
      freeRuns r.last r.first (s.bandSpans b) := rfl
  rw [runs, Plan.present_regions]
  induction List.finRange 8 with
  | nil => rfl
  | cons k l ih =>
    rw [List.flatMap_cons, ← ih, State.runsAt, List.filterMap_cons]
    cases s.plan.active[k] with
    | none => rfl
    | some r => by_cases h : r.band = b <;> simp [h]

theorem State.mem_bandRuns_iff (s : State) (b : Band) (n : Nat) :
    n ∈ s.bandRuns b ↔
      ∃ (k : Fin 8) (r : Region), s.plan.active[k] = some r ∧ r.band = b ∧
        ∃ y ∈ runSpans r.last r.first (s.bandSpans b), y.2 = n := by
  simp only [State.bandRuns_eq, List.mem_flatMap, List.mem_finRange, true_and]
  refine exists_congr fun k => ?_
  unfold State.runsAt
  cases s.plan.active[k] with
  | none => simp
  | some r => by_cases h : r.band = b <;> simp [h, freeRuns_eq]

/-- The free cells of a band, region by region. -/
theorem State.freeCells_eq (s : State) (b : Band) :
    s.freeCells b = ((List.finRange 8).map fun k => (s.runsAt b k).sum).sum := by
  rw [State.freeCells, State.bandRuns_eq, List.flatMap_def, List.sum_flatten, List.map_map]
  rfl

/-- The free cells of the region of an index. -/
theorem State.sum_runsAt {s : State} {b : Band} {k : Fin 8} {r : Region} (hr : s.plan.active[k] = some r)
    (hb : r.band = b) : (s.runsAt b k).sum = (freeCellsOf r.last r.first (s.bandSpans b)).length := by
  rw [length_freeCellsOf, State.runsAt, hr]
  exact congrArg List.sum (if_pos hb)

theorem State.runsAt_eq_nil {s : State} {b : Band} {k : Fin 8}
    (none : ∀ r, ¬(s.plan.active[k] = some r ∧ r.band = b)) : s.runsAt b k = [] := by
  unfold State.runsAt
  cases hr : s.plan.active[k] with
  | none => rfl
  | some r => exact if_neg fun hb => none r ⟨hr, hb⟩

/-! ### The largest run -/

theorem le_foldl_max (l : List Nat) (a : Nat) : a ≤ l.foldl max a ∧ ∀ n ∈ l, n ≤ l.foldl max a := by
  induction l generalizing a with
  | nil => exact ⟨Nat.le_refl a, fun _ h => absurd h List.not_mem_nil⟩
  | cons x xs ih =>
    obtain ⟨start, rest⟩ := ih (max a x)
    refine ⟨(Nat.le_max_left a x).trans start, fun n hn => ?_⟩
    rcases List.mem_cons.1 hn with rfl | hn
    · exact (Nat.le_max_right a n).trans start
    · exact rest n hn

theorem foldl_max_mem (l : List Nat) (a : Nat) : l.foldl max a = a ∨ l.foldl max a ∈ l := by
  induction l generalizing a with
  | nil => exact .inl rfl
  | cons x xs ih =>
    rcases ih (max a x) with e | mem
    · rw [List.foldl_cons, e]
      rcases Nat.le_total a x with le | le
      · exact .inr (by simp [Nat.max_eq_right le])
      · exact .inl (Nat.max_eq_left le)
    · exact .inr (List.mem_cons_of_mem _ mem)

/-- No run of free cells is longer than the largest run. -/
theorem State.le_largestRun {s : State} {b : Band} (wide : ∀ h ∈ s.heldSpans b, 1 ≤ h.width) {k : Fin 8} {r : Region}
    (hr : s.plan.active[k] = some r) (hb : r.band = b) {a n : Nat} (within : a + n ≤ r.last + 1)
    (free : ∀ c, a ≤ c → c < a + n → FreeIn s r c) : n ≤ s.largestRun b := by
  rcases Nat.eq_zero_or_pos n with rfl | hn
  · exact Nat.zero_le _
  subst hb
  have first : r.first ≤ a := (free a (Nat.le_refl a) (by omega)).1
  have wideSpans : ∀ y ∈ s.bandSpans r.band, 1 ≤ y.2 := fun y hy => by
    obtain ⟨h, hh, rfl⟩ := (s.mem_bandSpans_iff r.band y).1 hy
    exact wide h hh
  obtain ⟨y, hy, low, high⟩ := exists_runSpans (s.bandSpans_ordered r.band) hn (.inr wideSpans) first within
    fun c h1 h2 => (s.uncovered_bandSpans_iff r.band c).2 (free c h1 h2).2.2
  have longest := (le_foldl_max (s.bandRuns r.band) 0).2 y.2 ((s.mem_bandRuns_iff ..).2 ⟨k, r, hr, rfl, y, hy, rfl⟩)
  have : n ≤ y.2 := by omega
  exact this.trans longest

/-- A largest run that is not empty is a run of free cells of a region. -/
theorem State.largestRun_spec (s : State) (b : Band) (h : s.largestRun b ≠ 0) :
    ∃ (k : Fin 8) (r : Region) (a : Nat), (s.plan.active[k] = some r ∧ r.band = b) ∧
      a + s.largestRun b ≤ r.last + 1 ∧ ∀ c, a ≤ c → c < a + s.largestRun b → FreeIn s r c := by
  have mem := (foldl_max_mem (s.bandRuns b) 0).resolve_left h
  obtain ⟨k, r, hr, rfl, y, hy, e⟩ := (s.mem_bandRuns_iff b (s.largestRun b)).1 mem
  have free : ∀ c, y.1 ≤ c → c < y.1 + s.largestRun r.band → FreeIn s r c := fun c h1 h2 => by
    rw [FreeIn, ← State.uncovered_bandSpans_iff]
    exact runSpans_free (s.bandSpans_ordered r.band) hy h1 (e ▸ h2)
  obtain ⟨-, last, -⟩ := free (y.1 + (s.largestRun r.band - 1)) (by omega) (by omega)
  exact ⟨k, r, y.1, ⟨hr, rfl⟩, by omega, free⟩

theorem freeCellsAndLargestRun : FreeCellsAndLargestRun := by
  intro s b
  dsimp only
  refine ⟨⟨fun k => (s.runsAt b k).sum, s.freeCells_eq b, fun k r region => ?_, fun k none => ?_⟩, fun wide =>
    ⟨fun k r a n region run => ?_, ?_⟩⟩
  · obtain ⟨hr, rfl⟩ := region
    exact ⟨_, nodup_freeCellsOf .., fun c => (s.freeIn_iff r c).symm, State.sum_runsAt hr rfl⟩
  · exact congrArg List.sum (State.runsAt_eq_nil none)
  · exact State.le_largestRun wide region.1 region.2 run.1 run.2
  · by_cases h : s.largestRun b = 0
    · exact .inl h
    · exact .inr (s.largestRun_spec b h)

end Sys2Proof.Machine

namespace Sys2Proof.Proofs
open Sys2Proof.Machine

/-- Settles O48: the free runs of a region hold its free cells, each once, and every run of them lies in one. -/
theorem fragmentationLevel : Obligations.FragmentationLevel := ⟨levelAndRecompute, freeCellsAndLargestRun⟩

end Sys2Proof.Proofs
end

section
/-! ## Grants given up and timers run out (R50, R57 to R66): records -/

namespace Sys2Proof.Machine

/-! ### What the records of a freed entry depend on (R25) -/

section FreeEntry

variable {s t : State} {i : Fin 64} {g x : Grant}

/-- The record of the monitor, the profiles, the occupancy lists and the counts of a freed entry follow from those before and
from the band, the profile, the generation and the tenant of its grant. -/
theorem State.freeEntry_records (hg : s.grant? i = some g) (hx : t.grant? i = some x)
    (fixture : x.band = g.band ∧ x.profile = g.profile)
    (entry : (t.entry i).generation = (s.entry i).generation ∧ (t.entry i).tenant = (s.entry i).tenant)
    (table : t.table.occupancy = s.table.occupancy ∧ t.table.counts = s.table.counts)
    (profiles : t.profiles = s.profiles) (monitor : t.monitor = s.monitor) :
    (t.freeEntry i).table.occupancy = (s.freeEntry i).table.occupancy ∧
      (t.freeEntry i).table.counts = (s.freeEntry i).table.counts ∧
      (t.freeEntry i).profiles = (s.freeEntry i).profiles ∧ (t.freeEntry i).monitor = (s.freeEntry i).monitor := by
  obtain ⟨band, profile⟩ := fixture
  obtain ⟨generation, tenant⟩ := entry
  obtain ⟨occupancy, counts⟩ := table
  refine ⟨?_, Vector.ext fun k hk => ?_, Vector.ext fun k hk => ?_, ?_⟩
  · simp [State.freeEntry, hg, hx, State.withMonitor, State.setOccupancy, State.occupancy, band, occupancy]
  · refine (State.counts_freeEntry hx ⟨k, hk⟩).trans (Eq.trans ?_ (State.counts_freeEntry hg ⟨k, hk⟩).symm)
    rw [tenant, counts]
  · refine (State.profile_freeEntry hx ⟨k, hk⟩).trans (Eq.trans ?_ (State.profile_freeEntry hg ⟨k, hk⟩).symm)
    rw [profile, State.profile, State.profile, profiles]
  · rw [State.monitor_freeEntry hx, State.monitor_freeEntry hg, monitor, State.handleOf, State.handleOf, generation]

end FreeEntry

/-! ### A grant that becomes another, with its outcome written -/

/-- The grant of an entry has become another of its band and profile, with an outcome; slots may have been sent messages;
nothing else has changed. -/
structure Rewritten (s t : State) (i : Fin 64) (g x : Grant) (o : LastOutcome) : Prop where
  before : s.grant? i = some g
  entry : t.entry i = { s.entry i with lastOutcome := o, grant := some x }
  fixture : x.band = g.band ∧ x.profile = g.profile
  others : EntriesKept s t [i]
  table : t.table.occupancy = s.table.occupancy ∧ t.table.counts = s.table.counts
  planFrozen : t.table.planFrozen = s.table.planFrozen
  profiles : t.profiles = s.profiles
  monitor : t.monitor = s.monitor
  startUp : t.pool.startUp = s.pool.startUp
  plan : t.plan = s.plan
  levels : t.levels = s.levels
  engine : t.engine = s.engine
  ports : t.ports = s.ports

/-- What every way of giving a grant up leaves alone, and what it leaves of the records about its entry. -/
structure LeftAlone (s v : State) (i : Fin 64) : Prop where
  others : EntriesKept s v [i]
  records : RecordsAfter s v i
  plan : v.plan = s.plan
  levels : v.levels = s.levels
  engine : v.engine = s.engine
  ports : v.ports = s.ports

namespace Rewritten

variable {s t : State} {i : Fin 64} {g x : Grant} {o : LastOutcome} (h : Rewritten s t i g x o)

include h

theorem grant : t.grant? i = some x := by rw [State.grant?, h.entry]

theorem modGrant {f : Grant → Grant} (fixture : (f x).band = x.band ∧ (f x).profile = x.profile) :
    Rewritten s (t.modGrant i f) i g (f x) o where
  before := h.before
  entry := by rw [State.entry_modGrant_same t h.grant, h.entry]
  fixture := ⟨fixture.1.trans h.fixture.1, fixture.2.trans h.fixture.2⟩
  others := h.others.twice (.modGrant t i f)
  table := by simpa using h.table
  planFrozen := by simpa using h.planFrozen
  profiles := by simpa using h.profiles
  monitor := by simpa using h.monitor
  startUp := by simpa using h.startUp
  plan := by simpa using h.plan
  levels := by simpa using h.levels
  engine := by simpa using h.engine
  ports := by simpa using h.ports

/-- Messages to slots leave the records. -/
theorem of_pool {u : State} (table : u.table = t.table) (profiles : u.profiles = t.profiles)
    (monitor : u.monitor = t.monitor) (startUp : u.pool.startUp = t.pool.startUp) (plan : u.plan = t.plan)
    (levels : u.levels = t.levels) (engine : u.engine = t.engine) (ports : u.ports = t.ports) :
    Rewritten s u i g x o where
  before := h.before
  entry := (State.entry_congr (by rw [table]) i).trans h.entry
  fixture := h.fixture
  others := h.others.twice (.of_table table [i])
  table := by rw [table]; exact h.table
  planFrozen := by rw [table]; exact h.planFrozen
  profiles := profiles.trans h.profiles
  monitor := monitor.trans h.monitor
  startUp := startUp.trans h.startUp
  plan := plan.trans h.plan
  levels := levels.trans h.levels
  engine := engine.trans h.engine
  ports := ports.trans h.ports

theorem haltPart (p : Option SlotId) : Rewritten s (t.haltPart p) i g x o :=
  h.of_pool (by simp) (by simp) (by simp) (by simp) (by simp) (by simp) (by simp) (by simp)

theorem recount : Rewritten s (t.recount i) i g (t.levels.recount x) o := by
  refine h.modGrant ?_
  obtain ⟨n, e⟩ := t.levels.recount_eq x
  rw [e]
  exact ⟨rfl, rfl⟩

theorem leftAlone : LeftAlone s t i where
  others := h.others
  records := by
    unfold RecordsAfter
    rw [if_neg (by rw [h.grant]; exact Option.some_ne_none x)]
    exact ⟨h.table.1, h.table.2, h.profiles, h.monitor, h.planFrozen, h.startUp⟩
  plan := h.plan
  levels := h.levels
  engine := h.engine
  ports := h.ports

theorem freed : LeftAlone s (t.freeEntry i) i ∧ (t.freeEntry i).entry i = freedEntry (s.entry i) o := by
  have entry : (t.freeEntry i).entry i = freedEntry (s.entry i) o := by
    rw [State.entry_freeEntry_same t h.grant, h.entry]
    rfl
  obtain ⟨occupancy, counts, profiles, monitor⟩ := State.freeEntry_records h.before h.grant h.fixture
    (by rw [h.entry]; exact ⟨rfl, rfl⟩) h.table h.profiles h.monitor
  refine ⟨⟨h.others.twice (.freeEntry t i), ?_, by simpa using h.plan, by simpa using h.levels, by simpa using h.engine,
    by simpa using h.ports⟩, entry⟩
  unfold RecordsAfter
  rw [if_pos (by rw [State.grant?, entry]; rfl)]
  exact ⟨occupancy, counts, profiles, monitor, by simpa using h.planFrozen, by simpa using h.startUp⟩

end Rewritten

/-- A grant whose outcome is written. -/
theorem Rewritten.outcome {s : State} {i : Fin 64} {g : Grant} (hg : s.grant? i = some g) (o : LastOutcome) :
    Rewritten s (s.setOutcome i o) i g g o where
  before := hg
  entry := by
    rw [State.entry_setOutcome_same]
    exact congrArg (fun grant => { s.entry i with lastOutcome := o, grant }) hg
  fixture := ⟨rfl, rfl⟩
  others := .setEntry s i _
  table := by simp
  planFrozen := by simp
  profiles := by simp
  monitor := by simp
  startUp := by simp
  plan := by simp
  levels := by simp
  engine := by simp
  ports := by simp

/-- A grant whose outcome is written, with the news of an event (R72). -/
theorem Rewritten.noted {s : State} {i : Fin 64} {g : Grant} (hg : s.grant? i = some g) (o : LastOutcome)
    (byTenant : Bool) :
    Rewritten s ((s.setOutcome i o).modGrant i (·.withNews byTenant)) i g (g.withNews byTenant) o :=
  (Rewritten.outcome hg o).modGrant ⟨rfl, rfl⟩

end Sys2Proof.Machine
end

section
/-! ## Grants given up (R57 to R62): slots, and the record by the state of the grant -/

namespace Sys2Proof.Machine

/-! ### Slots halted and ramped (R115, R116) -/

/-- Ramps the slot that a part names, when it names one. -/
def State.rampPart (s : State) (p : Option SlotId) (n : Nat) : State :=
  match p with
  | none => s
  | some j => s.rampSlot j n

theorem State.enterDraining_eq (s : State) (i : Fin 64) (p : Option SlotId) (c : Cls) :
    s.enterDraining i p c = (s.modGrant i Grant.drained).rampPart p (drainInterval c) := by
  cases p <;> rfl

theorem State.pool_rampPart_congr {s t : State} (h : t.pool = s.pool) (p : Option SlotId) (n : Nat) :
    (t.rampPart p n).pool = (s.rampPart p n).pool := by
  cases p with
  | none => exact h
  | some j =>
    unfold State.rampPart State.rampSlot
    dsimp only
    rw [State.slot_congr h]
    split
    · exact h
    · simp [State.send, State.setSlot, h]

section Slots

variable {s t v : State} {l m : List SlotId} {j : SlotId}

/-- The halts of one list after those of another. -/
theorem State.pool_haltPart_append (h : t.pool = (s.haltSlots l).pool) (p : Option SlotId) :
    (t.haltPart p).pool = (s.haltSlots (l ++ p.toList)).pool := by
  rw [State.haltPart_eq, State.haltSlots_append]
  exact State.pool_haltSlots_congr h _

theorem SlotSent.of_pool {x : Slot} {msg : CarrierMsg} (h : SlotSent s t j x msg) (pool : v.pool = t.pool) :
    SlotSent s v j x msg := by
  obtain ⟨slot, sent⟩ := h
  exact ⟨(State.slot_congr pool j).trans slot, by rw [pool]; exact sent⟩

theorem SlotsKept.of_eq_pool (h : SlotsKept s t l) (pool : v.pool = t.pool) : SlotsKept s v l := fun j hj =>
  ⟨(State.slot_congr pool j).trans (h j hj).1, by rw [pool]; exact (h j hj).2⟩

theorem SlotsKept.haltSlots (s : State) (l : List SlotId) : SlotsKept s (s.haltSlots l) l := fun _ hj =>
  s.haltSlots_other (.inr hj)

/-- A slot that a list halts once. -/
theorem SlotSent.haltSlots (nodup : l.Nodup) (hj : j ∈ l) (hr : (s.slot j).state ≠ .retired) :
    SlotSent s (s.haltSlots l) j { s.slot j with state := .idle, holder := none } .halt := by
  obtain ⟨slot, sent⟩ := s.haltSlots_halted (l := l) hr
  rw [List.count_eq_one_of_mem nodup hj] at sent
  exact ⟨slot hj, sent⟩

theorem SlotsKept.rampPart (s : State) (p : Option SlotId) (n : Nat) : SlotsKept s (s.rampPart p n) p.toList := by
  cases p with
  | none => exact .refl []
  | some j =>
    by_cases hr : (s.slot j).state = .retired
    · rw [show s.rampPart (some j) n = s from if_pos hr]
      exact .refl _
    · exact (s.rampSlot_spec n hr).2

end Slots

/-! ### The slots of a grant that is given up -/

/-- The second slot of a grant's seamless move. -/
def Grant.seamlessSlots (g : Grant) : List SlotId :=
  match g.move with
  | none => []
  | some m => if m.kind = .seamless then m.second.toList else []

theorem Grant.mem_seamlessSlots_iff (g : Grant) (k : SlotId) :
    k ∈ g.seamlessSlots ↔ ∃ m, g.move = some m ∧ m.kind = .seamless ∧ m.second = some k := by
  unfold Grant.seamlessSlots
  cases g.move with
  | none => simp
  | some m => by_cases h : m.kind = .seamless <;> simp [h]

theorem Grant.seamlessSlots_of_none {g : Grant} (h : g.move = none) : g.seamlessSlots = [] := by
  rw [Grant.seamlessSlots, h]

theorem Grant.seamlessSlots_of_seamless {g : Grant} {m : MoveContext} (hm : g.move = some m) (h : m.kind = .seamless) :
    g.seamlessSlots = m.second.toList := by
  rw [Grant.seamlessSlots, hm]
  exact if_pos h

theorem Grant.seamlessSlots_of_hard {g : Grant} {m : MoveContext} (hm : g.move = some m) (h : m.kind = .hard) :
    g.seamlessSlots = [] := by
  rw [Grant.seamlessSlots, hm]
  exact if_neg (by simp [h])

theorem Grant.seamlessSlots_subset (g : Grant) : ∀ j ∈ g.seamlessSlots, j ∈ slotsOf g := by
  intro j hj
  obtain ⟨m, hm, -, hk⟩ := (g.mem_seamlessSlots_iff j).1 hj
  simp [slotsOf, hm, hk]

theorem Grant.slot_mem_slotsOf {g : Grant} {j : SlotId} (h : g.slot = some j) : j ∈ slotsOf g := by
  simp [slotsOf, h]

/-- The slots halted, the second one first, are not the same when the slots of the grant differ. -/
theorem Grant.haltedSlots_nodup {g : Grant} (h : SlotsDiffer g) : (g.seamlessSlots ++ g.slot.toList).Nodup := by
  have second : g.seamlessSlots.Nodup := by
    unfold Grant.seamlessSlots
    cases g.move with
    | none => exact .nil
    | some m =>
      dsimp only
      split
      · cases m.second <;> simp
      · exact .nil
  refine List.nodup_append.2 ⟨second, by cases g.slot <;> simp, fun a ha b hb e => ?_⟩
  subst e
  obtain ⟨m, hm, -, hk⟩ := (g.mem_seamlessSlots_iff a).1 ha
  exact h m a hm hk (Option.mem_toList.1 hb)

/-! ### Ways of giving a grant up exclude each other -/

section Exclusive

variable {g : Grant} {cut : Bool}

theorem not_reserved_of_drains (h : Drains g cut) : g.state ≠ .reserved := by
  obtain ⟨-, e | e | ⟨e, -⟩⟩ := h <;> simp [e]

theorem not_reserved_of_halts (h : Halts g cut) : g.state ≠ .reserved := by
  obtain e | ⟨e, -⟩ | ⟨-, e | e | e | e⟩ := h <;> simp [e]

theorem not_drains_of_halts (h : Halts g cut) : ¬Drains g cut := by
  rintro ⟨uncut, drains⟩
  rcases h with e | ⟨e, m, hm, hard⟩ | ⟨isCut, -⟩
  · simp [e] at drains
  · rcases drains with e' | e' | ⟨-, m', hm', seamless⟩
    · simp [e] at e'
    · simp [e] at e'
    · cases hm.symm.trans hm'
      simp [hard] at seamless
  · simp [uncut] at isCut

end Exclusive

section GivenUp

variable {s v : State} {i : Fin 64} {g : Grant} {o : LastOutcome} {news cut : Bool}

theorem GivenUp.of_reserved (h : g.state = .reserved) (left : LeftAlone s v i)
    (entry : v.entry i = freedEntry (s.entry i) o) (pool : v.pool = s.pool) : GivenUp s v i g o news cut where
  reserved _ := ⟨entry, .of_pool pool []⟩
  halted halts := absurd h (not_reserved_of_halts halts)
  drained drains := absurd h (not_reserved_of_drains drains)
  second ways := absurd h (ways.elim not_reserved_of_halts not_reserved_of_drains)
  others := left.others
  records := left.records
  plan := left.plan
  levels := left.levels
  engine := left.engine
  summary := left.ports

theorem GivenUp.of_halted (h : Halts g cut) (left : LeftAlone s v i)
    (entry : v.entry i = silencedEntry (s.entry i) g o s.plan.settings.quietInterval news)
    (pool : v.pool = (s.haltSlots (g.seamlessSlots ++ g.slot.toList)).pool) : GivenUp s v i g o news cut where
  reserved hs := absurd hs (not_reserved_of_halts h)
  halted _ := by
    refine ⟨entry, fun differ => ⟨fun j hj hr => ?_, ?_⟩⟩
    · exact (SlotSent.haltSlots (Grant.haltedSlots_nodup differ) (by simp [hj]) hr).of_pool pool
    · refine ((SlotsKept.haltSlots s _).mono fun j hj => ?_).of_eq_pool pool
      rcases List.mem_append.1 hj with hj | hj
      · exact g.seamlessSlots_subset j hj
      · exact Grant.slot_mem_slotsOf (Option.mem_toList.1 hj)
  drained drains := absurd drains (not_drains_of_halts h)
  second _ differ m k hm kind hk hr := by
    have mem : k ∈ g.seamlessSlots := (g.mem_seamlessSlots_iff k).2 ⟨m, hm, kind, hk⟩
    exact (SlotSent.haltSlots (Grant.haltedSlots_nodup differ) (List.mem_append_left _ mem) hr).of_pool pool
  others := left.others
  records := left.records
  plan := left.plan
  levels := left.levels
  engine := left.engine
  summary := left.ports

theorem GivenUp.of_drained (h : Drains g cut) (left : LeftAlone s v i)
    (entry : v.entry i = drainingEntry s (s.entry i) g o news)
    (pool : v.pool = ((s.haltSlots g.seamlessSlots).rampPart g.slot (drainTime g.cls)).pool) :
    GivenUp s v i g o news cut where
  reserved hs := absurd hs (not_reserved_of_drains h)
  halted halts := absurd h (not_drains_of_halts halts)
  drained _ := by
    refine ⟨entry, fun differ => ⟨fun j hj hr => ?_, ?_⟩⟩
    · have apart : j ∉ g.seamlessSlots := fun mem => by
        obtain ⟨m, hm, -, hk⟩ := (g.mem_seamlessSlots_iff j).1 mem
        exact differ m j hm hk hj
      obtain ⟨slot, sent⟩ := s.haltSlots_other (l := g.seamlessSlots) (.inr apart)
      obtain ⟨slot', sent'⟩ := ((s.haltSlots g.seamlessSlots).rampSlot_spec (drainTime g.cls) (by rw [slot]; exact hr)).1
      rw [hj] at pool
      refine SlotSent.of_pool (t := (s.haltSlots g.seamlessSlots).rampSlot j (drainTime g.cls)) ⟨?_, ?_⟩ pool
      · rw [slot', slot]
      · rw [sent', sent]
    · refine (((SlotsKept.haltSlots s _).trans (.rampPart _ g.slot _)).mono fun j hj => ?_).of_eq_pool pool
      rcases List.mem_append.1 hj with hj | hj
      · exact g.seamlessSlots_subset j hj
      · exact Grant.slot_mem_slotsOf (Option.mem_toList.1 hj)
  second _ differ m k hm kind hk hr := by
    have mem : k ∈ g.seamlessSlots := (g.mem_seamlessSlots_iff k).2 ⟨m, hm, kind, hk⟩
    have apart : k ∉ g.slot.toList := fun own => differ m k hm hk (Option.mem_toList.1 own)
    have nodup := (List.nodup_append.1 (Grant.haltedSlots_nodup differ)).1
    obtain ⟨slot, sent⟩ := SlotSent.haltSlots nodup mem hr
    obtain ⟨slot', sent'⟩ := SlotsKept.rampPart (s.haltSlots g.seamlessSlots) g.slot (drainTime g.cls) k apart
    exact SlotSent.of_pool ⟨slot'.trans slot, sent'.trans sent⟩ pool
  others := left.others
  records := left.records
  plan := left.plan
  levels := left.levels
  engine := left.engine
  summary := left.ports

end GivenUp

/-! ### The records of a grant that is halted or drained -/

section Records

variable {s t : State} {i : Fin 64} {g x : Grant} {o : LastOutcome}

/-- A grant that enters QUIET, or is FREE at once (R66). -/
theorem Rewritten.enterQuiet (h : Rewritten s t i g x o) {news : Bool}
    (same : ∀ q, x.quieted q = { g.quieted q with news := g.news || news }) :
    LeftAlone s (t.enterQuiet i) i ∧
      (t.enterQuiet i).entry i = silencedEntry (s.entry i) g o s.plan.settings.quietInterval news := by
  have quiet := h.modGrant (f := (·.quieted t.plan.settings.quietInterval)) ⟨rfl, rfl⟩
  unfold State.enterQuiet silencedEntry
  dsimp only
  rw [h.plan]
  rw [h.plan] at quiet
  split
  · exact quiet.freed
  · refine ⟨quiet.leftAlone, ?_⟩
    rw [quiet.entry, same]
    rfl

theorem State.pool_enterQuiet (t : State) (i : Fin 64) : (t.enterQuiet i).pool = t.pool := by
  unfold State.enterQuiet
  dsimp only
  split <;> simp

theorem Rewritten.rampPart (h : Rewritten s t i g x o) (p : Option SlotId) (n : Nat) :
    Rewritten s (t.rampPart p n) i g x o := by
  cases p with
  | none => exact h
  | some j =>
    exact h.of_pool (State.rampSlot_table ..) (State.rampSlot_profiles ..) (State.rampSlot_monitor ..)
      (State.rampSlot_pool_startUp ..) (State.rampSlot_plan ..) (State.rampSlot_levels ..) (State.rampSlot_engine ..)
      (State.rampSlot_ports ..)

theorem drainInterval_eq (c : Cls) : drainInterval c = drainTime c := by cases c <;> rfl

/-- A grant that enters DRAINING (R63). -/
theorem Rewritten.enterDraining (h : Rewritten s t i g x o) (p : Option SlotId) :
    Rewritten s (t.enterDraining i p g.cls) i g x.drained o := by
  rw [State.enterDraining_eq]
  exact (h.modGrant ⟨rfl, rfl⟩).rampPart p _

theorem State.pool_enterDraining (t : State) (i : Fin 64) (p : Option SlotId) (c : Cls) :
    (t.enterDraining i p c).pool = (t.rampPart p (drainTime c)).pool := by
  rw [State.enterDraining_eq, drainInterval_eq]
  exact State.pool_rampPart_congr (State.modGrant_pool ..) p _

/-- A grant that carries after it has left its seamless move: its load counts once (R62). -/
def Grant.leftMove (g : Grant) (u : LevelUnit) : Grant :=
  { g with state := g.carryState, move := none, counted := g.width * weight (u.effective g) }

theorem Rewritten.leaveSeamless (h : Rewritten s t i g x o) (p : Option SlotId) :
    Rewritten s (t.leaveSeamless i p) i g (x.leftMove s.levels) o := by
  have left := ((h.haltPart p).modGrant (f := fun g => { g with state := g.carryState, move := none }) ⟨rfl, rfl⟩).recount
  have levels : ((t.haltPart p).modGrant i fun g => { g with state := g.carryState, move := none }).levels = s.levels := by
    simp [h.levels]
  have follows : x.carryState.follows = true := by
    unfold Grant.carryState
    split <;> rfl
  rw [levels, LevelUnit.recount_follows s.levels (g := { x with state := x.carryState, move := none }) follows] at left
  have single : ({ x with state := x.carryState, move := none } : Grant).copies = 1 := rfl
  rw [single, Nat.one_mul] at left
  exact left

theorem State.pool_leaveSeamless (t : State) (i : Fin 64) (p : Option SlotId) :
    (t.leaveSeamless i p).pool = (t.haltPart p).pool := by
  simp [State.leaveSeamless, State.recount]

end Records

end Sys2Proof.Machine
end

section
/-! ## Grants given up and timers run out (R50, R57 to R66): by the state of the grant, and what follows in the event -/

namespace Sys2Proof.Machine

/-! ### By the state of the grant -/

section ByState

variable {s : State} {i : Fin 64} {g : Grant} (hg : s.grant? i = some g) (o : LastOutcome) (byTenant : Bool)

/-- The state in which a grant is given up: its outcome and its news are written. -/
def State.notedFor (s : State) (i : Fin 64) (o : LastOutcome) (byTenant : Bool) : State :=
  (s.setOutcome i o).modGrant i (·.withNews byTenant)

theorem State.pool_notedFor (s : State) (i : Fin 64) (o : LastOutcome) (byTenant : Bool) :
    (s.notedFor i o byTenant).pool = s.pool := by
  simp [State.notedFor]

include hg

/-- A grant that halts on its own slot, with no seamless move. -/
theorem givenUp_halt {cut : Bool} (h : Halts g cut) (none : g.seamlessSlots = []) :
    GivenUp s (((s.notedFor i o byTenant).haltPart g.slot).enterQuiet i) i g o (!byTenant) cut := by
  obtain ⟨left, entry⟩ := ((Rewritten.noted hg o byTenant).haltPart g.slot).enterQuiet (news := !byTenant) fun _ => rfl
  refine GivenUp.of_halted h left entry ?_
  rw [none, State.pool_enterQuiet]
  exact State.pool_haltPart_append (l := []) (s.pool_notedFor i o byTenant) g.slot

/-- A grant that carries and has no move. -/
theorem givenUp_carrying {cut : Bool} (carries : g.state = .live ∨ g.state = .impaired) (still : g.move = none) :
    GivenUp s ((s.notedFor i o byTenant).takeOffAir i g.slot g.cls cut) i g o (!byTenant) cut := by
  have none := Grant.seamlessSlots_of_none still
  have notMoving : g.state ≠ .moving := by rcases carries with e | e <;> simp [e]
  unfold State.takeOffAir
  cases cut with
  | true => exact givenUp_halt hg o byTenant (.inr (.inr ⟨rfl, carries.imp_right .inl⟩)) none
  | false =>
    have drained := (Rewritten.noted hg o byTenant).enterDraining g.slot
    refine GivenUp.of_drained ⟨rfl, carries.imp_right .inl⟩ drained.leftAlone ?_ ?_
    · refine drained.entry.trans ?_
      simp only [drainingEntry, if_neg notMoving, Grant.drained, Grant.withNews, still, drainInterval_eq]
    · rw [none]
      exact (State.pool_enterDraining ..).trans (State.pool_rampPart_congr (s.pool_notedFor i o byTenant) _ _)

/-- A grant in a seamless move: it leaves the move, and goes off the air on its own slot (R62). -/
theorem givenUp_seamless {cut : Bool} {m : MoveContext} (moving : g.state = .moving) (hm : g.move = some m)
    (seamless : m.kind = .seamless) :
    GivenUp s (((s.notedFor i o byTenant).leaveSeamless i m.second).takeOffAir i g.slot g.cls cut) i g o (!byTenant)
      cut := by
  have left := (Rewritten.noted hg o byTenant).leaveSeamless m.second
  have pool : ((s.notedFor i o byTenant).leaveSeamless i m.second).pool = (s.haltSlots g.seamlessSlots).pool := by
    rw [State.pool_leaveSeamless, Grant.seamlessSlots_of_seamless hm seamless]
    exact State.pool_haltPart_append (l := []) (s.pool_notedFor i o byTenant) m.second
  unfold State.takeOffAir
  cases cut with
  | true =>
    obtain ⟨alone, entry⟩ := (left.haltPart g.slot).enterQuiet (news := !byTenant) fun _ => rfl
    refine GivenUp.of_halted (.inr (.inr ⟨rfl, .inr (.inr (.inl moving))⟩)) alone entry ?_
    exact (State.pool_enterQuiet ..).trans (State.pool_haltPart_append pool g.slot)
  | false =>
    have drained := left.enterDraining g.slot
    refine GivenUp.of_drained ⟨rfl, .inr (.inr ⟨moving, m, hm, seamless⟩)⟩ drained.leftAlone ?_ ?_
    · refine drained.entry.trans ?_
      simp only [drainingEntry, if_pos moving, Grant.drained, Grant.leftMove, Grant.withNews, drainInterval_eq]
      rfl
    · exact (State.pool_enterDraining ..).trans (State.pool_rampPart_congr pool _ _)

/-- A grant that can be given up is, by its state (R57 to R62). -/
theorem givenUp (law : g.state = .moving ↔ g.move.isSome = true) {cut : Bool}
    (able : ¬(g.state = .quiet ∨ (g.state = .draining ∧ cut = false))) :
    GivenUp s ((s.notedFor i o byTenant).giveUp i g cut) i g o (!byTenant) cut := by
  have still : g.state ≠ .moving → g.move = none := fun hs => by
    rw [← Option.not_isSome_iff_eq_none, ← law]
    exact hs
  have halt : ∀ h : Halts g cut, g.seamlessSlots = [] → _ := givenUp_halt hg o byTenant
  unfold State.giveUp
  cases hs : g.state with
  | reserved =>
    obtain ⟨left, entry⟩ := (Rewritten.noted hg o byTenant).freed
    exact GivenUp.of_reserved hs left entry ((State.freeEntry_pool ..).trans (s.pool_notedFor i o byTenant))
  | tuning => exact halt (.inl hs) (Grant.seamlessSlots_of_none (still (by simp [hs])))
  | live => exact givenUp_carrying hg o byTenant (.inl hs) (still (by simp [hs]))
  | impaired => exact givenUp_carrying hg o byTenant (.inr hs) (still (by simp [hs]))
  | moving =>
    obtain ⟨m, hm⟩ := Option.isSome_iff_exists.1 (law.1 hs)
    simp only [hm]
    cases kind : m.kind with
    | seamless => exact givenUp_seamless hg o byTenant hs hm kind
    | hard => exact halt (.inr (.inl ⟨hs, m, hm, kind⟩)) (Grant.seamlessSlots_of_hard hm kind)
  | draining =>
    have isCut : cut = true := by simpa [hs] using able
    subst isCut
    exact halt (.inr (.inr ⟨rfl, .inr (.inr (.inr hs))⟩)) (Grant.seamlessSlots_of_none (still (by simp [hs])))
  | quiet => exact absurd (.inl hs) able

/-- What follows in the event in which a grant is given up is its aftermath (R126, R154, R159). -/
theorem State.endGrant_eq (cut : Bool) :
    s.endGrant i o byTenant cut = aftermath s ((s.notedFor i o byTenant).giveUp i g cut) i g := by
  simp only [State.endGrant, hg, aftermath, State.notedFor, Bool.or_eq_true, Option.isNone_iff_eq_none]
  cases g.move <;> rfl

end ByState

/-! ### What the move engine does to a grant that is going (R157) -/

/-- The entry is FREE, or its grant is DRAINING or QUIET. -/
def Entry.Going (e : Entry) : Prop := ∀ g, e.grant = some g → g.state = .draining ∨ g.state = .quiet

section Going

variable {s : State} {i : Fin 64}

/-- A repack chooses no step for a grant that is going. -/
theorem State.ne_of_chooseStep (going : (s.entry i).Going) {b : Band} {k : Fin 64} {n : Nat}
    (h : s.chooseStep b = some (k, n)) : i ≠ k := by
  rintro rfl
  obtain ⟨g, hg, candidate, -⟩ := State.chooseStep_spec h
  obtain ⟨-, -, state⟩ := g.repackable_iff.1 candidate
  rcases going g hg with e | e <;> simp [e] at state

theorem State.entry_repackSteps (b : Band) (n : Nat) :
    ∀ s : State, (s.entry i).Going → (s.repackSteps b n).entry i = s.entry i := by
  induction n with
  | zero => exact fun s _ => State.entry_congr (by rw [State.repackSteps, State.endRepack_table]) i
  | succ n ih =>
    intro s going
    unfold State.repackSteps
    split
    · exact State.entry_congr (by rw [State.endRepack_table]) i
    · rename_i k start chosen
      have ne : i ∉ [k] := fun h => State.ne_of_chooseStep going chosen (List.mem_singleton.1 h)
      split
      · rfl
      · rename_i g hg
        split
        · have moved : ((s.moveReserved k start false).countMove.noteFrag b).entry i = s.entry i :=
            (State.entry_congr (by simp) i).trans ((s.moveReserved_spec hg start false).others i ne)
          exact (ih _ (by rw [moved]; exact going)).trans moved
        · split
          · exact State.entry_congr (by rw [State.endRepack_table]) i
          · rename_i j _
            exact (State.entry_congr (by simp) i).trans (EntriesKept.beginMove s k start .seamless .repack j false i ne)

theorem State.entry_continueRepack (going : (s.entry i).Going) : s.continueRepack.entry i = s.entry i := by
  unfold State.continueRepack
  split
  · rfl
  · exact State.entry_repackSteps _ _ s going

theorem State.entry_startRepack (b : Band) (going : (s.entry i).Going) : (s.startRepack b).entry i = s.entry i := by
  unfold State.startRepack
  have same : (s.withRepack { s.engine.repack with running := true, band := some b, moves := 0 }).entry i = s.entry i :=
    State.entry_congr (by simp) i
  exact (State.entry_continueRepack (by rw [same]; exact going)).trans same

theorem State.entry_refreshFrag (b : Band) (going : (s.entry i).Going) : (s.refreshFrag b).entry i = s.entry i := by
  have noted : (s.noteFrag b).entry i = s.entry i := State.entry_congr (by simp) i
  unfold State.refreshFrag
  dsimp only
  split
  · exact (State.entry_startRepack b (by rw [noted]; exact going)).trans noted
  · exact noted

theorem State.entry_repackAfter (origin : MoveOrigin) (going : (s.entry i).Going) :
    (s.repackAfter origin .left).entry i = s.entry i := by
  unfold State.repackAfter
  split
  · exact State.entry_continueRepack going
  · rfl

end Going

/-- The state code of an entry whose grant is going stays through what follows in the event. -/
theorem stateCode_aftermath {s v : State} {i : Fin 64} (g : Grant) (going : (v.entry i).Going) :
    ((aftermath s v i g).entry i).stateCode = (v.entry i).stateCode := by
  obtain ⟨n, e⟩ := noteLoad_sameButLoads s v i
  have goes : ((noteLoad s v).entry i).Going := by
    rw [e]
    intro x hx
    obtain ⟨y, hy, rfl⟩ := Option.map_eq_some_iff.1 hx
    exact going y hy
  have code : ((noteLoad s v).entry i).stateCode = (v.entry i).stateCode := by
    rw [e, Entry.stateCode, Entry.stateCode]
    rw [State.grant?]
    cases (v.entry i).grant <;> rfl
  have refreshed : ∀ t : State, (t = if g.move.isSome = true ∨ (noteLoad s v).grant? i = none then
      (noteLoad s v).refreshFrag g.band else noteLoad s v) → t.entry i = (noteLoad s v).entry i := by
    rintro t rfl
    split
    · exact State.entry_refreshFrag g.band goes
    · rfl
  unfold aftermath
  dsimp only
  have same := refreshed _ rfl
  split
  · rw [same, code]
  · rename_i m _
    rw [State.entry_repackAfter m.origin (by rw [same]; exact goes), same, code]

end Sys2Proof.Machine
end

section
/-! ## WITHDRAW, REVOKE and the timers of a grant (R50, R57 to R66) -/

namespace Sys2Proof.Machine

/-! ### The answer to a WITHDRAW or REVOKE (R58, R61) -/

theorem State.endedReply_draining {s : State} {i : Fin 64} (h : (s.entry i).stateCode = 6) :
    s.endedReply i = (s, ⟨.accepted, [6]⟩) := by
  simp only [State.endedReply, h]
  rfl

theorem State.endedReply_done {s : State} {i : Fin 64} (h : (s.entry i).stateCode ≠ 6) :
    s.endedReply i = (s, ⟨.done, [byte (s.entry i).stateCode]⟩) := if_neg h

theorem freedEntry_going (e : Entry) (o : LastOutcome) : (freedEntry e o).Going := by
  intro x hx
  cases hx

theorem silencedEntry_going (e : Entry) (g : Grant) (o : LastOutcome) (q : Nat) (news : Bool) :
    (silencedEntry e g o q news).Going := by
  unfold silencedEntry
  split
  · exact freedEntry_going e o
  · rintro x ⟨⟩
    exact .inr rfl

theorem silencedEntry_stateCode (e : Entry) (g : Grant) (o : LastOutcome) (q : Nat) (news : Bool) :
    (silencedEntry e g o q news).stateCode = if q = 0 then 0 else 7 := by
  unfold silencedEntry
  split <;> rfl

theorem drainingEntry_going (s : State) (e : Entry) (g : Grant) (o : LastOutcome) (news : Bool) :
    (drainingEntry s e g o news).Going := by
  rintro x ⟨⟩
  exact .inl rfl

section Answer

variable {s v : State} {i : Fin 64} {g : Grant} {o : LastOutcome} {news cut : Bool}
  (h : GivenUp s v i g o news cut)

include h

theorem endedReply_of_drains (drains : Drains g cut) :
    (aftermath s v i g).endedReply i = (aftermath s v i g, ⟨.accepted, [6]⟩) := by
  obtain ⟨entry, -⟩ := h.drained drains
  refine State.endedReply_draining ?_
  rw [stateCode_aftermath g (by rw [entry]; exact drainingEntry_going _ _ _ _ _), entry]
  rfl

theorem endedReply_of_halts (halts : Halts g cut) :
    (aftermath s v i g).endedReply i =
      (aftermath s v i g, ⟨.done, [if s.plan.settings.quietInterval = 0 then 0 else 7]⟩) := by
  obtain ⟨entry, -⟩ := h.halted halts
  have code : ((aftermath s v i g).entry i).stateCode = if s.plan.settings.quietInterval = 0 then 0 else 7 := by
    rw [stateCode_aftermath g (by rw [entry]; exact silencedEntry_going _ _ _ _ _), entry, silencedEntry_stateCode]
  rw [State.endedReply_done (by rw [code]; split <;> decide), code]
  split <;> rfl

theorem endedReply_of_reserved (reserved : g.state = .reserved) :
    (aftermath s v i g).endedReply i = (aftermath s v i g, ⟨.done, [0]⟩) := by
  obtain ⟨entry, -⟩ := h.reserved reserved
  have code : ((aftermath s v i g).entry i).stateCode = 0 := by
    rw [stateCode_aftermath g (by rw [entry]; exact freedEntry_going _ _), entry]
    rfl
  rw [State.endedReply_done (by rw [code]; decide), code]
  rfl

end Answer

theorem GrantState.givenUp_iff (x : GrantState) : x.givenUp = true ↔ x = .draining ∨ x = .quiet := by
  cases x <;> simp [GrantState.givenUp]

theorem revokeRefused_iff (cut : Bool) (x : GrantState) :
    revokeRefused cut x = true ↔ x = .quiet ∨ (x = .draining ∧ cut = false) := by
  simp [revokeRefused]

/-- Every answer to a request that gives its grant up (R58, R61). -/
theorem givesUp {s : State} {src : Source} {f : Frame} {row : Instr} {handler : Handler} (takes : Takes s src f row)
    (hexec : exec row s = .next (s.serve row handler)) {i : Fin 64} {g : Grant}
    (hg : (s.taken src).grant? i = some g) (law : g.state = .moving ↔ g.move.isSome = true) {o : LastOutcome}
    {byTenant cut : Bool} (able : ¬(g.state = .quiet ∨ (g.state = .draining ∧ cut = false)))
    (handled : handler (requestOf src.port f) (s.taken src) = ((s.taken src).endGrant i o byTenant cut).endedReply i) :
    ∃ v, GivenUp (s.taken src) v i g o (!byTenant) cut ∧
      (Drains g cut → Does row s src f (aftermath (s.taken src) v i g) .accepted [6]) ∧
      (Halts g cut → Does row s src f (aftermath (s.taken src) v i g) .done
        [if (s.taken src).plan.settings.quietInterval = 0 then 0 else 7]) ∧
      (g.state = .reserved → Does row s src f (aftermath (s.taken src) v i g) .done [0]) := by
  rw [State.endGrant_eq hg] at handled
  have given := givenUp hg o byTenant law able
  refine ⟨_, given, fun drains => does_of_handler takes hexec ?_, fun halts => does_of_handler takes hexec ?_,
    fun reserved => does_of_handler takes hexec ?_⟩
  · rw [handled, endedReply_of_drains given drains]
  · rw [handled, endedReply_of_halts given halts]
  · rw [handled, endedReply_of_reserved given reserved]

/-! ### WITHDRAW and REVOKE after their common checks -/

section Handled

variable {r : Req} {s : State} {i : Fin 64} {g : Grant} (names : Names r s i g)

include names

theorem withdraw_eq (may : MayAct r s i) :
    withdraw r s =
      if g.state.givenUp then refuse s .badState
      else if g.hold = .pinned then refuse s .pinned
      else if g.hold = .held ∧ r.port = .tenant then refuse s .held
      else (s.endGrant i .withdrawn r.byTenant false).endedReply i := ownHandle_pass names may rfl

theorem revoke_eq (port : r.port = .management) {cut : Bool} (hc : r.byte 2 = cut.toNat) :
    revoke r s =
      if revokeRefused cut g.state then refuse s .badState
      else if g.hold = .pinned then refuse s .pinned
      else (s.endGrant i .revoked false cut).endedReply i := by
  simp only [revoke, (yesNoOfCode_eq_some_iff ..).2 hc]
  exact managementHandle_pass names port rfl

end Handled

/-! ### The timers of a grant (R50, R57, R64, R66) -/

section Timers

variable {s : State} {i : Fin 64} {g : Grant}

theorem State.onGrant_eq (running : s.ports.resetHeld = false) (hg : s.grant? i = some g) (run : Grant → State) :
    s.onGrant i run = run g := by
  simp only [State.onGrant, hg, State.whileRunning, running]
  rfl

theorem GrantState.leaseRuns_iff (x : GrantState) :
    x.leaseRuns = true ↔ x = .tuning ∨ x = .live ∨ x = .impaired ∨ x = .moving := by
  cases x <;> simp [GrantState.leaseRuns]

/-- The entry of a grant is freed with its outcome written, or as it stands. -/
theorem State.outcomeFreed (hg : s.grant? i = some g) (o : LastOutcome) :
    LeftAlone s ((s.setOutcome i o).freeEntry i) i ∧
      ((s.setOutcome i o).freeEntry i).entry i = freedEntry (s.entry i) o :=
  (Rewritten.outcome hg o).freed

theorem State.setOutcome_self (s : State) (i : Fin 64) : s.setOutcome i (s.entry i).lastOutcome = s := by
  have same : ({ s.entry i with lastOutcome := (s.entry i).lastOutcome } : Entry) = s.table.entries[i.val] := rfl
  rw [State.setOutcome, same, State.setEntry, Vector.set_getElem_self]

/-- A grant whose drain has ended leaves its slot with news (R64). -/
def State.drainEnded (s : State) (i : Fin 64) (g : Grant) : State :=
  ((s.modGrant i fun g => { g with news := true }).haltPart g.slot).enterQuiet i

theorem State.endDrain_eq (still : g.move = none) : s.endDrain i g = aftermath s (s.drainEnded i g) i g := by
  simp only [State.endDrain, aftermath, still, Option.isSome_none, Option.isNone_iff_eq_none, State.drainEnded]
  simp

theorem State.drainEnded_spec (hg : s.grant? i = some g) :
    LeftAlone s (s.drainEnded i g) i ∧
      (s.drainEnded i g).entry i =
        silencedEntry (s.entry i) g (s.entry i).lastOutcome s.plan.settings.quietInterval true := by
  have noted := (Rewritten.outcome hg (s.entry i).lastOutcome).modGrant (f := fun g => { g with news := true }) ⟨rfl, rfl⟩
  rw [State.setOutcome_self] at noted
  exact (noted.haltPart g.slot).enterQuiet fun q => by rw [Bool.or_true]; rfl

theorem State.pool_drainEnded (s : State) (i : Fin 64) (g : Grant) :
    (s.drainEnded i g).pool = (s.haltSlots g.slot.toList).pool :=
  (State.pool_enterQuiet ..).trans (State.pool_haltPart_append (l := []) (State.modGrant_pool ..) g.slot)

end Timers

/-- News is set unless the grant's own tenant asked for the event (R72). -/
theorem Req.not_byTenant (p : Port) (f : Frame) : (!(requestOf p f).byTenant) = decide (p = .management) := by
  cases p <;> rfl

end Sys2Proof.Machine

namespace Sys2Proof.Proofs
open Sys2Proof.Machine

/-- Settles O31: the protections in their order, then the grant given up by its state with what follows in the event. -/
theorem withdrawAndRevokeGiveUp : Obligations.WithdrawAndRevokeGiveUp := by
  intro s src f
  dsimp only
  intro i g names moves
  have law := moves i g names.grant
  refine ⟨fun takes may => ?_, fun takes port cut hc => ?_⟩
  · have handled := withdraw_eq names may
    refine ⟨fun gone => does_of_handler takes rfl ?_, fun on pinned => does_of_handler takes rfl ?_,
      fun on held tenant => does_of_handler takes rfl ?_, fun on loose free => ?_⟩
    · rw [handled, if_pos ((GrantState.givenUp_iff _).2 gone)]
      rfl
    · rw [handled, if_neg fun h => on ((GrantState.givenUp_iff _).1 h), if_pos pinned]
      rfl
    · rw [handled, if_neg fun h => on ((GrantState.givenUp_iff _).1 h), if_neg (by simp [held]),
        if_pos ⟨held, tenant⟩]
      rfl
    · rw [if_neg fun h => on ((GrantState.givenUp_iff _).1 h), if_neg loose, requestOf_port, if_neg free] at handled
      rw [← Req.not_byTenant src.port f]
      exact givesUp takes rfl names.grant law (fun h => on (h.symm.imp_left And.left)) handled
  · have handled := revoke_eq names port hc
    refine ⟨fun gone => does_of_handler takes rfl ?_, fun on pinned => does_of_handler takes rfl ?_, fun on loose => ?_⟩
    · rw [handled, if_pos ((revokeRefused_iff ..).2 gone)]
      rfl
    · rw [handled, if_neg fun h => on ((revokeRefused_iff ..).1 h), if_pos pinned]
      rfl
    · rw [if_neg fun h => on ((revokeRefused_iff ..).1 h), if_neg loose] at handled
      exact givesUp takes rfl names.grant law on handled

/-- Settles O32, timer by timer. -/
theorem grantTimersRunOut : Obligations.GrantTimersRunOut := by
  intro s i g running hg moves
  have law := moves i g hg
  refine ⟨fun reserved holds => ?_, fun runs leased => ?_, fun draining => ?_, fun quiet => ?_⟩
  · have due : g.holdRuns = true := by simp [Grant.holdRuns, reserved, holds]
    obtain ⟨left, entry⟩ := State.outcomeFreed hg .lapsed
    refine ⟨_, ?_, entry, left.others, left.records, by simp, left.plan, left.levels, left.engine, left.ports⟩
    rw [exec, execHoldTimerExpiry, State.onGrant_eq running hg, if_pos due, State.freeByTimer]
  · have due : g.leaseRuns = true := Bool.and_eq_true_iff.2 ⟨(GrantState.leaseRuns_iff _).2 runs, leased⟩
    have able : ¬(g.state = .quiet ∨ (g.state = .draining ∧ false = false)) := by
      rcases runs with e | e | e | e <;> simp [e]
    refine ⟨_, ?_, givenUp hg .expired false law able⟩
    rw [exec, execLeaseExpiry, State.onGrant_eq running hg, if_pos due, State.endGrant_eq hg]
  · have still : g.move = none := by
      rw [← Option.not_isSome_iff_eq_none, ← law]
      simp [draining]
    obtain ⟨left, entry⟩ := State.drainEnded_spec hg
    have pool := s.pool_drainEnded i g
    refine ⟨_, ?_, entry, fun j hj hr => ?_, (SlotsKept.haltSlots s _).of_eq_pool pool, left.others, left.records,
      left.plan, left.levels, left.engine, left.ports⟩
    · rw [exec, execDrainTimerExpiry, State.onGrant_eq running hg, if_pos draining, State.endDrain_eq still]
    · rw [hj] at pool
      exact (SlotSent.haltSlots (List.nodup_singleton j) (List.mem_singleton_self j) hr).of_pool pool
  · obtain ⟨left, entry⟩ := State.outcomeFreed hg (s.entry i).lastOutcome
    rw [State.setOutcome_self] at left entry
    refine ⟨_, ?_, entry, left.others, left.records, by simp, left.plan, left.levels, left.engine, left.ports⟩
    rw [exec, execQuietTimerExpiry, State.onGrant_eq running hg, if_pos quiet, State.freeByTimer]

end Sys2Proof.Proofs
end

section
/-! ## What the part does of its own accord: the expiries in their order, and one millisecond (log entries 4 to 6) -/

namespace Sys2Proof.Machine

/-! ### The first of a range at which a search finds something -/

theorem findSome_finRange {n : Nat} {β : Type} {f : Fin n → Option β} {i : Fin n} {b : β} (found : f i = some b)
    (before : ∀ k, k < i → f k = none) : (List.finRange n).findSome? f = some b := by
  obtain ⟨l, m, split⟩ := List.append_of_mem (List.mem_finRange i)
  have ordered : (l ++ i :: m).Pairwise (· < ·) := split ▸ List.pairwise_lt_finRange n
  have earlier : ∀ k ∈ l, k < i := fun k hk =>
    (List.pairwise_append.1 ordered).2.2 k hk i List.mem_cons_self
  exact List.findSome?_eq_some_iff.2 ⟨l, i, m, split, found, fun k hk => before k (earlier k hk)⟩

theorem findSome_finRange_none {n : Nat} {β : Type} {f : Fin n → Option β} (nothing : ∀ k, f k = none) :
    (List.finRange n).findSome? f = none := List.findSome?_eq_none_iff.2 fun k _ => nothing k

variable {s : State}

/-! ### The expiries that are due -/

theorem dueOnGrant_iff (i : Fin 64) (c : Instr) : DueOnGrant s i c ↔ s.dueOnGrant i = some c := by
  unfold DueOnGrant State.dueOnGrant
  cases hg : s.grant? i with
  | none => simp
  | some g =>
    have second : Config.msPerSecond = 1000 := rfl
    simp only [Option.some.injEq, exists_eq_left', Grant.holdRuns, Grant.leaseRuns, second]
    cases hs : g.state <;> simp [GrantState.leaseRuns, eq_comm (a := c), and_assoc]

theorem dueOnGrant_eq_none_iff (i : Fin 64) : (∀ c, ¬DueOnGrant s i c) ↔ s.dueOnGrant i = none := by
  simp only [dueOnGrant_iff, Option.eq_none_iff_forall_ne_some, ne_eq]

theorem dueOnSlot_of_due {j : SlotId} (h : DueOnSlot s j) :
    s.dueOnSlot j = some (.lockTimeout (slotBand j) (slotNumber j)) := by
  obtain ⟨a, tuning, out⟩ := h
  simp only [State.dueOnSlot, tuning, out, if_true]

theorem dueOnSlot_of_not_due {j : SlotId} (h : ¬DueOnSlot s j) : s.dueOnSlot j = none := by
  unfold State.dueOnSlot
  split
  · rename_i a tuning
    exact if_neg fun out => h ⟨a, tuning, out⟩
  · rfl

theorem dueOnProfile_of_due {k : Fin 8} (h : DueOnProfile s k) : s.dueOnProfile k = some (.settleTimerExpiry k) :=
  if_pos h

theorem dueOnProfile_of_not_due {k : Fin 8} (h : ¬DueOnProfile s k) : s.dueOnProfile k = none := if_neg h

/-- The expiry of a grant comes before all others. -/
theorem State.dueExpiry_of_grant {i : Fin 64} {c : Instr} (due : DueOnGrant s i c)
    (before : ∀ k, k < i → ∀ c', ¬DueOnGrant s k c') : s.dueExpiry = some c := by
  have found : entryNumbers.findSome? s.dueOnGrant = some c :=
    findSome_finRange ((dueOnGrant_iff i c).1 due) fun k lt => (dueOnGrant_eq_none_iff k).1 (before k lt)
  rw [State.dueExpiry, found]
  rfl

theorem State.findSome_dueOnSlot (noSlot : ∀ j, ¬DueOnSlot s j) : slotIds.findSome? s.dueOnSlot = none :=
  findSome_finRange_none fun j => dueOnSlot_of_not_due (noSlot j)

section NoGrant

variable (noGrant : ∀ i c, ¬DueOnGrant s i c)

include noGrant

theorem State.findSome_dueOnGrant : entryNumbers.findSome? s.dueOnGrant = none :=
  findSome_finRange_none fun i => (dueOnGrant_eq_none_iff i).1 (noGrant i)

theorem State.dueExpiry_of_slot {j : SlotId} (due : DueOnSlot s j) (before : ∀ k, k < j → ¬DueOnSlot s k) :
    s.dueExpiry = some (.lockTimeout (slotBand j) (slotNumber j)) := by
  have found : slotIds.findSome? s.dueOnSlot = some (.lockTimeout (slotBand j) (slotNumber j)) :=
    findSome_finRange (dueOnSlot_of_due due) fun k lt => dueOnSlot_of_not_due (before k lt)
  rw [State.dueExpiry, State.findSome_dueOnGrant noGrant, found]
  rfl

variable (noSlot : ∀ j, ¬DueOnSlot s j)

include noSlot

theorem State.dueExpiry_of_profile {k : Fin 8} (due : DueOnProfile s k) (before : ∀ k', k' < k → ¬DueOnProfile s k') :
    s.dueExpiry = some (.settleTimerExpiry k) := by
  have found : (List.finRange 8).findSome? s.dueOnProfile = some (.settleTimerExpiry k) :=
    findSome_finRange (dueOnProfile_of_due due) fun k' lt => dueOnProfile_of_not_due (before k' lt)
  rw [State.dueExpiry, State.findSome_dueOnGrant noGrant, State.findSome_dueOnSlot noSlot, found]
  rfl

/-- Without an expiry on a grant, a slot or a profile that of the monitor is next. -/
theorem State.dueExpiry_of_monitor (noProfile : ∀ k, ¬DueOnProfile s k) : s.dueExpiry = s.monitor.due := by
  have none : (List.finRange 8).findSome? s.dueOnProfile = none :=
    findSome_finRange_none fun k => dueOnProfile_of_not_due (noProfile k)
  rw [State.dueExpiry, State.findSome_dueOnGrant noGrant, State.findSome_dueOnSlot noSlot, none]
  rfl

end NoGrant

theorem Monitor.due_of_sense {m : Monitor} (h : m.periodTimer ≠ some 0) {x : Measurement} (hx : m.inFlight = some x)
    (out : x.timeout = 0) : m.due = some .senseTimeout := by
  simp [Monitor.due, h, hx, out]

theorem Monitor.due_eq_none {m : Monitor} (h : m.periodTimer ≠ some 0)
    (runs : ∀ x, m.inFlight = some x → x.timeout ≠ 0) : m.due = none := by
  have none : (m.inFlight.any fun x => x.timeout == 0) = false := by
    cases hx : m.inFlight with
    | none => rfl
    | some x => simpa using runs x hx
  simp [Monitor.due, h, none]

/-! ### The part's own next event -/

theorem State.ownEvent_of_due (running : s.ports.resetHeld = false) {c : Instr} (h : s.dueExpiry = some c) :
    s.ownEvent = some c := by
  simp [State.ownEvent, running, h]

theorem State.ownEvent_of_frame (running : s.ports.resetHeld = false) (h : s.dueExpiry = none) {src : Source} {f : Frame}
    (hf : s.nextFrame = some (src, f)) : s.ownEvent = some (s.rowOf src f) := by
  simp [State.ownEvent, running, h, hf]

theorem State.ownEvent_of_asks (running : s.ports.resetHeld = false) (h : s.dueExpiry = none)
    (hf : s.nextFrame = none) : s.ownEvent = if s.engine.asks = [] then none else some .automaticMove := by
  simp [State.ownEvent, running, h, hf]

theorem State.rowOf_eq (src : Source) (f : Frame) :
    s.rowOf src f = if s.pool.startUp = true then .notReadyAnswer else (goodForm src.port f).getD .badRequestFrame := by
  unfold State.rowOf
  cases goodForm src.port f <;> rfl

theorem ownEventInOrder (s : State) : OwnEventInOrder s := by
  refine ⟨fun held => by simp [State.ownEvent, held], fun running => ⟨fun i c due before =>
    State.ownEvent_of_due running (State.dueExpiry_of_grant due before), fun noGrant => ⟨fun j due before =>
      State.ownEvent_of_due running (State.dueExpiry_of_slot noGrant due before), fun noSlot => ⟨fun k due before =>
        State.ownEvent_of_due running (State.dueExpiry_of_profile noGrant noSlot due before), fun noProfile => ?_⟩⟩⟩⟩
  have monitor := State.dueExpiry_of_monitor noGrant noSlot noProfile
  refine ⟨fun period => ?_, fun noPeriod => ⟨fun x hx out => ?_, fun runs => ?_⟩⟩
  · exact State.ownEvent_of_due running (monitor.trans (if_pos period))
  · exact State.ownEvent_of_due running (monitor.trans (Monitor.due_of_sense noPeriod hx out))
  · have none := monitor.trans (Monitor.due_eq_none noPeriod runs)
    refine ⟨fun src f hf => ?_, fun hf asks => ?_, fun hf asks => ?_⟩
    · rw [State.ownEvent_of_frame running none hf, State.rowOf_eq]
    · rw [State.ownEvent_of_asks running none hf, if_neg asks]
    · rw [State.ownEvent_of_asks running none hf, if_pos asks]

/-! ### One millisecond -/

section Second

variable {secs gone : Nat}

theorem secondsTick_within (h : gone < 999) : secondsTick secs gone = (secs, gone + 1) := by
  have second : Config.msPerSecond = 1000 := rfl
  rw [secondsTick, if_pos (by omega)]

theorem secondsTick_next (h : 999 ≤ gone) (more : 1 < secs) : secondsTick secs gone = (secs - 1, 0) := by
  have second : Config.msPerSecond = 1000 := rfl
  rw [secondsTick, if_neg (by omega), if_pos more]

/-- The last millisecond of the last second. -/
theorem secondsTick_last (h : 999 ≤ gone) (last : secs ≤ 1) : secondsTick secs gone = (secs, 1000) := by
  have second : Config.msPerSecond = 1000 := rfl
  rw [secondsTick, if_neg (by omega), if_neg (by omega), second]

end Second

theorem State.grant_tick {i : Fin 64} {g : Grant} (hg : s.grant? i = some g) : s.tick.grant? i = some g.tick := by
  rw [State.grant?, State.entry_tick]
  exact congrArg (Option.map Grant.tick) hg

theorem State.slot_tick (s : State) (j : SlotId) : s.tick.slot j = (s.slot j).tick := by
  simp [State.slot, State.tick]

theorem State.profile_tick (s : State) (k : Fin 8) : s.tick.profile k = (s.profile k).tick := by
  simp [State.profile, State.tick]

section GrantTick

variable {g : Grant}

theorem Grant.leaseTicked_of_runs {n : Nat} (runs : g.leaseRuns = true) (hn : g.lease = some n) :
    g.leaseTicked = { g with lease := some (secondsTick n g.leaseMs).1, leaseMs := (secondsTick n g.leaseMs).2 } := by
  simp only [Grant.leaseTicked, hn, runs, if_true]

theorem Grant.leaseTicked_of_stopped (stopped : g.leaseRuns = false) : g.leaseTicked = g := by
  unfold Grant.leaseTicked
  split
  · rw [if_neg (by simp [stopped])]
  · rfl

theorem Grant.holdTicked_of_runs {n : Nat} (runs : g.holdRuns = true) (hn : g.holdTime = some n) :
    g.holdTicked = { g with holdTime := some (secondsTick n g.holdMs).1, holdMs := (secondsTick n g.holdMs).2 } := by
  simp only [Grant.holdTicked, hn, runs, if_true]

theorem Grant.holdTicked_of_stopped (stopped : g.holdRuns = false) : g.holdTicked = g := by
  unfold Grant.holdTicked
  split
  · rw [if_neg (by simp [stopped])]
  · rfl

/-- A grant whose lease runs has no running hold time, and counts its lease. -/
theorem Grant.tick_of_lease {n : Nat} (runs : g.leaseRuns = true) (hn : g.lease = some n) :
    g.tick =
      { g with
        lease := some (secondsTick n g.leaseMs).1, leaseMs := (secondsTick n g.leaseMs).2
        phaseTimer := g.phaseTimer.map (· - 1) } := by
  have stopped : g.leaseTicked.holdRuns = false := by
    rw [Grant.leaseTicked_of_runs runs hn]
    have state := (GrantState.leaseRuns_iff g.state).1 (Bool.and_eq_true_iff.1 runs).1
    rcases state with e | e | e | e <;> simp [Grant.holdRuns, e]
  rw [Grant.tick_eq, Grant.holdTicked_of_stopped stopped, Grant.leaseTicked_of_runs runs hn]

/-- A RESERVED grant has no running lease, and counts its hold time. -/
theorem Grant.tick_of_hold {n : Nat} (reserved : g.state = .reserved) (hn : g.holdTime = some n) :
    g.tick =
      { g with
        holdTime := some (secondsTick n g.holdMs).1, holdMs := (secondsTick n g.holdMs).2
        phaseTimer := g.phaseTimer.map (· - 1) } := by
  have stopped : g.leaseRuns = false := by simp [Grant.leaseRuns, reserved, GrantState.leaseRuns]
  have runs : g.holdRuns = true := by simp [Grant.holdRuns, reserved, hn]
  rw [Grant.tick_eq, Grant.leaseTicked_of_stopped stopped, Grant.holdTicked_of_runs runs hn]

theorem Grant.leaseTicked_eq (g : Grant) : ∃ lease leaseMs, g.leaseTicked = { g with lease, leaseMs } := by
  unfold Grant.leaseTicked
  split
  · split <;> exact ⟨_, _, rfl⟩
  · exact ⟨_, _, rfl⟩

theorem Grant.holdTicked_eq (g : Grant) : ∃ holdTime holdMs, g.holdTicked = { g with holdTime, holdMs } := by
  unfold Grant.holdTicked
  split
  · split <;> exact ⟨_, _, rfl⟩
  · exact ⟨_, _, rfl⟩

/-- Every phase timer counts down, and the state stays. -/
theorem Grant.tick_phase (g : Grant) : g.tick.state = g.state ∧ g.tick.phaseTimer = g.phaseTimer.map (· - 1) := by
  obtain ⟨_, _, lease⟩ := g.leaseTicked_eq
  obtain ⟨_, _, hold⟩ := g.leaseTicked.holdTicked_eq
  rw [Grant.tick_eq, hold, lease]
  exact ⟨rfl, rfl⟩

end GrantTick

/-- A running lease after a millisecond. -/
theorem State.tick_lease {i : Fin 64} {g : Grant} {n : Nat} (hg : s.grant? i = some g) (hn : g.lease = some n)
    (state : g.state = .tuning ∨ g.state = .live ∨ g.state = .impaired ∨ g.state = .moving) :
    ∃ g', s.tick.grant? i = some g' ∧ g'.state = g.state ∧
      (g.leaseMs < 999 → g'.lease = some n ∧ g'.leaseMs = g.leaseMs + 1) ∧
      (999 ≤ g.leaseMs → 1 < n → g'.lease = some (n - 1) ∧ g'.leaseMs = 0) ∧
      (999 ≤ g.leaseMs → n ≤ 1 → g'.lease = some n ∧ DueOnGrant s.tick i (.leaseExpiry i)) := by
  have runs : g.leaseRuns = true :=
    Bool.and_eq_true_iff.2 ⟨(GrantState.leaseRuns_iff _).2 state, by rw [hn]; rfl⟩
  have ticked := State.grant_tick hg
  rw [Grant.tick_of_lease runs hn] at ticked
  refine ⟨_, ticked, rfl, fun h => ?_, fun h more => ?_, fun h last => ⟨?_, _, ticked, .inr (.inl ⟨state, rfl, ?_, rfl⟩)⟩⟩
  · rw [secondsTick_within h]
    exact ⟨rfl, rfl⟩
  · rw [secondsTick_next h more]
    exact ⟨rfl, rfl⟩
  · rw [secondsTick_last h last]
  · rw [secondsTick_last h last]

/-- A running hold timer after a millisecond. -/
theorem State.tick_hold {i : Fin 64} {g : Grant} {n : Nat} (hg : s.grant? i = some g) (hn : g.holdTime = some n)
    (reserved : g.state = .reserved) :
    ∃ g', s.tick.grant? i = some g' ∧ g'.state = g.state ∧
      (g.holdMs < 999 → g'.holdTime = some n ∧ g'.holdMs = g.holdMs + 1) ∧
      (999 ≤ g.holdMs → 1 < n → g'.holdTime = some (n - 1) ∧ g'.holdMs = 0) ∧
      (999 ≤ g.holdMs → n ≤ 1 → g'.holdTime = some n ∧ DueOnGrant s.tick i (.holdTimerExpiry i)) := by
  have ticked := State.grant_tick hg
  rw [Grant.tick_of_hold reserved hn] at ticked
  refine ⟨_, ticked, rfl, fun h => ?_, fun h more => ?_, fun h last => ⟨?_, _, ticked, .inl ⟨reserved, rfl, ?_, rfl⟩⟩⟩
  · rw [secondsTick_within h]
    exact ⟨rfl, rfl⟩
  · rw [secondsTick_next h more]
    exact ⟨rfl, rfl⟩
  · rw [secondsTick_last h last]
  · rw [secondsTick_last h last]

theorem tickCountsEveryTimerDown (s : State) : TickCountsEveryTimerDown s := by
  refine ⟨fun j a tuning => ?_, fun i g n hg hn => ?_, fun i g n hg hn => State.tick_lease hg hn, fun i g n hg hn =>
    State.tick_hold hg hn, fun k n hn => ⟨fun more => ?_, fun last => ?_⟩, fun n hn => ?_, fun x hx => ?_, ?_⟩
  · rw [State.slot_tick, Slot.tick, tuning]
  · obtain ⟨state, phase⟩ := g.tick_phase
    exact ⟨_, State.grant_tick hg, by rw [phase, hn]; rfl, state⟩
  · simp only [State.profile_tick, Profile.tick, hn, if_pos more]
  · simp only [State.profile_tick, Profile.tick, hn, if_neg (Nat.not_lt.2 last)]
  · simp only [State.tick, Monitor.tick, hn, Option.map_some]
  · simp only [State.tick, Monitor.tick, hx, Option.map_some]
  · simp only [State.tick, and_self]

/-! ### The step on an empty queue -/

theorem step_of_empty (h : s.pending = []) : step s = .next s.idle := by
  rw [step, h]

theorem State.idle_of_event {c : Instr} (h : s.ownEvent = some c) : s.idle = { s with pending := [c] } := by
  rw [State.idle, h]

theorem State.idle_of_none (h : s.ownEvent = none) : s.idle = if s.ports.resetHeld = true then s else s.tick := by
  rw [State.idle, h]

end Sys2Proof.Machine

namespace Sys2Proof.Proofs
open Sys2Proof.Machine

/-- Settles O2: the first expiry that is due, the next frame or the oldest ask, else a millisecond on every timer. -/
theorem emptyQueueStepActsOrTicks : Obligations.EmptyQueueStepActsOrTicks := by
  intro s
  have order := ownEventInOrder s
  refine ⟨order, fun empty => ⟨fun c event => ?_, fun none running => ?_, fun held => ?_⟩, tickCountsEveryTimerDown s⟩
  · rw [step_of_empty empty, State.idle_of_event event]
  · rw [step_of_empty empty, State.idle_of_none none, if_neg (by simp [running])]
  · rw [step_of_empty empty, State.idle_of_none (order.1 held), if_pos held]

end Sys2Proof.Proofs
end

section
/-! ## What every event passes through: checks that requests share (R30), answers (R185), and transactions (R182) -/

namespace Sys2Proof.Machine

/-! ### A property of the state, kept by what the checks of a request let pass -/

section Checks

variable {P : State → Prop} {r : Req} {s : State}

theorem managementRequest_keeps {inRange : Bool} {pass : State × Reply} (hs : P s) (h : P pass.1) :
    P (managementRequest r s inRange pass).1 := by
  unfold managementRequest managementOnly
  split
  · split
    · exact h
    · exact hs
  · exact hs

theorem enabledTenant_keeps {pass : State × Reply} (hs : P s) (h : P pass.1) : P (enabledTenant r s pass).1 := by
  unfold enabledTenant
  split
  · exact hs
  · exact h

theorem currentHandle_keeps {h : Handle} {pass : Grant → State × Reply} (hs : P s)
    (k : ∀ g, s.grant? h.entry = some g → P (pass g).1) : P (currentHandle r s h pass).1 := by
  unfold currentHandle
  split
  · exact hs
  · rename_i g hg
    exact k g (State.grantOf_some hg).1

theorem ownHandle_keeps {inRange : Bool} {pass : Fin 64 → Grant → State × Reply} (hs : P s)
    (h : ∀ i g, s.grant? i = some g → P (pass i g).1) : P (ownHandle r s inRange pass).1 := by
  unfold ownHandle
  split
  · exact hs
  · rename_i i _
    split
    · refine enabledTenant_keeps hs (currentHandle_keeps hs fun g hg => ?_)
      unfold owned
      split
      · exact hs
      · exact h i g hg
    · exact hs

theorem managementHandle_keeps {inRange : Bool} {pass : Fin 64 → Grant → State × Reply} (hs : P s)
    (h : ∀ i g, s.grant? i = some g → P (pass i g).1) : P (managementHandle r s inRange pass).1 := by
  unfold managementHandle
  split
  · exact hs
  · rename_i i _
    exact managementRequest_keeps hs (currentHandle_keeps hs fun g hg => h i g hg)

/-- A request row keeps what the taking of a frame, its handler and the placing of a response keep. -/
theorem State.serve_keeps {row : Instr} {handler : Handler} (hs : P s) (taken : ∀ src, P (s.taken src))
    (handled : ∀ r u, P u → P (handler r u).1) (placed : ∀ u p f, P u → P (State.place u p f)) :
    P (s.serve row handler) := by
  rcases s.serve_cases row handler with e | ⟨src, f, -, -, e⟩
  · rw [e]
    exact hs
  · rw [e]
    exact placed _ _ _ (handled _ _ (taken src))

theorem State.whileRunning_keeps {run : State} (hs : P s) (h : P run) : P (s.whileRunning run) := by
  unfold State.whileRunning
  split
  · exact hs
  · exact h

theorem State.onSlot_keeps {b : Band} {n : Nat} {run : SlotId → State} (hs : P s) (h : ∀ j, P (run j)) :
    P (s.onSlot b n run) := by
  unfold State.onSlot
  split
  · exact hs
  · exact State.whileRunning_keeps hs (h _)

theorem State.onGrant_keeps {i : Fin 64} {run : Grant → State} (hs : P s)
    (h : ∀ g, s.grant? i = some g → P (run g)) : P (s.onGrant i run) := by
  unfold State.onGrant
  split
  · exact hs
  · rename_i g hg
    exact State.whileRunning_keeps hs (h g hg)

end Checks

/-! ### Requests that only read -/

section Readers

variable (r : Req) (s : State)

theorem readRegion_fst : (readRegion r s).1 = s := by
  unfold readRegion
  split
  · exact managementRequest_keeps (P := (· = s)) rfl rfl
  · rfl

theorem readTenant_fst : (readTenant r s).1 = s := by
  unfold readTenant
  split
  · rfl
  · exact managementRequest_keeps (P := (· = s)) rfl rfl

theorem find_fst : (find r s).1 = s := by
  unfold find
  split
  · rfl
  · split
    · exact enabledTenant_keeps (P := (· = s)) rfl rfl
    · rfl

theorem listOwn_fst : (listOwn r s).1 = s := by
  unfold listOwn
  split
  · exact enabledTenant_keeps (P := (· = s)) rfl rfl
  · rfl

theorem listBand_fst : (listBand r s).1 = s := by
  unfold listBand
  split
  · rfl
  · exact managementRequest_keeps (P := (· = s)) rfl rfl

theorem readProfile_fst : (readProfile r s).1 = s := by
  unfold readProfile
  split
  · rfl
  · exact managementRequest_keeps (P := (· = s)) rfl rfl

theorem readSlot_fst : (readSlot r s).1 = s := by
  unfold readSlot
  split
  · rfl
  · exact managementRequest_keeps (P := (· = s)) rfl rfl

theorem readWatch_fst : (readWatch r s).1 = s := by
  unfold readWatch
  split
  · rfl
  · exact managementRequest_keeps (P := (· = s)) rfl rfl

end Readers

/-! ### Transactions -/

/-- Nothing has changed but the ports and the counter of free values. -/
def PortsOnly (s t : State) : Prop := t = { s with ports := t.ports, freeCount := t.freeCount }

namespace PortsOnly

variable {s t u : State}

theorem refl (s : State) : PortsOnly s s := rfl

theorem trans (h : PortsOnly s t) (k : PortsOnly t u) : PortsOnly s u := by
  unfold PortsOnly at h k ⊢
  rw [k, h]

theorem setPort (s : State) (p : Port) (x : PortState) : PortsOnly s (s.setPort p x) := by
  cases p <;> exact Eq.refl _

theorem spendFree (s : State) (n : Nat) : PortsOnly s (s.spendFree n) := Eq.refl _

theorem storeFrame (s : State) (p : Port) (f : Frame) (claim : Progress) : PortsOnly s (s.storeFrame p f claim) := by
  cases claim with
  | selected => exact refl s
  | nothing => exact refl s
  | prioritySlot => exact Eq.refl _
  | queuePlace =>
    unfold State.storeFrame
    dsimp only
    split
    · exact setPort ..
    · exact refl s

theorem endWrite (s : State) (p : Port) (f : Frame) : PortsOnly s (s.endWrite p f) := by
  unfold State.endWrite
  split
  · exact refl s
  · exact setPort ..
  · exact ((setPort s p _).trans (spendFree ..)).trans (storeFrame ..)

theorem release (s : State) (p : Port) (f : Frame) : PortsOnly s (s.release p f) := by
  unfold State.release
  split
  · exact setPort ..
  · exact endWrite ..

theorem transaction {p : Port} {n : Nat} {run : State} (h : PortsOnly s run) : PortsOnly s (s.transaction p n run) := by
  unfold State.transaction
  split
  · exact refl s
  · split
    · exact setPort ..
    · exact h

theorem afterSelect {p : Port} {n : Nat} {run : State} (h : PortsOnly s run) : PortsOnly s (s.afterSelect p n run) := by
  unfold State.afterSelect
  split
  · exact setPort ..
  · split
    · exact h
    · exact refl s

theorem write (s : State) (p : Port) (priority : Bool) (part : WritePart) : PortsOnly s (s.write p priority part) := by
  have selected : PortsOnly s (s.select p) := setPort ..
  cases part with
  | whole f => exact transaction ((selected.trans (setPort ..)).trans (endWrite ..))
  | select => exact transaction selected
  | command => exact afterSelect (setPort ..)
  | finish f => exact release ..

theorem read {p : Port} {run : Nat → State → State} (h : ∀ n s, PortsOnly s (run n s)) (s : State) (part : ReadPart) :
    PortsOnly s (s.read p run part) := by
  have selected : PortsOnly s (s.select p) := setPort ..
  cases part with
  | whole n => exact transaction (selected.trans (h n _))
  | select => exact transaction selected
  | rest n => exact afterSelect (h n s)
  | release => exact release ..

theorem readOldest (p : Port) (n : Nat) (s : State) : PortsOnly s (s.readOldest p n) := by
  unfold State.readOldest
  split
  · exact setPort ..
  · exact ((setPort ..).trans (setPort ..)).trans (spendFree ..)

theorem readCounts (p : Port) (n : Nat) (s : State) : PortsOnly s (s.readCounts p n) :=
  (setPort ..).trans (spendFree ..)

end PortsOnly

end Sys2Proof.Machine
end

section
/-! ## The law of the monitor, and the changes that keep it (R47, R164, R176, R179) -/

namespace Sys2Proof.Machine

/-! ### The law by its parts: the grant of one entry, and the watch positions -/

/-- A LIVE grant has an impairing count of 0, an IMPAIRED one a count above 0 (R47). -/
structure Grant.CarriesByCount (g : Grant) : Prop where
  live : g.state = .live → g.impairing = 0
  impaired : g.state = .impaired → 0 < g.impairing

/-- The watches that impair a handle's grant (R176). -/
def State.impairs (s : State) (h : Handle) : Nat := (List.finRange 32).countP (s.impairsAt h)

/-- The grant of an entry, if it holds one, has the impairing count of its watches and carries by it (R47, R176). -/
def State.Counted (s : State) (i : Fin 64) : Prop :=
  ∀ g, s.grant? i = some g → g.impairing = s.impairs (s.handleOf i) ∧ g.CarriesByCount

/-- Every enabled watch on a grant names a current one (R179). -/
def State.WatchesCurrent (s : State) : Prop :=
  ∀ n w h, s.monitor.position n = .watch w → w.target = .grant h → w.enabled = true → (s.grantOf h).isSome = true

/-- Window watches stand at 0 to 15, and a position is PAIRED exactly when one stands 16 below it (R164). -/
structure Monitor.Paired (m : Monitor) : Prop where
  windows : ∀ n w, m.position n = .watch w → w.mode.isWindow = true → n.val < 16
  pairs : ∀ n : Fin 32, m.position n = .paired ↔
    16 ≤ n.val ∧ ∃ w, m.position (n - 16) = .watch w ∧ w.mode.isWindow = true

theorem State.monitorLawful_iff (s : State) :
    s.MonitorLawful ↔ (∀ i, s.Counted i) ∧ s.WatchesCurrent ∧ s.monitor.Paired :=
  ⟨fun h =>
    ⟨fun i g hg => ⟨h.counts i g hg, ⟨h.live i g hg, h.impaired i g hg⟩⟩, h.current, ⟨h.windows, h.pairs⟩⟩,
    fun ⟨counted, current, paired⟩ =>
      ⟨fun i g hg => (counted i g hg).1, fun i g hg => (counted i g hg).2.live, fun i g hg => (counted i g hg).2.impaired,
        current, paired.windows, paired.pairs⟩⟩

theorem State.MonitorLawful.counted {s : State} (law : s.MonitorLawful) (i : Fin 64) : s.Counted i :=
  (s.monitorLawful_iff.1 law).1 i

theorem State.MonitorLawful.paired {s : State} (law : s.MonitorLawful) : s.monitor.Paired :=
  (s.monitorLawful_iff.1 law).2.2

/-! ### What impairs a handle's grant -/

/-- A watch impairs a handle's grant: enabled, with its condition TRUE and an impairing action (R176). -/
def Watch.impairs (w : Watch) (h : Handle) : Bool := w.names h && w.enabled && w.condition && w.action.impairs

/-- What stands at a position impairs a handle's grant. -/
def Position.impairs : Position → Handle → Bool
  | .watch w, h => w.impairs h
  | .paired, _ => false
  | .empty, _ => false

theorem State.impairsAt_eq (s : State) (h : Handle) (n : Fin 32) :
    s.impairsAt h n = (s.monitor.position n).impairs h := by
  unfold State.impairsAt
  cases s.monitor.position n <;> rfl

theorem State.impairs_eq (s : State) (h : Handle) :
    s.impairs h = (List.finRange 32).countP fun n => (s.monitor.position n).impairs h := by
  rw [State.impairs, funext (s.impairsAt_eq h)]

/-- A watch impairs the grant it names only. -/
theorem Watch.impairs_eq_false {w : Watch} {h : Handle} (hn : w.target ≠ .grant h) : w.impairs h = false := by
  have : w.names h = false := by rw [← Bool.not_eq_true, Watch.names_iff]; exact hn
  simp [Watch.impairs, this]

theorem State.impairs_congr {s t : State} {h : Handle}
    (e : ∀ n, (t.monitor.position n).impairs h = (s.monitor.position n).impairs h) : t.impairs h = s.impairs h := by
  rw [State.impairs_eq, State.impairs_eq, funext e]

theorem State.impairs_eq_zero {s : State} {h : Handle} (e : ∀ n, (s.monitor.position n).impairs h = false) :
    s.impairs h = 0 := by
  rw [State.impairs_eq, List.countP_eq_zero]
  exact fun n _ => by rw [e n]; exact Bool.false_ne_true

/-- A handle that no enabled watch names has nothing that impairs it. -/
theorem State.WatchesCurrent.impairs_eq_zero {s : State} (current : s.WatchesCurrent) {h : Handle}
    (gone : s.grantOf h = none) : s.impairs h = 0 := by
  refine State.impairs_eq_zero fun n => ?_
  cases hp : s.monitor.position n with
  | watch w =>
    by_cases ht : w.target = .grant h
    · cases he : w.enabled with
      | false => simp [Position.impairs, Watch.impairs, he]
      | true => simpa [gone] using current n w h hp ht he
    · exact Watch.impairs_eq_false ht
  | _ => rfl

/-- A count of positions under a test that changes at one position only. -/
theorem countP_positions_changed {p q : Fin 32 → Bool} {n : Fin 32} (h : ∀ k, k ≠ n → q k = p k) :
    (List.finRange 32).countP q + (p n).toNat = (List.finRange 32).countP p + (q n).toNat := by
  have split : ∀ f : Fin 32 → Bool, (List.finRange 32).countP f = ((List.finRange 32).erase n).countP f + (f n).toNat := by
    intro f
    rw [(List.perm_cons_erase (List.mem_finRange n)).countP_eq, List.countP_cons]
    cases f n <;> rfl
  have rest : ((List.finRange 32).erase n).countP q = ((List.finRange 32).erase n).countP p :=
    List.countP_congr fun k hk => by rw [h k ((List.nodup_finRange 32).mem_erase_iff.1 hk).1]
  rw [split q, split p, rest]
  omega

/-! ### Records and positions kept -/

/-- A record that becomes another with the same impairing count, carrying by it as before. -/
structure Grant.CountKept (g g' : Grant) : Prop where
  impairing : g'.impairing = g.impairing
  carries : g.CarriesByCount → g'.CarriesByCount

theorem Grant.CountKept.of_state {g g' : Grant} (impairing : g'.impairing = g.impairing) (state : g'.state = g.state) :
    g.CountKept g' :=
  ⟨impairing, fun h => ⟨by rw [impairing, state]; exact h.live, by rw [impairing, state]; exact h.impaired⟩⟩

theorem Grant.CountKept.refl (g : Grant) : g.CountKept g := .of_state rfl rfl

/-- A grant that comes to carry, by its count. -/
theorem Grant.CountKept.of_carryState {g g' : Grant} (impairing : g'.impairing = g.impairing)
    (state : g'.state = g.carryState) : g.CountKept g' := by
  refine ⟨impairing, fun _ => ⟨fun h => ?_, fun h => ?_⟩⟩ <;> rw [state, Grant.carryState] at h <;> split at h
  · rwa [impairing]
  · cases h
  · cases h
  · rw [impairing]
    omega

/-- A grant that comes to a state in which it does not carry. -/
theorem Grant.CountKept.of_silent {g g' : Grant} (impairing : g'.impairing = g.impairing) (live : g'.state ≠ .live)
    (impaired : g'.state ≠ .impaired) : g.CountKept g' :=
  ⟨impairing, fun _ => ⟨fun h => absurd h live, fun h => absurd h impaired⟩⟩

theorem State.handleOf_congr {s t : State} {i : Fin 64} (e : (t.entry i).generation = (s.entry i).generation) :
    t.handleOf i = s.handleOf i := by
  rw [State.handleOf, e, State.handleOf]

/-- A grant stays counted when its record and what impairs it stay. -/
theorem State.Counted.kept {s t : State} {i : Fin 64} (h : s.Counted i)
    (generation : (t.entry i).generation = (s.entry i).generation)
    (grant : ∀ g', t.grant? i = some g' → ∃ g, s.grant? i = some g ∧ g.CountKept g')
    (impairs : t.impairs (s.handleOf i) = s.impairs (s.handleOf i)) : t.Counted i := by
  intro g' hg'
  obtain ⟨g, hg, kept⟩ := grant g' hg'
  obtain ⟨count, carries⟩ := h g hg
  rw [State.handleOf_congr generation, impairs, kept.impairing]
  exact ⟨count, kept.carries carries⟩

theorem Monitor.position_congr {m m' : Monitor} (e : m'.positions = m.positions) (n : Fin 32) :
    m'.position n = m.position n := by
  rw [Monitor.position, e, Monitor.position]

theorem State.impairs_of_positions {s t : State} (e : t.monitor.positions = s.monitor.positions) (h : Handle) :
    t.impairs h = s.impairs h := State.impairs_congr fun n => by rw [Monitor.position_congr e]

theorem Monitor.Paired.of_positions {m m' : Monitor} (h : m.Paired) (e : m'.positions = m.positions) : m'.Paired :=
  ⟨by simpa only [Monitor.position_congr e] using h.windows, by simpa only [Monitor.position_congr e] using h.pairs⟩

/-- Whether a handle is current follows from its entry's generation, and from whether the entry is FREE. -/
theorem State.grantOf_isSome_congr {s t : State} {h : Handle}
    (generation : (t.entry h.entry).generation = (s.entry h.entry).generation)
    (grant : (t.grant? h.entry).isSome = (s.grant? h.entry).isSome) : (t.grantOf h).isSome = (s.grantOf h).isSome := by
  unfold State.grantOf
  rw [generation]
  split
  · exact grant
  · rfl

/-- Every grant keeps its handle and its count, and every position what stands there. -/
structure CountsKept (s t : State) : Prop where
  generation : ∀ i, (t.entry i).generation = (s.entry i).generation
  grant : ∀ i, Option.Rel Grant.CountKept (s.grant? i) (t.grant? i)
  positions : t.monitor.positions = s.monitor.positions

theorem CountsKept.isSome {s t : State} (h : CountsKept s t) (i : Fin 64) :
    (t.grant? i).isSome = (s.grant? i).isSome := by
  have := h.grant i
  generalize s.grant? i = a at this
  generalize t.grant? i = b at this
  cases this <;> rfl

theorem CountsKept.before {s t : State} (h : CountsKept s t) {i : Fin 64} {g' : Grant} (hg : t.grant? i = some g') :
    ∃ g, s.grant? i = some g ∧ g.CountKept g' := by
  have := h.grant i
  rw [hg] at this
  generalize s.grant? i = a at this
  cases this with
  | some k => exact ⟨_, rfl, k⟩

section Kept

variable {s t : State} (law : s.MonitorLawful)
include law

theorem State.MonitorLawful.kept (h : CountsKept s t) : t.MonitorLawful := by
  obtain ⟨counted, current, paired⟩ := s.monitorLawful_iff.1 law
  refine t.monitorLawful_iff.2 ⟨fun i => ?_, fun n w x hp ht he => ?_, paired.of_positions h.positions⟩
  · exact (counted i).kept (h.generation i) (fun _ => h.before) (State.impairs_of_positions h.positions _)
  · rw [Monitor.position_congr h.positions] at hp
    rw [State.grantOf_isSome_congr (h.generation _) (h.isSome _)]
    exact current n w x hp ht he

/-- An operation beside the entries and the positions keeps the law. -/
theorem State.MonitorLawful.beside (entries : t.table.entries = s.table.entries)
    (positions : t.monitor.positions = s.monitor.positions) : t.MonitorLawful :=
  law.kept
    { generation := fun i => by rw [State.entry_congr entries]
      grant := fun i => by
        rw [State.grant_congr entries]
        cases s.grant? i with
        | none => exact .none
        | some g => exact .some (.refl g)
      positions }

/-- So does one beside the grant table and the monitor. -/
theorem State.MonitorLawful.apart (table : t.table = s.table) (monitor : t.monitor = s.monitor) : t.MonitorLawful :=
  law.beside (by rw [table]) (by rw [monitor])

theorem State.MonitorLawful.modGrant {i : Fin 64} {f : Grant → Grant}
    (h : ∀ g, s.grant? i = some g → g.CountKept (f g)) : (s.modGrant i f).MonitorLawful := by
  cases hg : s.grant? i with
  | none => simpa only [State.modGrant, hg] using law
  | some g =>
    refine law.kept ⟨fun k => ?_, fun k => ?_, by simp⟩ <;> by_cases hk : k = i
    · subst hk
      rw [State.entry_modGrant_same s hg]
    · rw [State.entry_modGrant_ne s hk]
    · subst hk
      rw [State.grant_modGrant_same s hg, hg]
      exact .some (h g hg)
    · rw [State.grant?, State.grant?, State.entry_modGrant_ne s hk]
      cases (s.entry k).grant with
      | none => exact .none
      | some x => exact .some (.refl x)

theorem State.MonitorLawful.setOutcome (i : Fin 64) (o : LastOutcome) : (s.setOutcome i o).MonitorLawful :=
  law.kept
    { generation := fun k => by rw [State.entry_setOutcome]
      grant := fun k => by
        rw [State.grant_setOutcome]
        cases s.grant? k with
        | none => exact .none
        | some g => exact .some (.refl g)
      positions := by simp }

theorem State.MonitorLawful.sameButLoads (h : SameButLoads s t) (positions : t.monitor.positions = s.monitor.positions) :
    t.MonitorLawful := by
  refine law.kept ⟨fun i => ?_, fun i => ?_, positions⟩ <;> obtain ⟨n, e⟩ := h i
  · rw [e]
  · rw [State.grant?, State.grant?, e, State.grant?]
    cases (s.entry i).grant with
    | none => exact .none
    | some g => exact .some (.of_state rfl rfl)

/-! ### Levels and loads -/

theorem State.MonitorLawful.recount (i : Fin 64) : (s.recount i).MonitorLawful :=
  law.modGrant fun g _ => by
    obtain ⟨n, e⟩ := s.levels.recount_eq g
    rw [e]
    exact .of_state rfl rfl

theorem State.MonitorLawful.applyLevels (old : State) : (Machine.applyLevels old s).MonitorLawful := by
  refine law.sameButLoads (fun i => ?_) (by simp only [Machine.applyLevels])
  obtain ⟨n, e⟩ := relevelEntry_eq old s i
  exact ⟨n, by rw [← e]; simp [Machine.applyLevels, State.entry]⟩

theorem State.MonitorLawful.trackPilot : s.trackPilot.MonitorLawful := by
  have trimmed := applyLevels_sameButLoads s
    { s.levels with pilot := { s.levels.pilot with applied := byte (s.searchTrim s.levels.pilot.reading.toNat) } }
  exact law.sameButLoads (trimmed.of_entries (by rw [State.trackPilot, State.setClamped_table, State.setApplied])) (by simp)

theorem State.MonitorLawful.loadDecreased : s.loadDecreased.MonitorLawful := by
  unfold State.loadDecreased
  split
  · exact law.trackPilot
  · exact law

theorem State.MonitorLawful.noteLoad (old : State) : (Machine.noteLoad old s).MonitorLawful :=
  law.sameButLoads (noteLoad_sameButLoads old s) (by simp)

end Kept

end Sys2Proof.Machine
end

section
/-! ## Every change of the grants and of the watches keeps the law of the monitor (R25, R38, R149, R167, R168, R176) -/

namespace Sys2Proof.Machine

/-! ### Pairing of positions (R164) -/

/-- A window watch stands at the position. -/
def Position.isWindow : Position → Bool
  | .watch w => w.mode.isWindow
  | .paired => false
  | .empty => false

@[simp] theorem Position.isWindow_watch (w : Watch) : (Position.watch w).isWindow = w.mode.isWindow := rfl

@[simp] theorem Position.isWindow_paired : Position.paired.isWindow = false := rfl

@[simp] theorem Position.isWindow_empty : Position.empty.isWindow = false := rfl

theorem Position.isWindow_iff (p : Position) : p.isWindow = true ↔ ∃ w, p = .watch w ∧ w.mode.isWindow = true := by
  cases p <;> simp

theorem Monitor.paired_iff (m : Monitor) :
    m.Paired ↔
      (∀ n, (m.position n).isWindow = true → n.val < 16) ∧
        ∀ n : Fin 32, m.position n = .paired ↔ 16 ≤ n.val ∧ (m.position (n - 16)).isWindow = true := by
  simp only [Position.isWindow_iff, forall_exists_index, and_imp]
  exact ⟨fun h => ⟨h.windows, h.pairs⟩, fun h => ⟨h.1, h.2⟩⟩

/-- Pairing reads of a position whether it is PAIRED, and whether a window watch stands there. -/
theorem Monitor.Paired.of_kinds {m m' : Monitor} (h : m.Paired)
    (windows : ∀ n, (m'.position n).isWindow = (m.position n).isWindow)
    (pairs : ∀ n, m'.position n = .paired ↔ m.position n = .paired) : m'.Paired := by
  rw [Monitor.paired_iff] at h ⊢
  simpa only [windows, pairs] using h

theorem upperPosition_iff (n k : Fin 32) : k - 16 = n ↔ k = upperPosition n := sub_eq_iff_eq_add

theorem upperPosition_val {n : Fin 32} (h : n.val < 16) : (upperPosition n).val = n.val + 16 := by
  simp only [upperPosition, Fin.val_add]
  omega

theorem upperPosition_ne (n : Fin 32) : upperPosition n ≠ n := by
  simp only [upperPosition, ne_eq, Fin.ext_iff, Fin.val_add]
  omega

theorem upperPosition_sub (n : Fin 32) : upperPosition n - 16 = n := (upperPosition_iff n _).2 rfl

/-- A watch goes from its position, and with a window watch the PAIRED position above it. -/
theorem Monitor.Paired.removed {m m' : Monitor} (h : m.Paired) {n : Fin 32} {w : Watch} (hw : m.position n = .watch w)
    (e : ∀ k, m'.position k =
      if k = n ∨ (w.mode.isWindow = true ∧ k = upperPosition n) then .empty else m.position k) : m'.Paired := by
  rw [Monitor.paired_iff] at h ⊢
  obtain ⟨windows, pairs⟩ := h
  have above : m.position (upperPosition n) = .paired → w.mode.isWindow = true := fun hp => by
    have := ((pairs _).1 hp).2
    rwa [upperPosition_sub, hw] at this
  have window : ∀ k, (m'.position k).isWindow = true ↔ k ≠ n ∧ (m.position k).isWindow = true := by
    intro k
    rw [e]
    split
    · rename_i gone
      obtain rfl | ⟨hwin, rfl⟩ := gone
      · simp
      · have : m.position (upperPosition n) = .paired := by
          have := windows n (by rw [hw]; exact hwin)
          rw [pairs, upperPosition_sub, upperPosition_val this, hw]
          exact ⟨by omega, hwin⟩
        simp [this]
    · rename_i stays
      exact (and_iff_right fun hk => stays (.inl hk)).symm
  refine ⟨fun k hk => windows k ((window k).1 hk).2, fun k => ?_⟩
  rw [window, ne_eq, upperPosition_iff, e]
  split
  · rename_i gone
    obtain rfl | ⟨-, rfl⟩ := gone
    · have none : ¬(16 ≤ k.val ∧ (m.position (k - 16)).isWindow = true) := by
        rw [← pairs, hw]
        exact Position.noConfusion
      exact iff_of_false Position.noConfusion fun ⟨h, _, h'⟩ => none ⟨h, h'⟩
    · simp
  · rename_i stays
    rw [pairs]
    refine and_congr_right fun hk => ⟨fun hwin => ⟨fun e => ?_, hwin⟩, And.right⟩
    subst e
    exact stays (.inr ⟨above ((pairs _).2 ⟨hk, hwin⟩), rfl⟩)

/-- A watch comes to an EMPTY position, a window watch at 0 to 15 with the position above it PAIRED. -/
theorem Monitor.Paired.written {m m' : Monitor} (h : m.Paired) {n : Fin 32} {w : Watch} (hn : m.position n = .empty)
    (low : w.mode.isWindow = true → n.val < 16)
    (e : ∀ k, m'.position k =
      if w.mode.isWindow = true ∧ k = upperPosition n then .paired else if k = n then .watch w else m.position k)
    (free : w.mode.isWindow = true → (m.position (upperPosition n)).isWindow = false) : m'.Paired := by
  rw [Monitor.paired_iff] at h ⊢
  obtain ⟨windows, pairs⟩ := h
  have window : ∀ k, (m'.position k).isWindow = true ↔
      (k = n ∧ w.mode.isWindow = true) ∨ (k ≠ n ∧ (m.position k).isWindow = true) := by
    intro k
    rw [e]
    split
    · rename_i above
      obtain ⟨hwin, rfl⟩ := above
      simp [upperPosition_ne, free hwin]
    · split
      · rename_i own
        simp [own]
      · rename_i other
        simp [other]
  refine ⟨fun k hk => ?_, fun k => ?_⟩
  · obtain ⟨rfl, hwin⟩ | ⟨-, hwin⟩ := (window k).1 hk
    · exact low hwin
    · exact windows k hwin
  · rw [window, ne_eq, upperPosition_iff, e]
    split
    · rename_i above
      obtain ⟨hwin, rfl⟩ := above
      simp [hwin, upperPosition_val (low hwin)]
    · rename_i notAbove
      have plain : ¬(k = upperPosition n ∧ w.mode.isWindow = true) := fun h => notAbove h.symm
      split
      · rename_i own
        subst own
        have none : ¬(16 ≤ k.val ∧ (m.position (k - 16)).isWindow = true) := by
          rw [← pairs, hn]
          exact Position.noConfusion
        exact iff_of_false Position.noConfusion fun ⟨h, h'⟩ => h'.elim plain fun h' => none ⟨h, h'.2⟩
      · rw [pairs]
        refine and_congr_right fun _ => ⟨fun hwin => .inr ⟨fun e => ?_, hwin⟩, fun h => (h.resolve_left plain).2⟩
        subst e
        rw [upperPosition_sub, hn] at hwin
        cases hwin

/-! ### A change of every watch -/

theorem Monitor.mapWatches_watch_iff (m : Monitor) (f : Watch → Watch) (n : Fin 32) (w' : Watch) :
    (m.mapWatches f).position n = .watch w' ↔ ∃ w, m.position n = .watch w ∧ f w = w' := by
  rw [Monitor.position_mapWatches]
  cases m.position n <;> simp

theorem Monitor.Paired.mapWatches {m m' : Monitor} (h : m.Paired) {f : Watch → Watch} (mode : ∀ w, (f w).mode = w.mode)
    (e : m'.positions = (m.mapWatches f).positions) : m'.Paired := by
  refine h.of_kinds (fun n => ?_) fun n => ?_ <;> rw [Monitor.position_congr e, Monitor.position_mapWatches] <;>
    cases m.position n <;> simp [mode]

/-- A change of every watch that leaves what impairs a handle's grant. -/
theorem State.impairs_mapWatches {s t : State} {f : Watch → Watch}
    (e : t.monitor.positions = (s.monitor.mapWatches f).positions) {h : Handle}
    (same : ∀ w, (f w).impairs h = w.impairs h) : t.impairs h = s.impairs h :=
  State.impairs_congr fun n => by
    rw [Monitor.position_congr e, Monitor.position_mapWatches]
    cases s.monitor.position n with
    | watch w => exact same w
    | _ => rfl

/-- The law after a change of every watch, when the grants are counted and no watch becomes enabled or comes to name
another grant. -/
theorem State.monitorLawful_of_mapWatches {s t : State} (current : s.WatchesCurrent) (paired : s.monitor.Paired)
    {f : Watch → Watch} (positions : t.monitor.positions = (s.monitor.mapWatches f).positions)
    (mode : ∀ w, (f w).mode = w.mode) (counted : ∀ i, t.Counted i)
    (stays : ∀ w h, (f w).target = .grant h → (f w).enabled = true →
      w.target = .grant h ∧ w.enabled = true ∧ ((s.grantOf h).isSome = true → (t.grantOf h).isSome = true)) :
    t.MonitorLawful := by
  refine t.monitorLawful_iff.2 ⟨counted, fun n w' h hp ht he => ?_, paired.mapWatches mode positions⟩
  rw [Monitor.position_congr positions, Monitor.mapWatches_watch_iff] at hp
  obtain ⟨w, hw, rfl⟩ := hp
  obtain ⟨target, enabled, named⟩ := stays w h ht he
  exact named (current n w h hw target enabled)

/-! ### An entry freed, a span changed, a grant made -/

/-- A current handle is the handle of its entry. -/
theorem State.eq_handleOf {s : State} {h : Handle} (current : (s.grantOf h).isSome = true) :
    h = s.handleOf h.entry := by
  obtain ⟨g, hg⟩ := Option.isSome_iff_exists.1 current
  obtain ⟨-, generation⟩ := State.grantOf_some hg
  rw [State.handleOf, generation]

theorem State.handleOf_ne (s : State) {i k : Fin 64} (h : k ≠ i) : s.handleOf k ≠ s.handleOf i :=
  fun e => h (congrArg Handle.entry e)

/-- An entry that is as it was keeps its grant counted when what impairs it stays. -/
theorem State.Counted.of_entry {s t : State} {k : Fin 64} (h : s.Counted k) (entry : t.entry k = s.entry k)
    (impairs : t.impairs (s.handleOf k) = s.impairs (s.handleOf k)) : t.Counted k :=
  h.kept (by rw [entry]) (fun g' hg' => ⟨g', by rwa [State.grant?, ← entry], .refl g'⟩) impairs

/-- A watch after the detaching of the watches that name a handle (R179). -/
def Watch.detachFrom (h : Handle) (w : Watch) : Watch :=
  if w.names h then { w with enabled := false, condition := false } else w

/-- A watch after the conditions of the watches that name a handle are set to FALSE (R149). -/
def Watch.resetFor (h : Handle) (w : Watch) : Watch := if w.names h then { w with condition := false } else w

section Named

variable (h : Handle) (w : Watch)

theorem Watch.detachFrom_fields : (w.detachFrom h).target = w.target ∧ (w.detachFrom h).mode = w.mode := by
  unfold Watch.detachFrom
  split <;> exact ⟨rfl, rfl⟩

theorem Watch.resetFor_fields :
    (w.resetFor h).target = w.target ∧ (w.resetFor h).mode = w.mode ∧ (w.resetFor h).enabled = w.enabled := by
  unfold Watch.resetFor
  split <;> exact ⟨rfl, rfl, rfl⟩

theorem Watch.resetFor_impairs : (w.resetFor h).impairs h = false := by
  unfold Watch.resetFor
  split
  · simp [Watch.impairs]
  · rename_i other
    simp [Watch.impairs, other]

variable {h w}

theorem Watch.detachFrom_of_ne (ne : w.target ≠ .grant h) : w.detachFrom h = w := if_neg (by rwa [Watch.names_iff])

theorem Watch.resetFor_of_ne (ne : w.target ≠ .grant h) : w.resetFor h = w := if_neg (by rwa [Watch.names_iff])

theorem Watch.detachFrom_enabled (named : w.target = .grant h) : (w.detachFrom h).enabled = false := by
  rw [Watch.detachFrom, if_pos ((Watch.names_iff ..).2 named)]

end Named

theorem Monitor.detach_positions (m : Monitor) (h : Handle) :
    (m.detach h).positions = (m.mapWatches (Watch.detachFrom h)).positions := by
  rw [Monitor.detach, Monitor.voidFor]
  rfl

theorem Monitor.resetConditions_positions (m : Monitor) (h : Handle) :
    (m.resetConditions h).positions = (m.mapWatches (Watch.resetFor h)).positions := by
  rw [Monitor.resetConditions, Monitor.voidFor]
  rfl

/-- A change of the watches that name one handle leaves what impairs another's grant. -/
theorem Watch.impairs_of_named {f : Watch → Watch} {x h : Handle} (ne : h ≠ x)
    (others : ∀ w, w.target ≠ .grant x → f w = w) (target : ∀ w, (f w).target = w.target) (w : Watch) :
    (f w).impairs h = w.impairs h := by
  by_cases ht : w.target = .grant x
  · have hn : w.target ≠ .grant h := fun e => ne (WatchTarget.grant.inj (e.symm.trans ht))
    rw [Watch.impairs_eq_false hn, Watch.impairs_eq_false (by rwa [target])]
  · rw [others w ht]

theorem State.MonitorLawful.freeEntry {s : State} (law : s.MonitorLawful) (i : Fin 64) : (s.freeEntry i).MonitorLawful := by
  cases hg : s.grant? i with
  | none => rwa [State.freeEntry_none hg]
  | some g =>
    obtain ⟨counted, current, paired⟩ := s.monitorLawful_iff.1 law
    have positions : (s.freeEntry i).monitor.positions = (s.monitor.mapWatches (Watch.detachFrom (s.handleOf i))).positions := by
      rw [State.monitor_freeEntry hg, Monitor.detach_positions]
    refine State.monitorLawful_of_mapWatches current paired positions (fun w => (w.detachFrom_fields _).2) (fun k => ?_)
      fun w h ht he => ?_
    · by_cases hk : k = i
      · subst hk
        intro x hx
        rw [State.grant_freeEntry_same hg] at hx
        cases hx
      · exact (counted k).of_entry (s.entry_freeEntry_ne hk) (State.impairs_mapWatches positions
          (Watch.impairs_of_named (s.handleOf_ne hk) (fun _ => Watch.detachFrom_of_ne) fun w => (w.detachFrom_fields _).1))
    · by_cases named : w.target = .grant (s.handleOf i)
      · rw [Watch.detachFrom_enabled named] at he
        cases he
      · rw [Watch.detachFrom_of_ne named] at ht he
        refine ⟨ht, he, fun now => ?_⟩
        have hk : h.entry ≠ i := fun e => named (by rw [ht, State.eq_handleOf now, e])
        rwa [State.grantOf_isSome_congr (s := s) (by rw [s.entry_freeEntry_ne hk]) (by rw [s.grant_freeEntry_ne hk])]

theorem State.monitor_relocate {s : State} {i : Fin 64} {g : Grant} (hg : s.grant? i = some g) (n : Nat) :
    (s.relocate i n).monitor = s.monitor.resetConditions (s.handleOf i) := by
  simp [State.relocate, hg, State.withMonitor]

/-- A change of span leaves its grant the count 0, which it may have unless it is IMPAIRED (R149); the count before does not
matter. -/
theorem State.monitorLawful_relocate {s : State} {i : Fin 64} {g : Grant} (hg : s.grant? i = some g)
    (state : g.state ≠ .impaired) (counted : ∀ k, k ≠ i → s.Counted k) (current : s.WatchesCurrent)
    (paired : s.monitor.Paired) (n : Nat) : (s.relocate i n).MonitorLawful := by
  have positions : (s.relocate i n).monitor.positions = (s.monitor.mapWatches (Watch.resetFor (s.handleOf i))).positions := by
    rw [State.monitor_relocate hg, Monitor.resetConditions_positions]
  have entry := s.entry_relocate_same hg n
  have other : ∀ k, k ≠ i → (s.relocate i n).entry k = s.entry k := fun k hk =>
    EntriesKept.relocate s i n k (by simpa using hk)
  have handle : (s.relocate i n).handleOf i = s.handleOf i := State.handleOf_congr (by rw [entry])
  have named : ∀ h : Handle, ((s.relocate i n).grantOf h).isSome = (s.grantOf h).isSome := fun h => by
    by_cases hk : h.entry = i
    · exact State.grantOf_isSome_congr (by rw [hk, entry]) (by rw [hk, hg, State.grant?, entry]; rfl)
    · exact State.grantOf_isSome_congr (by rw [other _ hk]) (by rw [State.grant?, other _ hk, State.grant?])
  refine State.monitorLawful_of_mapWatches current paired positions (fun w => (w.resetFor_fields _).2.1) (fun k => ?_)
    fun w h ht he => ?_
  · by_cases hk : k = i
    · subst hk
      intro x hx
      rw [State.grant?, entry] at hx
      obtain rfl := Option.some.inj hx
      have none : (s.relocate k n).impairs (s.handleOf k) = 0 := State.impairs_eq_zero fun j => by
        rw [Monitor.position_congr positions, Monitor.position_mapWatches]
        cases s.monitor.position j with
        | watch w => exact w.resetFor_impairs _
        | _ => rfl
      rw [handle, none]
      exact ⟨rfl, fun _ => rfl, fun e => absurd e state⟩
    · exact (counted k hk).of_entry (other k hk) (State.impairs_mapWatches positions
        (Watch.impairs_of_named (s.handleOf_ne hk) (fun _ => Watch.resetFor_of_ne) fun w => (w.resetFor_fields _).1))
  · obtain ⟨target, -, enabled⟩ := w.resetFor_fields (s.handleOf i)
    rw [target] at ht
    rw [enabled] at he
    exact ⟨ht, he, fun now => by rwa [named]⟩

/-- A grant made in a FREE entry is counted 0: no enabled watch names it (R38). -/
theorem State.MonitorLawful.grantAdded {s : State} (law : s.MonitorLawful) {i : Fin 64} (free : s.grant? i = none)
    (r : Req) (w : Wish) (start : Nat) : (s.grantAdded r w i start).MonitorLawful := by
  obtain ⟨counted, current, paired⟩ := s.monitorLawful_iff.1 law
  have positions : (s.grantAdded r w i start).monitor.positions = s.monitor.positions := by simp [State.grantAdded]
  have entry := s.entry_grantAdded r w i start
  have other : ∀ k, k ≠ i → (s.grantAdded r w i start).entry k = s.entry k := fun k hk =>
    EntriesKept.grantAdded s r w i start k (by simpa using hk)
  have handle : (s.grantAdded r w i start).handleOf i = s.handleOf i := State.handleOf_congr (by rw [entry]; rfl)
  refine (State.monitorLawful_iff _).2 ⟨fun k => ?_, fun n x h hp ht he => ?_, paired.of_positions positions⟩
  · by_cases hk : k = i
    · subst hk
      intro g hg
      rw [State.grant?, entry] at hg
      obtain rfl := Option.some.inj hg
      have none : s.impairs (s.handleOf k) = 0 := current.impairs_eq_zero (by simp [State.grantOf, State.handleOf, free])
      rw [handle, State.impairs_of_positions positions, none]
      exact ⟨rfl, fun e => (by cases e), fun e => (by cases e)⟩
    · exact (counted k).of_entry (other k hk) (State.impairs_of_positions positions _)
  · rw [Monitor.position_congr positions] at hp
    have now := current n x h hp ht he
    have hk : h.entry ≠ i := fun e => by
      obtain ⟨g, hg⟩ := Option.isSome_iff_exists.1 now
      rw [← e, (State.grantOf_some hg).1] at free
      cases free
    rwa [State.grantOf_isSome_congr (s := s) (by rw [other _ hk]) (by rw [State.grant?, other _ hk, State.grant?])]

end Sys2Proof.Machine
end

section
/-! ## Watches that turn, come and go keep the law of the monitor (R165, R167, R168, R176), and so do sweeps (R170 to R174) -/

namespace Sys2Proof.Machine

/-! ### The record that a turn of a watch leaves -/

/-- The record of a grant when whether a watch impairs it goes from `was` to `now` (R47, R176). -/
def Grant.turn (g : Grant) : Bool → Bool → Grant
  | false, true => g.impairUp
  | true, false => g.impairDown
  | false, false => g
  | true, true => g

theorem Grant.turn_self (g : Grant) (x : Bool) : g.turn x x = g := by cases x <;> rfl

theorem Grant.impairUp_counted {g : Grant} (h : g.CarriesByCount) :
    g.impairUp.impairing = g.impairing + 1 ∧ g.impairUp.CarriesByCount := by
  unfold Grant.impairUp
  split
  · rename_i first
    exact ⟨by rw [first.2], fun e => (by cases e), fun _ => Nat.one_pos⟩
  · rename_i other
    exact ⟨rfl, fun e => absurd ⟨e, h.live e⟩ other, fun _ => Nat.succ_pos _⟩

theorem Grant.impairDown_counted {g : Grant} (h : g.CarriesByCount) (pos : 0 < g.impairing) :
    g.impairDown.impairing + 1 = g.impairing ∧ g.impairDown.CarriesByCount := by
  unfold Grant.impairDown
  split
  · rename_i last
    exact ⟨by rw [last.2], fun _ => rfl, fun e => (by cases e)⟩
  · rename_i other
    refine ⟨Nat.sub_add_cancel pos, fun e => absurd (h.live e) (by omega), fun e => ?_⟩
    have : g.impairing ≠ 1 := fun one => other ⟨e, one⟩
    show 0 < g.impairing - 1
    omega

/-- The count follows the watch, and the grant carries by it. -/
theorem Grant.turn_counted {g : Grant} (h : g.CarriesByCount) {was now : Bool} (pos : was = true → 0 < g.impairing) :
    (g.turn was now).impairing + was.toNat = g.impairing + now.toNat ∧ (g.turn was now).CarriesByCount := by
  cases was <;> cases now
  case false.true => exact Grant.impairUp_counted h
  case true.false => exact Grant.impairDown_counted h (pos rfl)
  all_goals exact ⟨rfl, h⟩

/-- An entry whose grant turns. -/
def State.turnedEntry (s : State) (i : Fin 64) (was now : Bool) : Entry :=
  { s.entry i with grant := (s.grant? i).map (·.turn was now) }

theorem State.turnedEntry_self (s : State) (i : Fin 64) (x : Bool) : s.turnedEntry i x x = s.entry i := by
  simp only [State.turnedEntry, Grant.turn_self, Option.map_id']
  rfl

/-- The law after a change at one position, when the count of every grant has followed what stands there. -/
theorem State.MonitorLawful.turned {s t : State} (law : s.MonitorLawful) {n : Fin 32}
    (entries : ∀ i, t.entry i =
      s.turnedEntry i ((s.monitor.position n).impairs (s.handleOf i)) ((t.monitor.position n).impairs (s.handleOf i)))
    (others : ∀ k, k ≠ n → ∀ h, (t.monitor.position k).impairs h = (s.monitor.position k).impairs h)
    (current : ∀ k w h, t.monitor.position k = .watch w → w.target = .grant h → w.enabled = true →
      (s.grantOf h).isSome = true)
    (paired : t.monitor.Paired) : t.MonitorLawful := by
  refine t.monitorLawful_iff.2 ⟨fun i g' hg' => ?_, fun k w h hp ht he => ?_, paired⟩
  · rw [State.grant?, entries] at hg'
    obtain ⟨g, hg, rfl⟩ := Option.map_eq_some_iff.1 hg'
    obtain ⟨count, carries⟩ := law.counted i g hg
    have changed : t.impairs (s.handleOf i) + ((s.monitor.position n).impairs (s.handleOf i)).toNat =
        s.impairs (s.handleOf i) + ((t.monitor.position n).impairs (s.handleOf i)).toNat := by
      rw [State.impairs_eq, State.impairs_eq]
      exact countP_positions_changed (p := fun k => (s.monitor.position k).impairs (s.handleOf i))
        (q := fun k => (t.monitor.position k).impairs (s.handleOf i)) fun k hk => others k hk _
    have pos : (s.monitor.position n).impairs (s.handleOf i) = true → 0 < g.impairing := fun h => by
      rw [count, State.impairs_eq, List.countP_pos_iff]
      exact ⟨n, List.mem_finRange n, h⟩
    obtain ⟨follows, carries⟩ := Grant.turn_counted carries pos
      (now := (t.monitor.position n).impairs (s.handleOf i))
    have handle : t.handleOf i = s.handleOf i := State.handleOf_congr (by rw [entries]; rfl)
    rw [handle]
    exact ⟨by omega, carries⟩
  · rw [State.grantOf_isSome_congr (s := s) (by rw [entries]; rfl) (by rw [State.grant?, entries]; exact Option.isSome_map)]
    exact current k w h hp ht he

/-! ### What a turn does to the entries -/

theorem State.entry_modNamed (s : State) (h : Handle) (f : Grant → Grant) (i : Fin 64) :
    (s.modNamed h f).entry i =
      if s.handleOf i = h then { s.entry i with grant := (s.grant? i).map f } else s.entry i := by
  unfold State.modNamed
  by_cases named : s.handleOf i = h
  · subst named
    have : s.grantOf (s.handleOf i) = s.grant? i := if_pos rfl
    rw [this, if_pos rfl]
    cases hg : s.grant? i with
    | none =>
      dsimp only
      rw [Option.map_none, ← hg]
      rfl
    | some g => exact State.entry_modGrant_same s hg f
  · rw [if_neg named]
    cases hg : s.grantOf h with
    | none => rfl
    | some g =>
      refine State.entry_modGrant_ne s (fun e => named ?_) f
      rw [State.eq_handleOf (h := h) (by rw [hg]; rfl), e]

theorem State.entry_impairUp (s : State) (h : Handle) (i : Fin 64) :
    (s.modNamed h Grant.impairUp).entry i = s.turnedEntry i false (decide (s.handleOf i = h)) := by
  rw [s.entry_modNamed]
  split
  · rename_i named
    rw [decide_eq_true named]
    rfl
  · rename_i named
    rw [decide_eq_false named, s.turnedEntry_self]

theorem State.entry_impairDown (s : State) (h : Handle) (i : Fin 64) :
    (s.modNamed h Grant.impairDown).entry i = s.turnedEntry i (decide (s.handleOf i = h)) false := by
  rw [s.entry_modNamed]
  split
  · rename_i named
    rw [decide_eq_true named]
    rfl
  · rename_i named
    rw [decide_eq_false named, s.turnedEntry_self]

/-- A watch on a handle impairs it when it is enabled, its action impairs and its condition is TRUE. -/
theorem Watch.impairs_of_target {w : Watch} {h : Handle} (target : w.target = .grant h) (x : Handle) :
    w.impairs x = (decide (x = h) && (w.enabled && w.action.impairs && w.condition)) := by
  have names : w.names x = decide (x = h) := by
    rw [Bool.eq_iff_iff, Watch.names_iff, target, WatchTarget.grant.injEq, decide_eq_true_iff, eq_comm]
  rw [Watch.impairs, names]
  cases w.enabled <;> cases w.condition <;> simp

theorem Watch.impairs_of_cells {w : Watch} {b : Band} {start width : Nat} (target : w.target = .cells b start width)
    (x : Handle) : w.impairs x = false :=
  Watch.impairs_eq_false (by rw [target]; exact WatchTarget.noConfusion)

/-- A turn of a watch's condition changes the record of the grant that it impairs (R176). -/
theorem State.entry_turned (s : State) (w : Watch) (i : Fin 64) {now : Bool} (turns : now ≠ w.condition) :
    (s.turned w now).entry i =
      s.turnedEntry i (w.impairs (s.handleOf i)) (({ w with condition := now } : Watch).impairs (s.handleOf i)) := by
  unfold State.turned
  split
  · rename_i target
    rw [Watch.impairs_of_cells target, Watch.impairs_of_cells (w := { w with condition := now }) target,
      s.turnedEntry_self]
  · rename_i h target
    rw [Watch.impairs_of_target target, Watch.impairs_of_target (w := { w with condition := now }) target]
    split
    · rename_i acts
      rw [acts, Bool.true_and, Bool.true_and]
      cases now with
      | true =>
        rw [Bool.eq_false_of_not_eq_true turns.symm, Bool.and_false, Bool.and_true, ← s.entry_impairUp]
        rw [if_pos rfl]
        dsimp only
        split
        · exact State.entry_congr (by simp) i
        · rfl
      | false =>
        rw [Bool.eq_true_of_not_eq_false turns.symm, Bool.and_false, Bool.and_true, ← s.entry_impairDown]
        rfl
    · rename_i idle
      rw [Bool.eq_false_of_not_eq_true idle, Bool.false_and, Bool.false_and, Bool.and_false, s.turnedEntry_self]

/-- The withdrawal of a watch changes the record of the grant that it impairs (R167, R168). -/
theorem State.entry_withdrawWatch (s : State) (w : Watch) (i : Fin 64) :
    (s.withdrawWatch w).entry i = s.turnedEntry i (w.impairs (s.handleOf i)) false := by
  unfold State.withdrawWatch
  split
  · rename_i target
    rw [Watch.impairs_of_cells target, s.turnedEntry_self]
  · rename_i h target
    rw [Watch.impairs_of_target target, Bool.and_right_comm]
    split
    · rename_i acts
      rw [acts, Bool.and_true, ← s.entry_impairDown]
    · rename_i idle
      rw [Bool.eq_false_of_not_eq_true idle, Bool.and_false, s.turnedEntry_self]

end Sys2Proof.Machine
end

section
/-! ## Compares, watches written and removed, sweeps and restarts keep the law of the monitor (R165 to R181) -/

namespace Sys2Proof.Machine

/-! ### Positions through the monitor's operations -/

section Positions

variable (s : State)

theorem State.position_setPosition (n : Fin 32) (p : Position) (k : Fin 32) :
    (s.setPosition n p).monitor.position k = if k = n then p else s.monitor.position k := by
  by_cases h : k = n
  · subst h
    simp [State.setPosition, State.withMonitor, Monitor.position]
  · have ne : (n : Nat) ≠ k := fun e => h (Fin.ext e.symm)
    simp [State.setPosition, State.withMonitor, Monitor.position, h, ne]

theorem State.positions_setThreshold (n : Fin 32) (v : Byte) :
    (s.setThreshold n v).monitor.positions = s.monitor.positions := rfl

theorem Monitor.setHalf_positions (m : Monitor) (h : Half) (v : Vector ResultEntry 32) :
    (m.setHalf h v).positions = m.positions := by cases h <;> rfl

theorem State.positions_store (n : Fin 32) (r : Byte) :
    (s.withMonitor (·.store n r)).monitor.positions = s.monitor.positions := Monitor.setHalf_positions ..

theorem State.positions_endSweep (w : Sweep) : (s.endSweep w).monitor.positions = s.monitor.positions := by
  rw [State.endSweep, State.reportSweep_monitor]
  rfl

theorem State.positions_startSweep : s.startSweep.monitor.positions = s.monitor.positions := by
  have begun : s.sweepBegun.monitor.positions = s.monitor.positions := by rw [s.sweepBegun_eq]
  rw [State.startSweep_eq]
  split
  · exact begun
  · rw [State.positions_endSweep, begun]

theorem State.positions_continueSweep : s.continueSweep.monitor.positions = s.monitor.positions := by
  unfold State.continueSweep
  split
  · rfl
  · split
    · rfl
    · dsimp only
      split
      · rw [State.positions_startSweep, State.positions_endSweep]
      · exact s.positions_endSweep _

theorem State.positions_sweepIfContinuous : s.sweepIfContinuous.monitor.positions = s.monitor.positions := by
  unfold State.sweepIfContinuous
  split
  · exact s.positions_startSweep
  · rfl

end Positions

section Law

variable {s : State} (law : s.MonitorLawful)
include law

theorem State.MonitorLawful.startSweep : s.startSweep.MonitorLawful :=
  law.beside (by simp) s.positions_startSweep

theorem State.MonitorLawful.continueSweep : s.continueSweep.MonitorLawful :=
  law.beside (by simp) s.positions_continueSweep

theorem State.MonitorLawful.sweepIfContinuous : s.sweepIfContinuous.MonitorLawful :=
  law.beside (by simp) s.positions_sweepIfContinuous

/-! ### A compare -/

/-- A watch whose condition is written, the count of its grant following it. -/
theorem State.MonitorLawful.conditioned {t : State} {n : Fin 32} {w : Watch} (hw : s.monitor.position n = .watch w)
    {now : Bool}
    (entries : ∀ i, t.entry i =
      s.turnedEntry i (w.impairs (s.handleOf i)) (({ w with condition := now } : Watch).impairs (s.handleOf i)))
    (positions : ∀ k, t.monitor.position k =
      if k = n then .watch { w with condition := now } else s.monitor.position k) : t.MonitorLawful := by
  have own : t.monitor.position n = .watch { w with condition := now } := by rw [positions, if_pos rfl]
  refine law.turned (n := n) (fun i => ?_) (fun k hk h => by rw [positions, if_neg hk]) (fun k x h hp ht he => ?_)
    (law.paired.of_kinds (fun k => ?_) fun k => ?_)
  · rw [entries, hw, own]
    rfl
  · rw [positions] at hp
    split at hp
    · obtain rfl := Position.watch.inj hp
      exact law.current n w h hw ht he
    · exact law.current k x h hp ht he
  all_goals
    rw [positions]
    split
    · rename_i e
      subst e
      rw [hw]
      simp
    · rfl

theorem State.MonitorLawful.compareAt {n : Fin 32} {w : Watch} (hw : s.monitor.position n = .watch w) (r : Byte) :
    (s.compareAt n w r).MonitorLawful := by
  unfold State.compareAt
  extract_lets lower upper now s₁ s₂ s₃
  have table : s₂.table = s.table := by
    unfold s₂
    split <;> simp [s₁]
  have entry : ∀ i, s₂.entry i = s.entry i := State.entry_congr (by rw [table])
  have position : ∀ k, s₂.monitor.position k = if k = n then .watch { w with condition := now } else s.monitor.position k := by
    intro k
    rw [← s.position_setPosition]
    unfold s₂
    split
    · exact Monitor.position_congr (by simp only [State.withMonitor]; split <;> rfl) k
    · rfl
  have hit : s₃.MonitorLawful := by
    by_cases turns : now = w.condition
    · have e : s₃ = s₂ := if_neg (not_not.2 turns)
      refine law.conditioned hw (now := now) (fun i => ?_) (by rwa [e])
      rw [e, entry, turns, s.turnedEntry_self]
    · have e : s₃ = s₂.turned w now := if_pos turns
      refine law.conditioned hw (now := now) (fun i => ?_) (by rwa [e, State.turned_monitor])
      rw [e, s₂.entry_turned w i turns, State.turnedEntry, State.turnedEntry, State.handleOf, State.grant?, entry]
      rfl
  exact hit.apart (by simp) (by simp)

theorem State.MonitorLawful.actOn (n : Fin 32) (r : Byte) : (s.actOn n r).MonitorLawful := by
  have stored : (s.withMonitor (·.store n r)).MonitorLawful := law.beside (by simp) (s.positions_store n r)
  unfold State.actOn
  split
  · rename_i w hw
    split
    · exact law.compareAt hw r
    · exact stored
    · exact stored.compareAt (by rwa [Monitor.position_congr (s.positions_store n r)]) r
  · exact law

theorem State.MonitorLawful.takeReading (tag value : Byte) : (s.takeReading tag value).MonitorLawful := by
  unfold State.takeReading
  split
  · exact law
  · split
    · have ended : (s.withMonitor fun m => { m with inFlight := none }).MonitorLawful := law.beside (by simp) rfl
      dsimp only
      split
      · exact ended.continueSweep
      · exact (ended.actOn ..).continueSweep
    · exact law

theorem State.MonitorLawful.senseElapsed : s.senseElapsed.MonitorLawful := by
  unfold State.senseElapsed
  split
  · exact law
  · have ended : (s.withMonitor fun m => { m with inFlight := none }).MonitorLawful := law.beside (by simp) rfl
    exact (ended.apart (by simp) (by simp)).continueSweep

theorem State.MonitorLawful.periodElapsed : s.periodElapsed.MonitorLawful := by
  unfold State.periodElapsed
  split
  · exact law
  · have reloaded : (s.withMonitor fun m => { m with periodTimer := some m.settings.period }).MonitorLawful :=
      law.beside (by simp) rfl
    dsimp only
    split
    · exact reloaded.apart (by simp) (by simp)
    · exact reloaded.startSweep

/-! ### Watches removed and written -/

omit law in
theorem State.position_removeWatch (s : State) (n : Fin 32) (w : Watch) (k : Fin 32) :
    (s.removeWatch n w).monitor.position k =
      if k = n ∨ (w.mode.isWindow = true ∧ k = upperPosition n) then .empty else s.monitor.position k := by
  have withdrawn : ((s.withdrawWatch w).withMonitor (·.voidAt n)).monitor.positions = s.monitor.positions := by
    show (s.withdrawWatch w).monitor.positions = _
    rw [State.withdrawWatch_monitor]
  unfold State.removeWatch
  dsimp only
  split
  · rename_i window
    rw [Monitor.position_congr (State.positions_setThreshold ..), State.position_setPosition,
      Monitor.position_congr (State.positions_setThreshold ..), State.position_setPosition, Monitor.position_congr withdrawn]
    by_cases own : k = n <;> by_cases above : k = upperPosition n <;> simp [own, above, window]
  · rename_i plain
    rw [Monitor.position_congr (State.positions_setThreshold ..), State.position_setPosition, Monitor.position_congr withdrawn]
    simp [plain]

theorem State.MonitorLawful.removeWatch {n : Fin 32} {w : Watch} (hw : s.monitor.position n = .watch w) :
    (s.removeWatch n w).MonitorLawful := by
  have position := s.position_removeWatch n w
  have own : (s.removeWatch n w).monitor.position n = .empty := by rw [position, if_pos (.inl rfl)]
  have entries : (s.removeWatch n w).table.entries = (s.withdrawWatch w).table.entries := by
    unfold State.removeWatch
    dsimp only
    split <;> simp
  refine law.turned (n := n) (fun i => ?_) (fun k hk h => ?_) (fun k x h hp ht he => ?_) (law.paired.removed hw position)
  · rw [State.entry_congr entries, s.entry_withdrawWatch, hw, own]
    rfl
  · rw [position]
    split
    · rename_i gone
      obtain ⟨window, rfl⟩ := gone.resolve_left hk
      have low := law.windows n w hw window
      have paired : s.monitor.position (upperPosition n) = .paired := by
        rw [law.pairs, upperPosition_sub, upperPosition_val low]
        exact ⟨by omega, w, hw, window⟩
      rw [paired]
      rfl
    · rfl
  · rw [position] at hp
    split at hp
    · cases hp
    · exact law.current k x h hp ht he

theorem State.MonitorLawful.emptyPosition (n : Fin 32) : (s.emptyPosition n).MonitorLawful := by
  unfold State.emptyPosition
  split
  · rename_i w hw
    exact law.removeWatch hw
  · exact law
  · exact law

omit law in
theorem State.position_writeWatch (s : State) (n : Fin 32) (w : Watch) (lower upper : Byte) (k : Fin 32) :
    (s.writeWatch n w lower upper).monitor.position k =
      if w.mode.isWindow = true ∧ k = upperPosition n then .paired
      else if k = n then .watch w else s.monitor.position k := by
  unfold State.writeWatch
  dsimp only
  split
  · rename_i window
    rw [Monitor.position_congr (State.positions_setThreshold ..), State.position_setPosition,
      Monitor.position_congr (State.positions_setThreshold ..), State.position_setPosition]
    simp [window]
  · rename_i plain
    rw [Monitor.position_congr (State.positions_setThreshold ..), State.position_setPosition]
    simp [plain]

/-- A watch is written to an EMPTY position, its condition FALSE and its target current; the position above a window watch
holds none (R166, R167). -/
theorem State.MonitorLawful.writeWatch {n : Fin 32} {w : Watch} (hn : s.monitor.position n = .empty)
    (condition : w.condition = false) (low : w.mode.isWindow = true → n.val < 16)
    (free : w.mode.isWindow = true → ∀ x, s.monitor.position (upperPosition n) ≠ .watch x)
    (named : ∀ h, w.target = .grant h → (s.grantOf h).isSome = true) (lower upper : Byte) :
    (s.writeWatch n w lower upper).MonitorLawful := by
  have position := s.position_writeWatch n w lower upper
  have own : (s.writeWatch n w lower upper).monitor.position n = .watch w := by
    rw [position, if_neg fun h => upperPosition_ne n h.2.symm, if_pos rfl]
  have silent : ∀ h, w.impairs h = false := fun h => by simp [Watch.impairs, condition]
  have notWatch : ∀ p : Position, (∀ x, p ≠ .watch x) → p.isWindow = false ∧ ∀ h, p.impairs h = false := by
    intro p hp
    cases p with
    | watch x => exact absurd rfl (hp x)
    | _ => exact ⟨rfl, fun _ => rfl⟩
  refine law.turned (n := n) (fun i => ?_) (fun k hk h => ?_) (fun k x h hp ht he => ?_)
    (law.paired.written hn low position fun window => (notWatch _ (free window)).1)
  · rw [hn, own, show (Position.watch w).impairs (s.handleOf i) = false from silent _,
      show Position.empty.impairs (s.handleOf i) = false from rfl, s.turnedEntry_self]
    exact State.entry_congr (by simp) i
  · rw [position]
    split
    · rename_i above
      obtain ⟨window, rfl⟩ := above
      exact ((notWatch _ (free window)).2 h).symm
    · rfl
  · rw [position] at hp
    split at hp
    · cases hp
    · split at hp
      · obtain rfl := Position.watch.inj hp
        exact named h ht
      · exact law.current k x h hp ht he

end Law

/-! ### RESTART and the release of RESET_N -/

theorem State.restartWatch_fields (s : State) (w : Watch) :
    (s.restartWatch w).target = w.target ∧ (s.restartWatch w).mode = w.mode ∧
      (s.restartWatch w).enabled = w.enabled := by
  unfold State.restartWatch
  split
  · exact ⟨rfl, rfl, rfl⟩
  · split <;> exact ⟨rfl, rfl, rfl⟩

/-- A restart keeps what impairs a grant that stays (R181). -/
theorem State.restartWatch_impairs {s : State} {h : Handle} (current : (s.grantOf h).isSome = true) (w : Watch) :
    (s.restartWatch w).impairs h = w.impairs h := by
  by_cases target : w.target = .grant h
  · rw [Watch.impairs_of_target target, Watch.impairs_of_target ((s.restartWatch_fields w).1.trans target)]
    simp only [State.restartWatch, target, current, Bool.and_true]
    split
    · rfl
    · rename_i idle
      simp [Bool.eq_false_of_not_eq_true idle]
  · rw [Watch.impairs_eq_false target, Watch.impairs_eq_false (by rwa [(s.restartWatch_fields w).1])]

section Restart

variable {s : State} (law : s.MonitorLawful)
include law

theorem State.MonitorLawful.restartEntry (i : Fin 64) : (s.restartEntry i).MonitorLawful := by
  rcases s.restartEntry_cases i with ⟨-, e⟩ | ⟨g, -, -, e⟩ | ⟨g, -, -, e⟩
  · rwa [e]
  · rw [e]
    exact law.modGrant fun x _ => .of_state rfl rfl
  · rw [e]
    have halted : (s.haltSlots (slotsOf g)).MonitorLawful := law.apart (by simp) (by simp)
    exact (halted.setOutcome i .revoked).freeEntry i

omit law in
theorem State.MonitorLawful.restartEntries (l : List (Fin 64)) : ∀ {s : State}, s.MonitorLawful →
    (s.restartEntries l).MonitorLawful := by
  induction l with
  | nil => exact id
  | cons i l ih => exact fun law => ih (law.restartEntry i)

theorem State.MonitorLawful.watchesRestarted {t : State} (entries : t.table.entries = s.table.entries)
    (positions : t.monitor.positions = (s.monitor.mapWatches s.restartWatch).positions) : t.MonitorLawful := by
  have grant : ∀ i, t.grant? i = s.grant? i := State.grant_congr entries
  have handle : ∀ i, t.handleOf i = s.handleOf i := fun i => State.handleOf_congr (by rw [State.entry_congr entries])
  refine State.monitorLawful_of_mapWatches law.current law.paired positions (fun w => (s.restartWatch_fields w).2.1)
    (fun i g hg => ?_) fun w h ht he => ?_
  · rw [grant] at hg
    have now : (s.grantOf (s.handleOf i)).isSome = true := by simp [State.grantOf, State.handleOf, hg]
    rw [handle, State.impairs_mapWatches positions (State.restartWatch_impairs now)]
    exact law.counted i g hg
  · obtain ⟨target, -, enabled⟩ := s.restartWatch_fields w
    refine ⟨target ▸ ht, enabled ▸ he, fun now => ?_⟩
    rwa [State.grantOf_isSome_congr (s := s) (by rw [State.entry_congr entries]) (by rw [grant])]

theorem State.MonitorLawful.warmRestart : s.warmRestart.1.MonitorLawful := by
  have engine : s.restartEngine.MonitorLawful := law.apart rfl rfl
  have freed : s.grantsRestarted.MonitorLawful := .restartEntries entryNumbers engine
  have blocks : s.restartBlocks.MonitorLawful :=
    (freed.noteLoad s).apart (by simp [State.restartBlocks_eq]) (by simp [State.restartBlocks_eq])
  have positions : s.restarted.monitor.positions =
      (s.restartBlocks.monitor.mapWatches s.restartBlocks.restartWatch).positions := by
    simp [State.restarted, State.restartMonitor_eq, Monitor.restarted]
  have restarted : s.restarted.MonitorLawful := blocks.watchesRestarted (by simp [State.restarted]) positions
  rw [State.warmRestart_eq]
  dsimp only
  exact restarted.sweepIfContinuous

end Restart

theorem State.coldStart_monitorLawful (s : State) : s.coldStart.MonitorLawful :=
  State.monitorLawful_reset.apart rfl rfl

end Sys2Proof.Machine
end

section
/-! ## The operations of the move engine and the ends of grants keep the law of the monitor (R25, R57 to R66, R149 to R161) -/

namespace Sys2Proof.Machine

theorem Grant.CountKept.withNews (g : Grant) (x : Bool) : g.CountKept (g.withNews x) := .of_state rfl rfl

section Law

variable {s : State} (law : s.MonitorLawful)
include law

/-! ### Slots, levels of fragmentation, the record of the repack -/

theorem State.MonitorLawful.haltPart (p : Option SlotId) : (s.haltPart p).MonitorLawful := law.apart (by simp) (by simp)

theorem State.MonitorLawful.beginAttempt (j : SlotId) (i : Fin 64) (c : Caller) (second : Bool) (start : Nat) :
    (s.beginAttempt j i c second start).MonitorLawful := law.apart (by simp) (by simp)

theorem State.MonitorLawful.noteFrag (b : Band) : (s.noteFrag b).MonitorLawful := law.apart (by simp) (by simp)

theorem State.MonitorLawful.endRepack (r : EndReason) : (s.endRepack r).MonitorLawful := law.apart (by simp) (by simp)

theorem State.MonitorLawful.countMove : s.countMove.MonitorLawful := law.apart (by simp) (by simp)

theorem State.MonitorLawful.news (i : Fin 64) (x : Bool) :
    (s.modGrant i fun g => { g with news := x }).MonitorLawful := law.modGrant fun _ _ => .of_state rfl rfl

/-- A change of the grant that an entry holds. -/
theorem State.MonitorLawful.modHeld {i : Fin 64} {g : Grant} (hg : s.grant? i = some g) {f : Grant → Grant}
    (kept : g.CountKept (f g)) : (s.modGrant i f).MonitorLawful :=
  law.modGrant fun x hx => by
    obtain rfl : g = x := Option.some.inj (hg.symm.trans hx)
    exact kept

/-- Grants that come to carry by their counts. -/
theorem State.MonitorLawful.carrying (i : Fin 64) {f : Grant → Grant} (impairing : ∀ g, (f g).impairing = g.impairing)
    (state : ∀ g, (f g).state = g.carryState) : (s.modGrant i f).MonitorLawful :=
  law.modGrant fun g _ => .of_carryState (impairing g) (state g)

/-- Grants that come to a state in which they do not carry. -/
theorem State.MonitorLawful.silenced (i : Fin 64) {f : Grant → Grant} (impairing : ∀ g, (f g).impairing = g.impairing)
    {x : GrantState} (state : ∀ g, (f g).state = x) (live : x ≠ .live) (impaired : x ≠ .impaired) :
    (s.modGrant i f).MonitorLawful :=
  law.modGrant fun g _ => .of_silent (impairing g) (by rwa [state]) (by rwa [state])

/-! ### Moves (R140, R141, R149) -/

theorem State.MonitorLawful.moveReserved {i : Fin 64} {g : Grant} (hg : s.grant? i = some g)
    (state : g.state = .reserved) (start : Nat) (byTenant : Bool) : (s.moveReserved i start byTenant).MonitorLawful := by
  have noted : ((s.setOutcome i .moved).modGrant i (·.withNews byTenant)).MonitorLawful :=
    (law.setOutcome i .moved).modGrant fun g _ => .withNews g byTenant
  have held : ((s.setOutcome i .moved).modGrant i (·.withNews byTenant)).grant? i = some (g.withNews byTenant) :=
    State.grant_modGrant_same _ (by rw [State.grant_setOutcome, hg]) _
  refine State.monitorLawful_relocate held ?_ (fun k _ => noted.counted k) noted.current noted.paired start
  rw [show (g.withNews byTenant).state = g.state from rfl, state]
  exact GrantState.noConfusion

/-- A grant whose record and outcome have been written changes its span (R149): its count is 0 whatever it was. -/
theorem State.MonitorLawful.relocated {t : State} {i : Fin 64} {g g' : Grant} (hg : s.grant? i = some g)
    {o : LastOutcome} (own : t.entry i = { s.entry i with lastOutcome := o, grant := some g' })
    (other : EntriesKept s t [i]) (positions : t.monitor.positions = s.monitor.positions) (state : g'.state ≠ .impaired)
    (n : Nat) : (t.relocate i n).MonitorLawful := by
  have other : ∀ k, k ≠ i → t.entry k = s.entry k := fun k hk => other k (by simpa using hk)
  have named : ∀ h : Handle, (t.grantOf h).isSome = (s.grantOf h).isSome := fun h => by
    by_cases hk : h.entry = i
    · exact State.grantOf_isSome_congr (by rw [hk, own]) (by rw [hk, hg, State.grant?, own]; rfl)
    · exact State.grantOf_isSome_congr (by rw [other _ hk]) (by rw [State.grant?, other _ hk, State.grant?])
  refine State.monitorLawful_relocate (g := g') (by rw [State.grant?, own]) state
    (fun k hk => (law.counted k).of_entry (other k hk) (State.impairs_of_positions positions _))
    (fun m w h hp ht he => ?_) (law.paired.of_positions positions) n
  rw [Monitor.position_congr positions] at hp
  rw [named]
  exact law.current m w h hp ht he

/-- A grant that comes to carry on its target (R143, R147). -/
theorem State.MonitorLawful.landed {i : Fin 64} {g : Grant} (hg : s.grant? i = some g) (j : SlotId) (o : LastOutcome)
    (n : Nat) : (((s.modGrant i (·.landed j)).setOutcome i o).relocate i n).MonitorLawful :=
  have own : ((s.modGrant i (·.landed j)).setOutcome i o).entry i =
      { s.entry i with lastOutcome := o, grant := some (g.landed j) } := by
    rw [State.entry_setOutcome_same, State.entry_modGrant_same s hg]
  law.relocated hg own ((EntriesKept.modGrant s i _).twice (EntriesKept.setEntry _ i _)) (by simp)
    (by simp [Grant.landed]) n

theorem State.MonitorLawful.beginMove (i : Fin 64) (start : Nat) (kind : MoveKind) (origin : MoveOrigin) (j : SlotId)
    (byTenant : Bool) : (s.beginMove i start kind origin j byTenant).MonitorLawful := by
  have moving := law.silenced i
    (f := fun g => Grant.withNews
      { g with
        state := .moving
        move := some { target := start, kind, origin, phase := .targetTuning, second := if kind = .seamless then some j else none } }
      byTenant) (x := .moving) (fun _ => rfl) (fun _ => rfl) (by decide) (by decide)
  exact (moving.beginAttempt j i .moveTarget false start).recount i

/-! ### Repack (R154 to R161) -/

omit law in
theorem State.MonitorLawful.repackSteps (b : Band) (n : Nat) : ∀ {s : State}, s.MonitorLawful →
    (State.repackSteps b n s).MonitorLawful := by
  induction n with
  | zero => exact fun law => law.endRepack _
  | succ n ih =>
    intro s law
    unfold State.repackSteps
    split
    · exact law.endRepack _
    · split
      · exact law.endRepack _
      · rename_i hg
        split
        · rename_i reserved
          exact ih (((law.moveReserved hg reserved _ _).countMove).noteFrag b)
        · split
          · exact law.endRepack _
          · exact (law.beginMove ..).noteFrag b

theorem State.MonitorLawful.continueRepack : s.continueRepack.MonitorLawful := by
  unfold State.continueRepack
  split
  · exact law
  · exact .repackSteps _ _ law

theorem State.MonitorLawful.startRepack (b : Band) : (s.startRepack b).MonitorLawful :=
  State.MonitorLawful.continueRepack (law.apart (by simp) (by simp))

theorem State.MonitorLawful.refreshFrag (b : Band) : (s.refreshFrag b).MonitorLawful := by
  unfold State.refreshFrag
  dsimp only
  split
  · exact (law.noteFrag b).startRepack b
  · exact law.noteFrag b

theorem State.MonitorLawful.repackAfter (o : MoveOrigin) (e : MoveEnd) : (s.repackAfter o e).MonitorLawful := by
  unfold State.repackAfter
  split
  · cases e with
    | onTarget => exact law.countMove.continueRepack
    | failed => exact law.endRepack _
    | left => exact law.continueRepack
  · exact law

theorem State.MonitorLawful.fallBack (i : Fin 64) : (s.fallBack i).MonitorLawful :=
  (law.silenced i (f := (·.fallenBack s.plan.settings.holdTime)) (x := .reserved) (fun _ => rfl) (fun _ => rfl)
    (by decide) (by decide)).noteLoad s

theorem State.MonitorLawful.stayed (i : Fin 64) : (s.modGrant i Grant.stayed).MonitorLawful :=
  law.carrying i (fun _ => rfl) fun _ => rfl

theorem State.MonitorLawful.abandonMove (i : Fin 64) : (s.abandonMove i).MonitorLawful := by
  unfold State.abandonMove
  split
  · exact law
  · split
    · exact law
    · refine State.MonitorLawful.noteFrag (.setOutcome ?_ i _) _
      split
      · exact (((law.haltPart _).stayed i).recount i).noteLoad s
      · exact (law.haltPart _).fallBack i

theorem State.MonitorLawful.stopRepack : s.stopRepack.MonitorLawful := by
  unfold State.stopRepack
  split
  · refine State.MonitorLawful.endRepack ?_ _
    split
    · exact law
    · exact law.abandonMove _
  · exact law

/-! ### Grants given up (R57 to R66) -/

theorem State.MonitorLawful.enterQuiet (i : Fin 64) : (s.enterQuiet i).MonitorLawful := by
  have quiet : (s.modGrant i (·.quieted s.plan.settings.quietInterval)).MonitorLawful :=
    law.silenced i (x := .quiet) (fun _ => rfl) (fun _ => rfl) (by decide) (by decide)
  unfold State.enterQuiet
  dsimp only
  split
  · exact quiet.freeEntry i
  · exact quiet

theorem State.MonitorLawful.haltedQuiet (p : Option SlotId) (i : Fin 64) :
    ((s.haltPart p).enterQuiet i).MonitorLawful := (law.haltPart p).enterQuiet i

theorem State.MonitorLawful.takeOffAir (i : Fin 64) (p : Option SlotId) (c : Cls) (cut : Bool) :
    (s.takeOffAir i p c cut).MonitorLawful := by
  have drains : (s.modGrant i Grant.drained).MonitorLawful :=
    law.silenced i (x := .draining) (fun _ => rfl) (fun _ => rfl) (by decide) (by decide)
  unfold State.takeOffAir
  split
  · exact law.haltedQuiet p i
  · unfold State.enterDraining
    dsimp only
    split
    · exact drains
    · exact drains.apart (by simp) (by simp)

theorem State.MonitorLawful.leaveSeamless (i : Fin 64) (p : Option SlotId) : (s.leaveSeamless i p).MonitorLawful :=
  ((law.haltPart p).carrying i (f := fun g => { g with state := g.carryState, move := none }) (fun _ => rfl)
    fun _ => rfl).recount i

theorem State.MonitorLawful.giveUp (i : Fin 64) (g : Grant) (cut : Bool) : (s.giveUp i g cut).MonitorLawful := by
  unfold State.giveUp
  split
  · exact law.freeEntry i
  · exact law.haltedQuiet _ i
  · exact law.takeOffAir ..
  · exact law.takeOffAir ..
  · split
    · exact law
    · split
      · exact (law.leaveSeamless i _).takeOffAir ..
      · exact law.haltedQuiet _ i
  · split
    · exact law.haltedQuiet _ i
    · exact law
  · exact law

theorem State.MonitorLawful.endGrant (i : Fin 64) (o : LastOutcome) (byTenant cut : Bool) :
    (s.endGrant i o byTenant cut).MonitorLawful := by
  unfold State.endGrant
  split
  · exact law
  · rename_i g _
    have given : (Machine.noteLoad s (((s.setOutcome i o).modGrant i (·.withNews byTenant)).giveUp i g cut)).MonitorLawful :=
      ((((law.setOutcome i o).modGrant fun x _ => .withNews x byTenant)).giveUp i g cut).noteLoad s
    dsimp only
    split
    · split
      · exact given.refreshFrag _
      · exact given
    · split
      · exact (given.refreshFrag _).repackAfter ..
      · exact given.repackAfter ..

theorem State.MonitorLawful.endDrain (i : Fin 64) (g : Grant) : (s.endDrain i g).MonitorLawful := by
  have quiet := ((law.news i true).haltedQuiet g.slot i).noteLoad s
  unfold State.endDrain
  dsimp only
  split
  · exact quiet.refreshFrag _
  · exact quiet

theorem State.MonitorLawful.freeByTimer (i : Fin 64) (g : Grant) : (s.freeByTimer i g).MonitorLawful :=
  (law.freeEntry i).refreshFrag _

end Law

end Sys2Proof.Machine
end

section
/-! ## The outcomes of tunings keep the law of the monitor (R54, R55, R68, R69, R110 to R114, R143 to R148) -/

namespace Sys2Proof.Machine

variable {s : State} (law : s.MonitorLawful)
include law

theorem State.MonitorLawful.moveEnded (old : State) (b : Band) (o : MoveOrigin) (e : MoveEnd) :
    (((Machine.noteLoad old s).refreshFrag b).repackAfter o e).MonitorLawful :=
  ((law.noteLoad old).refreshFrag b).repackAfter o e

theorem State.MonitorLawful.carrierUp (i : Fin 64) (j : SlotId) : (s.carrierUp i j).MonitorLawful :=
  (law.carrying i (f := fun g => { g with state := g.carryState, slot := some j, phaseTimer := none, news := true })
    (fun _ => rfl) fun _ => rfl).setOutcome i _

theorem State.MonitorLawful.arrive (i : Fin 64) (j : SlotId) : (s.arrive i j).MonitorLawful := by
  unfold State.arrive
  split
  · exact law
  · rename_i g hg
    split
    · exact law
    · rename_i m _
      have halted : (if m.kind = .seamless then s.haltPart g.slot else s).MonitorLawful := by
        split
        · exact law.haltPart _
        · exact law
      have held : (if m.kind = .seamless then s.haltPart g.slot else s).grant? i = some g := by
        rw [← hg]
        exact State.grant_congr (by split <;> simp) i
      exact ((halted.landed held j .moved m.target).recount i).moveEnded ..

theorem State.MonitorLawful.stayBehind (i : Fin 64) (p : Option SlotId) : (s.stayBehind i p).MonitorLawful := by
  unfold State.stayBehind
  split
  · exact law
  · split
    · exact law
    · have stays : (s.modGrant i fun g => { g.stayed with slot := p }).MonitorLawful :=
        law.carrying i (fun _ => rfl) fun _ => rfl
      exact ((stays.setOutcome i _).recount i).moveEnded ..

theorem State.MonitorLawful.fallbackFails (i : Fin 64) : (s.fallbackFails i).MonitorLawful := by
  unfold State.fallbackFails
  split
  · exact law
  · split
    · exact law
    · exact (((law.fallBack i).setOutcome i _).refreshFrag _).repackAfter ..

theorem State.MonitorLawful.attempt (j : SlotId) (i : Fin 64) (c : Caller) (second : Bool) (start : Nat) :
    ((s.beginAttempt j i c second start).modGrant i (·.pointTo c j)).MonitorLawful :=
  (law.beginAttempt ..).modGrant fun g _ => by
    unfold Grant.pointTo
    split
    · split <;> exact .of_state rfl rfl
    · exact .of_state rfl rfl

theorem State.MonitorLawful.beginFallback (i : Fin 64) (g : Grant) (m : MoveContext) :
    (s.beginFallback i g m).MonitorLawful := by
  have falls : (s.modGrant i fun g => { g with move := some { m with phase := .fallbackTuning } }).MonitorLawful :=
    law.modGrant fun _ _ => .of_state rfl rfl
  unfold State.beginFallback
  dsimp only
  split
  · exact falls.fallbackFails i
  · exact falls.attempt ..

theorem State.MonitorLawful.tuningFails (i : Fin 64) (c : Caller) : (s.tuningFails i c).MonitorLawful := by
  unfold State.tuningFails
  split
  · exact law
  · cases c with
    | activation => exact (law.fallBack i).setOutcome i _
    | relock => exact law.fallBack i
    | moveTarget =>
      dsimp only
      split
      · exact law
      · split
        · exact law.stayBehind i _
        · exact law.beginFallback ..
    | fallback => exact law.fallbackFails i
    | test => exact law

theorem State.MonitorLawful.tuningSucceeds (i : Fin 64) (c : Caller) (j : SlotId) :
    (s.tuningSucceeds i c j).MonitorLawful := by
  cases c with
  | activation => exact law.carrierUp i j
  | relock => exact law.carrierUp i j
  | moveTarget => exact law.arrive i j
  | fallback => exact law.stayBehind i _
  | test => exact law

theorem State.MonitorLawful.seekRetry (i : Fin 64) (c : Caller) (j : SlotId) : (s.seekRetry i c j).MonitorLawful := by
  unfold State.seekRetry
  split
  · exact law
  · split
    · exact law.tuningFails i c
    · exact law.attempt ..

theorem State.MonitorLawful.attemptFails (j : SlotId) (a : Attempt) : (s.attemptFails j a).MonitorLawful := by
  have failed : (s.failSlot j).MonitorLawful := law.apart (by simp) (by simp)
  unfold State.attemptFails
  split
  · exact law.apart (by simp) (by simp)
  · split
    · exact failed
    · split
      · exact failed
      · split
        · split
          · exact failed.tuningFails ..
          · exact failed.seekRetry ..
        · exact failed

theorem State.MonitorLawful.attemptLocks (j : SlotId) (a : Attempt) : (s.attemptLocks j a).MonitorLawful := by
  have locked : (s.lockSlot j).MonitorLawful := law.apart (by simp) (by simp)
  unfold State.attemptLocks
  split
  · exact law.apart (by simp) (by simp)
  · split
    · exact locked
    · split
      · exact locked
      · split
        · exact locked.tuningSucceeds ..
        · exact locked

theorem State.MonitorLawful.lockLoss (j : SlotId) (i : Fin 64) (g : Grant) : (s.lockLoss j i g).MonitorLawful := by
  have counted : (s.countLoss j).MonitorLawful := law.apart (by simp) (by simp)
  have lost : ((((s.countLoss j).setOutcome i .lost).modGrant i fun g =>
      { g with state := .tuning, news := true }).raise .carrierLost).MonitorLawful :=
    ((counted.setOutcome i .lost).silenced i (f := fun g => { g with state := .tuning, news := true }) (x := .tuning)
      (fun _ => rfl) (fun _ => rfl) (by decide) (by decide)).apart (by simp) (by simp)
  unfold State.lockLoss
  dsimp only
  split
  · exact lost.seekRetry ..
  · exact lost.beginAttempt ..

theorem State.MonitorLawful.seamlessLoss (j : SlotId) (i : Fin 64) (m : MoveContext) :
    (s.seamlessLoss j i m).MonitorLawful := by
  have failed : (s.failSlot j).MonitorLawful := law.apart (by simp) (by simp)
  have hard : ((s.failSlot j).modGrant i fun g =>
      { g with slot := m.second, move := some { m with kind := .hard, second := none } }).MonitorLawful :=
    failed.modGrant fun _ _ => .of_state rfl rfl
  exact ((hard.recount i).noteLoad s).apart (by simp [State.seamlessLoss]) (by simp [State.seamlessLoss])

theorem State.MonitorLawful.lossOfLock (j : SlotId) : (s.lossOfLock j).MonitorLawful := by
  have counted : (s.countLoss j).MonitorLawful := law.apart (by simp) (by simp)
  unfold State.lossOfLock
  split
  · exact counted
  · split
    · exact counted
    · split
      · exact law.lockLoss ..
      · split
        · exact counted
        · split
          · exact law.seamlessLoss ..
          · exact counted

theorem State.MonitorLawful.lockedOn (j : SlotId) : (s.lockedOn j).MonitorLawful := by
  unfold State.lockedOn
  split
  · exact law.attemptLocks ..
  all_goals exact law

theorem State.MonitorLawful.failedOn (j : SlotId) : (s.failedOn j).MonitorLawful := by
  unfold State.failedOn
  split
  · exact law.attemptFails ..
  all_goals exact law

theorem State.MonitorLawful.lostOn (j : SlotId) : (s.lostOn j).MonitorLawful := by
  unfold State.lostOn
  split
  · exact law.attemptFails ..
  · exact law.lossOfLock ..
  all_goals exact law

end Sys2Proof.Machine
end

section
/-! ## The requests, and the rest of the events, keep the law of the monitor -/

namespace Sys2Proof.Machine

section Handlers

variable {s : State} (law : s.MonitorLawful) (r : Req)
include law

theorem State.MonitorLawful.done (payload : List Byte) : (answerDone s payload).1.MonitorLawful := law

theorem State.MonitorLawful.accepted (payload : List Byte) : (answerAccepted s payload).1.MonitorLawful := law

/-! ### The plan store, the profiles (R1 to R15, R93 to R96) -/

theorem State.MonitorLawful.plan (p : PlanStore) : (s.withPlan p).MonitorLawful := law.apart rfl rfl

theorem State.MonitorLawful.stageRegion : (Machine.stageRegion r s).1.MonitorLawful := by
  unfold Machine.stageRegion
  split
  · refine managementRequest_keeps law ?_
    split
    · exact law
    · exact law.plan _
  · exact law

theorem State.MonitorLawful.discardStaged : (Machine.discardStaged r s).1.MonitorLawful :=
  managementRequest_keeps law (law.plan _)

theorem State.MonitorLawful.freezeRegion : (Machine.freezeRegion r s).1.MonitorLawful := by
  unfold Machine.freezeRegion
  split
  · exact managementRequest_keeps law (law.plan _)
  · exact law

theorem State.MonitorLawful.setGuard : (Machine.setGuard r s).1.MonitorLawful := by
  refine managementRequest_keeps law ?_
  split
  · exact law
  · exact law.plan _

theorem State.MonitorLawful.setTenant : (Machine.setTenant r s).1.MonitorLawful := by
  unfold Machine.setTenant
  split
  · refine managementRequest_keeps law ?_
    split
    · exact law
    · exact law.plan _
  · exact law

theorem State.MonitorLawful.switchStart (old : Settings) (b : Band) : (s.switchStart old b).MonitorLawful := by
  unfold State.switchStart
  split
  · exact law.startRepack b
  · exact law

theorem State.MonitorLawful.setPlanSettings : (Machine.setPlanSettings r s).1.MonitorLawful := by
  unfold Machine.setPlanSettings
  split
  · exact law
  · exact managementRequest_keeps law (((law.plan _).switchStart _ .up).switchStart _ .down)

theorem State.MonitorLawful.writeProfile : (Machine.writeProfile r s).1.MonitorLawful := by
  unfold Machine.writeProfile
  split
  · refine managementRequest_keeps law ?_
    split
    · exact law
    · exact law.apart rfl rfl
  · exact law

theorem State.MonitorLawful.clearProfile : (Machine.clearProfile r s).1.MonitorLawful := by
  unfold Machine.clearProfile
  split
  · exact law
  · refine managementRequest_keeps law ?_
    split
    · exact law
    · exact law.apart rfl rfl

/-! ### The grant table (R31 to R44, R188) -/

theorem State.MonitorLawful.reserve : (Machine.reserve r s).1.MonitorLawful := by
  unfold Machine.reserve
  split
  · exact law
  · split
    · split
      · exact law
      · refine enabledTenant_keeps law ?_
        split
        · exact law
        · rename_i admitted
          obtain ⟨-, -, -, -, -, entry, -⟩ := State.admission_eq_ok_iff.1 admitted
          obtain ⟨free, -⟩ := State.freeEntryNumber_eq_some_iff.1 entry
          exact (law.grantAdded free ..).refreshFrag _
    · exact law

theorem State.MonitorLawful.lookup : (Machine.lookup r s).1.MonitorLawful :=
  ownHandle_keeps law fun i g _ => by
    unfold answerDone
    dsimp only
    split
    · exact law.news i false
    · exact law

omit law in
theorem State.MonitorLawful.clearNews (l : List (Fin 64)) : ∀ {s : State}, s.MonitorLawful →
    (s.clearNews l).MonitorLawful := by
  induction l with
  | nil => exact id
  | cons i l ih => exact fun law => ih (law.news i false)

theorem State.MonitorLawful.readNews : (Machine.readNews r s).1.MonitorLawful := by
  unfold Machine.readNews
  split
  · exact law
  · exact enabledTenant_keeps law (.clearNews _ law)

/-! ### The lives of grants (R51 to R61, R78 to R86) -/

theorem State.MonitorLawful.beginActivation (i : Fin 64) (g : Grant) (j : SlotId) (byTenant : Bool) :
    (s.beginActivation i g j byTenant).MonitorLawful :=
  ((law.silenced i (f := (·.activated j byTenant)) (x := .tuning) (fun _ => rfl) (fun _ => rfl) (by decide)
    (by decide)).recount i).beginAttempt ..

theorem State.MonitorLawful.activate : (Machine.activate r s).1.MonitorLawful :=
  ownHandle_keeps law fun i g _ => by
    split
    · exact law
    · exact law.beginActivation ..

theorem State.MonitorLawful.renew : (Machine.renew r s).1.MonitorLawful :=
  ownHandle_keeps law fun i g hg => by
    split
    · exact law
    · split
      · exact law
      · exact law.modHeld hg (.of_state rfl rfl)

theorem State.MonitorLawful.endedReply (i : Fin 64) (o : LastOutcome) (byTenant cut : Bool) :
    ((s.endGrant i o byTenant cut).endedReply i).1.MonitorLawful := by
  rw [State.endedReply_fst]
  exact law.endGrant ..

theorem State.MonitorLawful.withdraw : (Machine.withdraw r s).1.MonitorLawful :=
  ownHandle_keeps law fun i g _ => by
    split
    · exact law
    · split
      · exact law
      · split
        · exact law
        · exact law.endedReply ..

theorem State.MonitorLawful.revoke : (Machine.revoke r s).1.MonitorLawful := by
  unfold Machine.revoke
  split
  · exact law
  · refine managementHandle_keeps law fun i g _ => ?_
    split
    · exact law
    · split
      · exact law
      · exact law.endedReply ..

theorem State.MonitorLawful.hold : (Machine.hold r s).1.MonitorLawful :=
  managementHandle_keeps law fun i g hg => by
    split
    · exact law
    · exact law.modHeld hg (.of_state rfl rfl)

theorem State.MonitorLawful.unhold : (Machine.unhold r s).1.MonitorLawful :=
  managementHandle_keeps law fun i g hg => by
    split
    · exact law
    · exact law.modHeld hg (.of_state rfl rfl)

theorem State.MonitorLawful.pin : (Machine.pin r s).1.MonitorLawful :=
  managementHandle_keeps law fun i g hg => by
    split
    · exact law
    · split
      · exact law
      · exact law.modHeld hg (.of_state rfl rfl)

theorem State.MonitorLawful.setPlanFrozen (frozen : Bool) : (s.setPlanFrozen frozen).MonitorLawful :=
  law.beside rfl rfl

theorem State.MonitorLawful.freezePlan : (Machine.freezePlan r s).1.MonitorLawful := by
  unfold Machine.freezePlan
  split
  · exact law
  · refine managementRequest_keeps law ?_
    unfold answerDone
    dsimp only
    split
    · exact (law.setPlanFrozen true).stopRepack
    · exact law.setPlanFrozen false

/-! ### Levels and budgets (R127 to R131) -/

theorem State.MonitorLawful.relevel {i : Fin 64} {g : Grant} {f : Grant → Grant} (kept : ∀ g : Grant, g.CountKept (f g)) :
    (s.relevel i g f).1.MonitorLawful := by
  unfold State.relevel
  dsimp only
  split
  · exact law
  · exact (((law.modGrant fun g _ => kept g).applyLevels s).noteLoad s).done _

theorem State.MonitorLawful.setLevel : (Machine.setLevel r s).1.MonitorLawful :=
  ownHandle_keeps law fun i g _ => by
    split
    · exact law
    · exact law.relevel fun _ => .of_state rfl rfl

theorem State.MonitorLawful.assignGroup : (Machine.assignGroup r s).1.MonitorLawful := by
  unfold Machine.assignGroup
  split
  · exact law
  · exact managementHandle_keeps law fun i g _ => law.relevel fun _ => .of_state rfl rfl

theorem State.MonitorLawful.setGroup : (Machine.setGroup r s).1.MonitorLawful := by
  unfold Machine.setGroup
  split
  · exact law
  · rename_i unit _
    have written : ({ s with levels := unit } : State).MonitorLawful := law.apart rfl rfl
    refine managementRequest_keeps law ?_
    dsimp only
    split
    · exact law
    · exact ((written.applyLevels s).noteLoad s).done _

theorem State.MonitorLawful.setBudget : (Machine.setBudget r s).1.MonitorLawful := by
  unfold Machine.setBudget
  split
  · exact law
  · rename_i b _
    have written : (s.setBudget b (r.word 1)).MonitorLawful := law.apart rfl rfl
    refine managementRequest_keeps law ?_
    split
    · exact law
    · unfold answerDone
      dsimp only
      split
      · exact written.loadDecreased
      · exact written

/-! ### Moves (R137 to R141, R151, R156, R160) -/

theorem State.MonitorLawful.carryOutMove {i : Fin 64} {g : Grant} (hg : s.grant? i = some g) (start : Nat)
    (kind : Option MoveKind) : (s.carryOutMove r i g start kind).1.MonitorLawful := by
  unfold State.carryOutMove
  split
  · rename_i reserved
    exact ((law.moveReserved hg reserved ..).refreshFrag _).done _
  · split
    · exact law
    · exact ((law.beginMove ..).refreshFrag _).accepted _

theorem State.MonitorLawful.move : (Machine.move r s).1.MonitorLawful := by
  unfold Machine.move
  split
  · refine ownHandle_keeps law fun i g hg => ?_
    split
    · exact law
    · exact law.carryOutMove r hg ..
  · exact law

theorem State.MonitorLawful.repack : (Machine.repack r s).1.MonitorLawful := by
  unfold Machine.repack
  split
  · exact law
  · refine managementRequest_keeps law ?_
    split
    · exact law
    · split
      · exact law
      · exact law.startRepack _

theorem State.MonitorLawful.stopRepackRequest : (Machine.stopRepack r s).1.MonitorLawful :=
  managementRequest_keeps law law.stopRepack

theorem State.MonitorLawful.takeAsk : s.takeAsk.MonitorLawful := by
  unfold State.takeAsk
  split
  · exact law
  · rename_i a rest _
    have taken : ({ s with engine := { s.engine with asks := rest } } : State).MonitorLawful := law.apart rfl rfl
    dsimp only
    split
    · exact taken
    · split
      · exact taken
      · unfold State.autoMove
        split
        · exact (taken.setOutcome _ _).news _ true
        · split
          · exact taken
          · exact (taken.beginMove ..).refreshFrag _

/-! ### Watches and sweeps (R166 to R175) -/

omit law in
theorem TableKept.grantOf_isSome {t : State} (h : TableKept s t) (x : Handle) :
    (t.grantOf x).isSome = (s.grantOf x).isSome := by
  obtain ⟨generation, -, grant⟩ := h.entries x.entry
  refine State.grantOf_isSome_congr generation ?_
  rw [State.grant?, State.grant?]
  generalize (s.entry x.entry).grant = a at grant
  generalize (t.entry x.entry).grant = b at grant
  cases grant <;> rfl

omit law in
/-- What a SET_WATCH finds at a position of which its checks have passed, when the position has been emptied (R166, R167). -/
theorem State.position_emptyPosition {n : Fin 32} (unpaired : s.monitor.position n ≠ .paired) :
    (s.emptyPosition n).monitor.position n = .empty ∧
      ∀ k x, (s.emptyPosition n).monitor.position k = .watch x → s.monitor.position k = .watch x := by
  unfold State.emptyPosition
  cases hn : s.monitor.position n with
  | watch w =>
    refine ⟨by rw [s.position_removeWatch n w, if_pos (.inl rfl)], fun k x hk => ?_⟩
    rw [s.position_removeWatch n w] at hk
    split at hk
    · cases hk
    · exact hk
  | paired => exact absurd hn unpaired
  | empty => exact ⟨hn, fun _ _ => id⟩

theorem State.MonitorLawful.watchSet {n : Fin 32} {w : Watch} (fields : WatchFields r n w)
    (pairing : s.monitor.pairingRefuses n w = false) (named : s.staleTarget w = none) (lower upper : Byte) :
    ((s.emptyPosition n).writeWatch n w lower upper).MonitorLawful := by
  obtain ⟨unpaired, above⟩ := Bool.or_eq_false_iff.1 pairing
  obtain ⟨empty, watches⟩ := State.position_emptyPosition (s := s) (n := n) (by simpa using unpaired)
  refine (law.emptyPosition n).writeWatch empty fields.condition (fun window => (fields.window ?_).1)
    (fun window x hx => ?_) (fun h target => ?_) lower upper
  · cases hm : w.mode <;> simp [hm, CompareMode.isWindow, Window] at window ⊢
  · simp [window, watches _ _ hx] at above
  · rw [(TableKept.emptyPosition s n).grantOf_isSome]
    simp only [State.staleTarget, target] at named
    split at named
    · cases named
    · rename_i current
      simpa [Option.isSome_iff_ne_none] using current

theorem State.MonitorLawful.setWatch : (Machine.setWatch r s).1.MonitorLawful := by
  unfold Machine.setWatch
  split
  · exact law
  · rename_i n position
    split
    · exact law
    · rename_i w written
      have fields := (writtenWatch_eq_some_iff ((positionOf_eq_some_iff ..).1 position) w).1 written
      refine managementRequest_keeps law ?_
      split
      · exact law
      · rename_i pairing
        split
        · exact law
        · rename_i named
          exact (law.watchSet r fields (by simpa using pairing) named _ _).sweepIfContinuous

theorem State.MonitorLawful.clearWatch : (Machine.clearWatch r s).1.MonitorLawful := by
  unfold Machine.clearWatch
  split
  · exact law
  · refine managementRequest_keeps law ?_
    split
    · exact law
    · exact law.emptyPosition _

theorem State.MonitorLawful.setSweep : (Machine.setSweep r s).1.MonitorLawful := by
  unfold Machine.setSweep
  split
  · exact law
  · exact managementRequest_keeps law (State.MonitorLawful.sweepIfContinuous (law.beside rfl rfl))

theorem State.MonitorLawful.sweep : (Machine.sweep r s).1.MonitorLawful := by
  refine managementRequest_keeps law ?_
  split
  · exact law
  · exact law.startSweep

theorem State.MonitorLawful.clearHits : (Machine.clearHits r s).1.MonitorLawful :=
  managementRequest_keeps law (law.beside rfl rfl)

theorem State.MonitorLawful.readEvents : (Machine.readEvents r s).1.MonitorLawful :=
  managementRequest_keeps law (law.apart rfl rfl)

theorem State.MonitorLawful.setEventMask : (Machine.setEventMask r s).1.MonitorLawful :=
  managementRequest_keeps law (law.apart rfl rfl)

theorem State.MonitorLawful.restart : (Machine.restart r s).1.MonitorLawful :=
  managementRequest_keeps law (law.warmRestart.done _)

end Handlers

/-! ### What arrives from outside, and the timers -/

section Events

variable {s : State} (law : s.MonitorLawful)
include law

theorem State.MonitorLawful.takePilot (p : Byte) : (s.takePilot p).MonitorLawful := by
  have read : (s.setReading p).MonitorLawful := law.apart rfl rfl
  exact read.trackPilot.apart (by simp [State.takePilot]) (by simp [State.takePilot])

theorem State.MonitorLawful.whileRunning {run : State} (h : run.MonitorLawful) : (s.whileRunning run).MonitorLawful :=
  State.whileRunning_keeps law h

theorem State.MonitorLawful.holdExpiry (i : Fin 64) :
    (s.onGrant i fun g => if g.holdRuns then (s.setOutcome i .lapsed).freeByTimer i g else s).MonitorLawful :=
  State.onGrant_keeps law fun g _ => by
    split
    · exact (law.setOutcome i .lapsed).freeByTimer i g
    · exact law

theorem State.MonitorLawful.leaseExpiry (i : Fin 64) :
    (s.onGrant i fun g =>
      if g.leaseRuns then (s.endGrant i .expired false false).raise .leaseExpired else s).MonitorLawful :=
  State.onGrant_keeps law fun g _ => by
    split
    · exact (law.endGrant i .expired false false).apart rfl rfl
    · exact law

theorem State.MonitorLawful.drainExpiry (i : Fin 64) :
    (s.onGrant i fun g => if g.state = .draining then s.endDrain i g else s).MonitorLawful :=
  State.onGrant_keeps law fun g _ => by
    split
    · exact law.endDrain i g
    · exact law

theorem State.MonitorLawful.quietExpiry (i : Fin 64) :
    (s.onGrant i fun g => if g.state = .quiet then s.freeByTimer i g else s).MonitorLawful :=
  State.onGrant_keeps law fun g _ => by
    split
    · exact law.freeByTimer i g
    · exact law

theorem State.MonitorLawful.settleExpiry (k : Fin 8) :
    (s.whileRunning
      (if (s.profile k).state = .settling then s.setProfile k (s.profile k).settled else s)).MonitorLawful := by
  refine law.whileRunning ?_
  split
  · exact law.apart rfl rfl
  · exact law

omit law in
/-- A millisecond changes the timers of a grant only. -/
theorem Grant.CountKept.tick (g : Grant) : g.CountKept g.tick := by
  obtain ⟨_, _, lease⟩ := g.leaseTicked_eq
  obtain ⟨_, _, hold⟩ := g.leaseTicked.holdTicked_eq
  rw [Grant.tick_eq, hold, lease]
  exact .of_state rfl rfl

theorem State.MonitorLawful.tick : s.tick.MonitorLawful :=
  law.kept
    { generation := fun i => by rw [s.entry_tick]; rfl
      grant := fun i => by
        rw [State.grant?, State.grant?, s.entry_tick]
        show Option.Rel _ _ ((s.entry i).grant.map Grant.tick)
        cases (s.entry i).grant with
        | none => exact .none
        | some g => exact .some (.tick g)
      positions := rfl }

theorem State.MonitorLawful.idle : s.idle.MonitorLawful := by
  unfold State.idle
  split
  · exact law.apart rfl rfl
  · split
    · exact law
    · exact law.tick

theorem State.MonitorLawful.portsOnly {t : State} (h : PortsOnly s t) : t.MonitorLawful := by
  rw [h]
  exact law.apart rfl rfl

theorem State.MonitorLawful.taken (src : Source) : (s.taken src).MonitorLawful := by
  cases src with
  | priority => exact State.MonitorLawful.stopRepack (law.apart rfl rfl)
  | queue p => exact law.apart (by simp [State.taken, State.removeFrame]) (by simp [State.taken, State.removeFrame])

/-- A request row whose handler keeps the law keeps it. -/
theorem State.MonitorLawful.serve {row : Instr} {handler : Handler}
    (h : ∀ r u, u.MonitorLawful → (handler r u).1.MonitorLawful) : (s.serve row handler).MonitorLawful :=
  State.serve_keeps law law.taken h fun _ p f placed => placed.apart (by simp) (by simp)

end Events

/-- Every command keeps the law of the monitor. -/
theorem exec_monitorLawful (c : Instr) {s : State} (law : s.MonitorLawful) :
    ∃ t, exec c s = .next t ∧ t.MonitorLawful := by
  cases c with
  | writeRequest p part => exact ⟨_, rfl, law.portsOnly (.write s p false part)⟩
  | writeRequestPriority p part => exact ⟨_, rfl, law.portsOnly (.write s p true part)⟩
  | readResponse p part => exact ⟨_, rfl, law.portsOnly (.read (.readOldest p) s part)⟩
  | readStatus p part => exact ⟨_, rfl, law.portsOnly (.read (.readCounts p) s part)⟩
  | otherCommandByte p command part =>
    refine ⟨_, rfl, ?_⟩
    split
    · exact law.portsOnly (.read (fun _ t => .setPort t p _) s part)
    · exact law
  | badRequestFrame => exact ⟨_, rfl, law.serve fun _ _ h => h⟩
  | notReadyAnswer => exact ⟨_, rfl, law.serve fun _ _ h => h⟩
  | stageRegion => exact ⟨_, rfl, law.serve fun r _ h => h.stageRegion r⟩
  | discardStaged => exact ⟨_, rfl, law.serve fun r _ h => h.discardStaged r⟩
  | freezeRegion => exact ⟨_, rfl, law.serve fun r _ h => h.freezeRegion r⟩
  | readRegion => exact ⟨_, rfl, law.serve fun r u h => by rwa [readRegion_fst]⟩
  | setGuard => exact ⟨_, rfl, law.serve fun r _ h => h.setGuard r⟩
  | setTenant => exact ⟨_, rfl, law.serve fun r _ h => h.setTenant r⟩
  | readTenant => exact ⟨_, rfl, law.serve fun r u h => by rwa [readTenant_fst]⟩
  | setPlanSettings => exact ⟨_, rfl, law.serve fun r _ h => h.setPlanSettings r⟩
  | readSettings => exact ⟨_, rfl, law.serve fun _ _ h => managementRequest_keeps h h⟩
  | reserve => exact ⟨_, rfl, law.serve fun r _ h => h.reserve r⟩
  | lookup => exact ⟨_, rfl, law.serve fun r _ h => h.lookup r⟩
  | find => exact ⟨_, rfl, law.serve fun r u h => by rwa [find_fst]⟩
  | listOwn => exact ⟨_, rfl, law.serve fun r u h => by rwa [listOwn_fst]⟩
  | listBand => exact ⟨_, rfl, law.serve fun r u h => by rwa [listBand_fst]⟩
  | activate => exact ⟨_, rfl, law.serve fun r _ h => h.activate r⟩
  | renew => exact ⟨_, rfl, law.serve fun r _ h => h.renew r⟩
  | withdraw => exact ⟨_, rfl, law.serve fun r _ h => h.withdraw r⟩
  | revoke => exact ⟨_, rfl, law.serve fun r _ h => h.revoke r⟩
  | hold => exact ⟨_, rfl, law.serve fun r _ h => h.hold r⟩
  | unhold => exact ⟨_, rfl, law.serve fun r _ h => h.unhold r⟩
  | pin => exact ⟨_, rfl, law.serve fun r _ h => h.pin r⟩
  | freezePlan => exact ⟨_, rfl, law.serve fun r _ h => h.freezePlan r⟩
  | writeProfile => exact ⟨_, rfl, law.serve fun r _ h => h.writeProfile r⟩
  | clearProfile => exact ⟨_, rfl, law.serve fun r _ h => h.clearProfile r⟩
  | readProfile => exact ⟨_, rfl, law.serve fun r u h => by rwa [readProfile_fst]⟩
  | readSlot => exact ⟨_, rfl, law.serve fun r u h => by rwa [readSlot_fst]⟩
  | setLevel => exact ⟨_, rfl, law.serve fun r _ h => h.setLevel r⟩
  | assignGroup => exact ⟨_, rfl, law.serve fun r _ h => h.assignGroup r⟩
  | setGroup => exact ⟨_, rfl, law.serve fun r _ h => h.setGroup r⟩
  | setBudget => exact ⟨_, rfl, law.serve fun r _ h => h.setBudget r⟩
  | readLevels => exact ⟨_, rfl, law.serve fun _ _ h => managementRequest_keeps h h⟩
  | move => exact ⟨_, rfl, law.serve fun r _ h => h.move r⟩
  | repack => exact ⟨_, rfl, law.serve fun r _ h => h.repack r⟩
  | stopRepack => exact ⟨_, rfl, law.serve fun r _ h => h.stopRepackRequest r⟩
  | setWatch => exact ⟨_, rfl, law.serve fun r _ h => h.setWatch r⟩
  | clearWatch => exact ⟨_, rfl, law.serve fun r _ h => h.clearWatch r⟩
  | readWatch => exact ⟨_, rfl, law.serve fun r u h => by rwa [readWatch_fst]⟩
  | setSweep => exact ⟨_, rfl, law.serve fun r _ h => h.setSweep r⟩
  | sweep => exact ⟨_, rfl, law.serve fun r _ h => h.sweep r⟩
  | readResults => exact ⟨_, rfl, law.serve fun _ _ h => managementRequest_keeps h h⟩
  | readHits => exact ⟨_, rfl, law.serve fun _ _ h => managementRequest_keeps h h⟩
  | clearHits => exact ⟨_, rfl, law.serve fun r _ h => h.clearHits r⟩
  | readEvents => exact ⟨_, rfl, law.serve fun r _ h => h.readEvents r⟩
  | setEventMask => exact ⟨_, rfl, law.serve fun r _ h => h.setEventMask r⟩
  | readNews => exact ⟨_, rfl, law.serve fun r _ h => h.readNews r⟩
  | status => exact ⟨_, rfl, law.serve fun _ _ h => enabledTenant_keeps h h⟩
  | restart => exact ⟨_, rfl, law.serve fun r _ h => h.restart r⟩
  | holdTimerExpiry i => exact ⟨_, rfl, law.holdExpiry i⟩
  | leaseExpiry i => exact ⟨_, rfl, law.leaseExpiry i⟩
  | drainTimerExpiry i => exact ⟨_, rfl, law.drainExpiry i⟩
  | quietTimerExpiry i => exact ⟨_, rfl, law.quietExpiry i⟩
  | lockTimeout b n => exact ⟨_, rfl, State.onSlot_keeps law law.failedOn⟩
  | settleTimerExpiry k => exact ⟨_, rfl, law.settleExpiry k⟩
  | periodTimerExpiry => exact ⟨_, rfl, law.whileRunning law.periodElapsed⟩
  | senseTimeout => exact ⟨_, rfl, law.whileRunning law.senseElapsed⟩
  | pilotReading p => exact ⟨_, rfl, law.whileRunning (law.takePilot p)⟩
  | locked b n => exact ⟨_, rfl, State.onSlot_keeps law law.lockedOn⟩
  | failed b n => exact ⟨_, rfl, State.onSlot_keeps law law.failedOn⟩
  | lost b n => exact ⟨_, rfl, State.onSlot_keeps law law.lostOn⟩
  | reading tag value => exact ⟨_, rfl, law.whileRunning (law.takeReading tag value)⟩
  | automaticMove =>
    refine ⟨_, rfl, ?_⟩
    split
    · exact law
    · exact law.takeAsk
  | coldReset => exact ⟨_, rfl, law.apart rfl rfl⟩
  | resetNRelease =>
    refine ⟨_, rfl, ?_⟩
    split
    · exact s.coldStart_monitorLawful
    · exact law

/-- Every step keeps the law of the monitor. -/
theorem step_monitorLawful {s t : State} (law : s.MonitorLawful) (h : step s = .next t) : t.MonitorLawful := by
  unfold step at h
  split at h
  · cases h
    exact law.idle
  · rename_i c rest _
    have taken : ({ s with pending := rest } : State).MonitorLawful := law.apart rfl rfl
    obtain ⟨u, hu, kept⟩ := exec_monitorLawful c taken
    rw [hu] at h
    cases h
    exact kept

end Sys2Proof.Machine

namespace Sys2Proof.Proofs
open Sys2Proof.Machine

/-- Settles O59: each command keeps the law, as it goes through operations that each keep it; only a span change and a grant
made write a count afresh, and the watches that turn write theirs by one. -/
theorem monitorStaysLawful : Obligations.MonitorStaysLawful := fun _ _ law h => step_monitorLawful law h

end Sys2Proof.Proofs
end

section
/-! ## RENEW, HOLD, UNHOLD and PIN (R56, R78 to R80) -/

namespace Sys2Proof.Machine

theorem GrantState.renewable_eq_false_iff (x : GrantState) : x.renewable = false ↔ x = .draining ∨ x = .quiet := by
  cases x <;> decide

theorem GrantState.pinnable_eq_false_iff (x : GrantState) :
    x.pinnable = false ↔ x = .moving ∨ x = .draining ∨ x = .quiet := by
  cases x <;> decide

section Pass

variable {r : Req} {u : State} {i : Fin 64} {g : Grant} (names : Names r u i g)
include names

theorem renew_named (may : MayAct r u i) (lease : r.word 2 ≠ 0) :
    renew r u =
      if g.state = .draining ∨ g.state = .quiet then (u, ⟨.badState, []⟩)
      else if g.hold = .pinned then (u, ⟨.pinned, []⟩)
      else (u.setEntry i { u.entry i with grant := some { g with lease := some (r.word 2), leaseMs := 0 } }, ⟨.done, []⟩) := by
  rw [renew, ownHandle_pass names may (by simpa using lease), State.modGrant_some u names.grant]
  simp only [GrantState.renewable_eq_false_iff]
  rfl

theorem hold_named (port : r.port = .management) :
    hold r u =
      if g.hold = .pinned then (u, ⟨.pinned, []⟩)
      else (u.setEntry i { u.entry i with grant := some { g with hold := .held } }, ⟨.done, [byte g.hold.code, 1]⟩) := by
  rw [hold, managementHandle_pass names port rfl, State.modGrant_some u names.grant]
  rfl

theorem unhold_named (port : r.port = .management) :
    unhold r u =
      if g.hold = .pinned then (u, ⟨.pinned, []⟩)
      else (u.setEntry i { u.entry i with grant := some { g with hold := .opened } }, ⟨.done, [byte g.hold.code, 0]⟩) := by
  rw [unhold, managementHandle_pass names port rfl, State.modGrant_some u names.grant]
  rfl

theorem pin_named (port : r.port = .management) :
    pin r u =
      if g.state = .moving ∨ g.state = .draining ∨ g.state = .quiet then (u, ⟨.badState, []⟩)
      else if g.hold = .pinned then (u, ⟨.done, [2, 2]⟩)
      else (u.setEntry i { u.entry i with grant := some g.pinned }, ⟨.done, [byte g.hold.code, 2]⟩) := by
  rw [pin, managementHandle_pass names port rfl, State.modGrant_some u names.grant]
  simp only [GrantState.pinnable_eq_false_iff]
  rfl

end Pass

end Sys2Proof.Machine

namespace Sys2Proof.Proofs
open Sys2Proof.Machine

/-- Settles O30, from what each of the four handlers does with a grant that is named. -/
theorem renewHoldUnholdPinChangeOneRecord : Obligations.RenewHoldUnholdPinChangeOneRecord := by
  unfold Obligations.RenewHoldUnholdPinChangeOneRecord
  intro s src f
  dsimp only
  intro i g names
  refine ⟨fun takes may lease => ⟨fun given => ?_, fun lives pinned => ?_, fun lives loose => ?_⟩,
    fun takes port => ⟨fun pinned => ?_, fun loose => ?_⟩, fun takes port => ⟨fun pinned => ?_, fun loose => ?_⟩,
    fun takes port => ⟨fun refused => ?_, fun taken pinned => ?_, fun taken loose => ?_⟩⟩
  all_goals refine does_of_handler takes rfl ?_
  · rw [renew_named names may lease, if_pos given]
  · rw [renew_named names may lease, if_neg lives, if_pos pinned]
  · rw [renew_named names may lease, if_neg lives, if_neg loose]
  · rw [hold_named names port, if_pos pinned]
  · rw [hold_named names port, if_neg loose]
  · rw [unhold_named names port, if_pos pinned]
  · rw [unhold_named names port, if_neg loose]
  · rw [pin_named names port, if_pos refused]
  · rw [pin_named names port, if_neg taken, if_pos pinned]
  · rw [pin_named names port, if_neg taken, if_neg loose]
    rfl

end Sys2Proof.Proofs
end

section
/-! ## ACTIVATE (R51, R52) -/

namespace Sys2Proof.Machine

/-- A slot that was sent a message, after a change beside the pool. -/
theorem SlotSent.after {s v t : State} {j : SlotId} {x : Slot} {m : CarrierMsg} (h : SlotSent v t j x m)
    (pool : v.pool = s.pool) : SlotSent s t j x m := by
  obtain ⟨slot, sent⟩ := h
  exact ⟨slot, by rw [sent, pool]⟩

theorem SlotsKept.after {s v t : State} {l : List SlotId} (h : SlotsKept v t l) (pool : v.pool = s.pool) :
    SlotsKept s t l := (SlotsKept.of_pool pool []).trans h

/-- The payload of a BUDGET refusal: the first band that fails, UP before DOWN (R124). -/
theorem State.overBudget_some {s : State} {load : Band → Nat} {payload : List Byte} (h : BudgetRefusal s load payload) :
    s.overBudget load = some payload := by
  obtain ⟨b, exceeds, first, rfl⟩ := h
  unfold State.overBudget
  cases b with
  | up => exact if_pos exceeds
  | down => rw [if_neg (by have := first rfl; omega), if_pos exceeds]; rfl

/-- The load of a grant outside a move counts once. -/
theorem LevelUnit.loadOf_unmoved (u : LevelUnit) {g : Grant} (h : g.move = none) :
    u.loadOf g = g.width * weight (u.effective g) := by
  simp [LevelUnit.loadOf, Grant.copies, h]

section Activation

variable {s : State} {g : Grant} (reserved : g.state = .reserved) (ready : (s.profile g.profile).state = .ready)
include reserved ready

theorem State.activation_of_class (has : (s.profile g.profile).classes.has g.cls = true) :
    s.activation g =
      match s.overBudget (s.loadWith g.band (s.levels.loadOf g)) with
      | some payload => .error ⟨.budget, payload⟩
      | none =>
        match s.selectSlot g.band (s.plan.settings.reserve.get g.band) none with
        | none => .error ⟨.noSlot, []⟩
        | some j => .ok j := by
  rw [State.activation, if_neg (not_not.2 reserved), if_neg (not_not.2 ready), if_neg (by simp [has])]
  rfl

end Activation

/-- The record of a grant that an activation has put in TUNING on a slot, with its counted load (R52). -/
def Grant.activatedWith (g : Grant) (j : SlotId) (byTenant : Bool) (counted : Nat) : Grant :=
  { g.activated j byTenant with counted }

/-- The start of an activation on a slot that is not RETIRED (R52, R109). -/
theorem State.beginActivation_spec (s : State) {i : Fin 64} {g : Grant} (hg : s.grant? i = some g) (unmoved : g.move = none)
    {j : SlotId} (hj : (s.slot j).state ≠ .retired) (byTenant : Bool) :
    let t := s.beginActivation i g j byTenant
    t.entry i =
        { s.entry i with
          grant := some (g.activatedWith j byTenant (g.width * weight (s.levels.effective g))) } ∧
      SlotSent s t j
        { s.slot j with
          state := .tuning { caller := .activation, second := false, timeout := Config.lockTimeout }
          holder := some (s.handleOf i) }
        (.tune g.band g.start g.width (s.profile g.profile).order (s.levels.effective g)) ∧
      EntriesKept s t [i] ∧ SlotsKept s t [j] ∧ SurroundingsKept s t ∧ t.ports = s.ports := by
  let v := (s.modGrant i (·.activated j byTenant)).recount i
  let g' := g.activatedWith j byTenant (g.width * weight (s.levels.effective g))
  have activated : (s.modGrant i (·.activated j byTenant)).grant? i = some (g.activated j byTenant) :=
    State.grant_modGrant_same s hg _
  have counted : s.levels.recount (g.activated j byTenant) = g' :=
    (congrArg (fun n => { g.activated j byTenant with counted := n })
      (s.levels.loadOf_unmoved (g := g.activated j byTenant) unmoved) : _)
  have entry : v.entry i = { s.entry i with grant := some g' } := by
    have recounted : v.entry i = { (s.modGrant i (·.activated j byTenant)).entry i with
        grant := some ((s.modGrant i (·.activated j byTenant)).levels.recount (g.activated j byTenant)) } :=
      State.entry_modGrant_same _ activated _
    rw [recounted, State.modGrant_levels, counted, State.entry_modGrant_same s hg]
  have held : v.grant? i = some g' := by rw [State.grant?, entry]
  have pool : v.pool = s.pool := by simp [v]
  have handle : v.handleOf i = s.handleOf i := State.handleOf_congr (by rw [entry])
  have others : EntriesKept s v [i] := (EntriesKept.modGrant s i _).twice (EntriesKept.modGrant _ i _)
  obtain ⟨⟨slot, sent⟩, slots⟩ := State.beginAttempt_spec v held (by rwa [State.slot_congr pool]) .activation false g.start
  rw [State.slot_congr pool, handle] at slot
  rw [show v.profile = s.profile by funext k; simp [State.profile, v], show v.levels = s.levels by simp [v]] at sent
  have own : SlotSent v (v.beginAttempt j i .activation false g.start) j _ _ := ⟨slot, sent⟩
  refine ⟨?_, own.after pool, others.twice (.of_table (by simp [State.beginActivation, v]) _), slots.after pool, ?_, ?_⟩
  · exact (State.entry_congr (by simp [State.beginActivation, v]) i).trans entry
  · constructor <;> simp [State.beginActivation]
  · simp [State.beginActivation]

section Named

variable {r : Req} {u : State} {i : Fin 64} {g : Grant} (names : Names r u i g) (may : MayAct r u i)
include names may

theorem activate_refused {reply : Reply} (h : u.activation g = .error reply) : activate r u = (u, reply) := by
  rw [activate, ownHandle_pass names may rfl]
  simp only [h]

theorem activate_accepted {j : SlotId} (h : u.activation g = .ok j) :
    activate r u = (u.beginActivation i g j r.byTenant, ⟨.accepted, [byte (slotNumber j)]⟩) := by
  rw [activate, ownHandle_pass names may rfl]
  simp only [h, answerAccepted]

end Named

end Sys2Proof.Machine

namespace Sys2Proof.Proofs
open Sys2Proof.Machine

/-- Settles O29, by the steps of the refusal order, and from what the start of an activation does. -/
theorem activateStartsTuning : Obligations.ActivateStartsTuning := by
  unfold Obligations.ActivateStartsTuning
  intro s src f takes
  dsimp only
  intro i g names may unmoved
  have answer : ∀ {t code payload}, activate (requestOf src.port f) (s.taken src) = (t, ⟨code, payload⟩) →
      Does .activate s src f t code payload := fun e => does_of_handler takes rfl e
  have refused : ∀ {code payload}, (s.taken src).activation g = .error ⟨code, payload⟩ →
      Does .activate s src f (s.taken src) code payload := fun e => answer (activate_refused names may e)
  refine ⟨fun state => refused ?_, fun reserved profile => refused ?_, fun reserved ready none => refused ?_,
    fun reserved ready has => ?_⟩
  · rw [State.activation, if_pos state]
  · rw [State.activation, if_neg (not_not.2 reserved), if_pos profile]
  · rw [State.activation, if_neg (not_not.2 reserved), if_neg (not_not.2 ready), if_pos none]
  · have checks := State.activation_of_class reserved ready has
    rw [LevelUnit.loadOf_unmoved _ (unmoved reserved)] at checks
    refine ⟨fun payload exceeds => refused ?_, fun within => ⟨fun none => refused ?_, fun j selected => ?_⟩⟩
    · rw [checks, State.overBudget_some exceeds]
    · rw [checks, (State.overBudget_none_iff ..).2 within]
      dsimp only
      rw [none]
    · rw [(State.overBudget_none_iff ..).2 within] at checks
      dsimp only at checks
      rw [selected] at checks
      have idle := (s.taken src).selectSlot_idle selected
      obtain ⟨entry, sent, entries, slots, around, ports⟩ := (s.taken src).beginActivation_spec names.grant
        (unmoved reserved) (j := j) (by rw [idle]; exact SlotState.noConfusion) (requestOf src.port f).byTenant
      refine ⟨_, answer (activate_accepted names may checks), ?_, sent.1, sent.2, entries, slots, around, ports,
        around.levels, around.engine, around.monitor⟩
      rw [entry]
      simp [Grant.activatedWith, Grant.activated, Grant.withNews, Req.not_byTenant]

end Sys2Proof.Proofs
end

section
/-! ## Attempts that fail, and what the failure of a tuning does (R53, R55, R69, R111 to R113, R117, R144, R147, R148) -/

namespace Sys2Proof.Machine

/-! ### Changes of one entry, and of one slot -/

theorem SurroundingsKept.trans {s t v : State} (h : SurroundingsKept s t) (k : SurroundingsKept t v) :
    SurroundingsKept s v where
  ports := by rw [k.ports, h.ports]
  plan := k.plan.trans h.plan
  occupancy := k.occupancy.trans h.occupancy
  counts := k.counts.trans h.counts
  frozen := k.frozen.trans h.frozen
  profiles := k.profiles.trans h.profiles
  levels := k.levels.trans h.levels
  engine := k.engine.trans h.engine
  monitor := k.monitor.trans h.monitor
  startUp := k.startUp.trans h.startUp
  pending := k.pending.trans h.pending
  freeCount := k.freeCount.trans h.freeCount

namespace OnlyEntry

variable {s v t : State} {i : Fin 64}

theorem trans (h : OnlyEntry s v i) (k : OnlyEntry v t i) : OnlyEntry s t i := by
  obtain ⟨entries, pool, ports, around⟩ := h
  obtain ⟨entries', pool', ports', around'⟩ := k
  exact ⟨entries.twice entries', pool'.trans pool, ports'.trans ports, around.trans around'⟩

theorem modGrant (s : State) (i : Fin 64) (f : Grant → Grant) : OnlyEntry s (s.modGrant i f) i :=
  ⟨.modGrant s i f, by simp, by simp, by constructor <;> simp⟩

theorem setOutcome (s : State) (i : Fin 64) (o : LastOutcome) : OnlyEntry s (s.setOutcome i o) i :=
  ⟨.setEntry s i _, by simp, by simp, by constructor <;> simp⟩

end OnlyEntry

/-- A slot that is retired, and what stands around it (R113). -/
theorem State.retireSlot_around (s : State) (j : SlotId) (n : Nat) :
    SurroundingsKept s (s.retireSlot j n) ∧ (s.retireSlot j n).table = s.table ∧
      (s.retireSlot j n).ports = (s.raise .slotRetired).ports :=
  ⟨by constructor <;> simp [State.retireSlot]; rfl, by simp, by simp [State.retireSlot]; rfl⟩

/-! ### The search for a retry slot (R107, R108, R112) -/

theorem State.reserveFor_eq (s : State) (b : Band) (c : Caller) :
    s.reserveFor b c = if c = .activation ∨ c = .relock then s.plan.settings.reserve.get b else 0 := by
  cases c <;> rfl

theorem Grant.tunedStart_eq (g : Grant) (c : Caller) :
    g.tunedStart c = if c = .moveTarget then g.move.elim g.start (·.target) else g.start := by
  cases c with
  | moveTarget => cases h : g.move <;> simp [Grant.tunedStart, h]
  | _ => rfl

theorem Grant.pointTo_eq (g : Grant) (c : Caller) (k : SlotId) :
    g.pointTo c k =
      if c = .moveTarget ∧ g.move.any (fun m => m.kind == .seamless) = true then
        { g with move := g.move.map fun m => { m with second := some k } }
      else { g with slot := some k } := by
  cases c with
  | moveTarget => cases h : g.move <;> simp [Grant.pointTo, h]
  | _ => simp [Grant.pointTo]

theorem State.seekRetry_sought {v : State} {i : Fin 64} {g : Grant} (hg : v.grant? i = some g) (c : Caller) (j : SlotId) :
    RetrySought v (v.seekRetry i c j) i g c j where
  without none := by
    rw [← State.reserveFor_eq] at none
    rw [State.seekRetry, hg]
    dsimp only
    rw [none]
  selected k found := by
    rw [← State.reserveFor_eq] at found
    have idle := v.selectSlot_idle found
    obtain ⟨sent, slots, entry, entries, around, ports⟩ := State.beginAttempt_modGrant_spec v hg (k := k)
      (by rw [idle]; exact SlotState.noConfusion) c true (g.tunedStart c) (·.pointTo c k)
    rw [State.seekRetry, hg]
    dsimp only
    rw [found]
    refine ⟨by rwa [← Grant.tunedStart_eq], slots, ?_, entries, around, ports⟩
    rw [State.grant?, entry, ← Grant.pointTo_eq]

/-! ### The failure of a tuning -/

/-- A grant that falls back to RESERVED, and a last outcome written with it: the outcome changes no load. -/
theorem State.fallBack_spec {s : State} {i : Fin 64} {g : Grant} (hg : s.grant? i = some g) :
    ∃ v, s.fallBack i = noteLoad s v ∧
      v.entry i = { s.entry i with grant := some (g.fallenBack s.plan.settings.holdTime) } ∧ OnlyEntry s v i :=
  ⟨_, rfl, State.entry_modGrant_same s hg _, OnlyEntry.modGrant s i _⟩

theorem State.fallBack_outcome_spec {s : State} {i : Fin 64} {g : Grant} (hg : s.grant? i = some g) (o : LastOutcome) :
    ∃ v, (s.fallBack i).setOutcome i o = noteLoad s v ∧
      v.entry i = { s.entry i with lastOutcome := o, grant := some (g.fallenBack s.plan.settings.holdTime) } ∧
      OnlyEntry s v i := by
  obtain ⟨v, fallen, entry, only⟩ := State.fallBack_spec hg
  refine ⟨v.setOutcome i o, by rw [fallen, noteLoad_setOutcome], ?_, OnlyEntry.trans only (OnlyEntry.setOutcome v i o)⟩
  rw [State.entry_setOutcome_same, entry]

theorem State.fallbackFails_spec {s : State} {i : Fin 64} {g : Grant} (hg : s.grant? i = some g) {m : MoveContext}
    (hm : g.move = some m) :
    ∃ v, s.fallbackFails i = ((noteLoad s v).refreshFrag g.band).repackAfter m.origin .failed ∧
      v.entry i =
        { s.entry i with lastOutcome := .moveFailed, grant := some (g.fallenBack s.plan.settings.holdTime) } ∧
      OnlyEntry s v i := by
  obtain ⟨v, fallen, entry, only⟩ := State.fallBack_outcome_spec hg .moveFailed
  refine ⟨v, ?_, entry, only⟩
  rw [State.fallbackFails, hg]
  dsimp only
  rw [hm]
  dsimp only
  rw [fallen]

/-- The record of a grant that carries on its old span after a move that failed, on a slot (R144, R148). -/
def Grant.stayedOn (g : Grant) (p : Option SlotId) (u : LevelUnit) : Grant :=
  { g.stayed with slot := p, counted := g.width * weight (u.effective g) }

theorem LevelUnit.recount_stayed (u : LevelUnit) (g : Grant) (p : Option SlotId) :
    u.recount { g.stayed with slot := p } = g.stayedOn p u := by
  have follows : ({ g.stayed with slot := p } : Grant).state.follows = true := by
    show g.carryState.follows = true
    unfold Grant.carryState
    split <;> rfl
  rw [u.recount_follows follows]
  simp [Grant.stayedOn, Grant.stayed, Grant.copies, LevelUnit.effective]

theorem State.stayBehind_spec {s : State} {i : Fin 64} {g : Grant} (hg : s.grant? i = some g) {m : MoveContext}
    (hm : g.move = some m) (p : Option SlotId) :
    ∃ v, s.stayBehind i p = ((noteLoad s v).refreshFrag g.band).repackAfter m.origin .failed ∧
      v.entry i = { s.entry i with lastOutcome := .moveFailed, grant := some (g.stayedOn p s.levels) } ∧
      OnlyEntry s v i := by
  let w := (s.modGrant i fun g => { g.stayed with slot := p }).setOutcome i .moveFailed
  have entry : w.entry i = { s.entry i with lastOutcome := .moveFailed, grant := some { g.stayed with slot := p } } := by
    rw [State.entry_setOutcome_same, State.entry_modGrant_same s hg]
  have held : w.grant? i = some { g.stayed with slot := p } := by rw [State.grant?, entry]
  have written : OnlyEntry s w i := OnlyEntry.trans (OnlyEntry.modGrant s i _) (OnlyEntry.setOutcome _ i _)
  refine ⟨w.recount i, ?_, ?_, OnlyEntry.trans written (OnlyEntry.modGrant w i _)⟩
  · rw [State.stayBehind, hg]
    dsimp only
    rw [hm]
  · have recounted : (w.recount i).entry i = { w.entry i with grant := some (w.levels.recount { g.stayed with slot := p }) } :=
      State.entry_modGrant_same w held _
    rw [recounted, entry, LevelUnit.recount_stayed, show w.levels = s.levels by simp [w]]

/-- A hard move that turns to its fallback (R147). -/
theorem State.beginFallback_spec {s : State} {i : Fin 64} {g : Grant} (hg : s.grant? i = some g) (m : MoveContext) :
    let v := s.modGrant i fun g => { g with move := some { m with phase := .fallbackTuning } }
    (v.selectSlot g.band 0 none = none → s.beginFallback i g m = v.tuningFails i .fallback) ∧
      ∀ k, v.selectSlot g.band 0 none = some k →
        (s.beginFallback i g m).entry i =
          { s.entry i with
            grant := some { g with slot := some k, move := some { m with phase := .fallbackTuning } } } ∧
        SlotSent s (s.beginFallback i g m) k
          { s.slot k with
            state := .tuning { caller := .fallback, second := false, timeout := 20 }
            holder := some (s.handleOf i) }
          (.tune g.band g.start g.width (s.profile g.profile).order (s.levels.effective g)) ∧
        SlotsKept s (s.beginFallback i g m) [k] ∧ EntriesKept s (s.beginFallback i g m) [i] ∧
        SurroundingsKept s (s.beginFallback i g m) ∧ (s.beginFallback i g m).ports = s.ports := by
  intro v
  have entry : v.entry i = { s.entry i with grant := some { g with move := some { m with phase := .fallbackTuning } } } :=
    State.entry_modGrant_same s hg _
  have held : v.grant? i = some { g with move := some { m with phase := .fallbackTuning } } := by rw [State.grant?, entry]
  have falls : s.beginFallback i g m =
      match v.selectSlot g.band 0 none with
      | none => v.fallbackFails i
      | some k => (v.beginAttempt k i .fallback false g.start).modGrant i (·.pointTo .fallback k) := rfl
  refine ⟨fun none => ?_, fun k found => ?_⟩
  · rw [falls, none, State.tuningFails, held]
  · rw [found] at falls
    dsimp only at falls
    have idle := v.selectSlot_idle found
    have pool : v.pool = s.pool := by simp [v]
    have handle : v.handleOf i = s.handleOf i := State.handleOf_congr (by rw [entry])
    obtain ⟨sent, slots, pointed, entries, around, ports⟩ := State.beginAttempt_modGrant_spec v held (k := k)
      (by rw [idle]; exact SlotState.noConfusion) .fallback false g.start (·.pointTo .fallback k)
    rw [State.slot_congr pool, handle, show v.profile = s.profile by funext k; simp [State.profile, v],
      show v.levels = s.levels by simp [v]] at sent
    obtain ⟨before, -, portsBefore, aroundBefore⟩ := OnlyEntry.modGrant s i
      fun g => { g with move := some { m with phase := .fallbackTuning } }
    rw [falls]
    refine ⟨?_, sent.after pool, slots.after pool, before.twice entries, aroundBefore.trans around, ports.trans portsBefore⟩
    rw [pointed, entry]
    rfl

/-! ### Reports on a slot -/

/-- A report on a slot outside reset (R103, R192). -/
theorem State.onSlot_slot {s : State} (running : s.ports.resetHeld = false) (j : SlotId) (run : SlotId → State) :
    s.onSlot (slotBand j) (slotNumber j) run = run j := by
  rw [State.onSlot, (slotOf_eq_some_iff ..).2 ⟨rfl, rfl⟩]
  simp [State.whileRunning, running]

theorem Grant.awaits_iff (g : Grant) {c : Caller} (hc : c ≠ .test) :
    g.awaits c = true ↔ if c = .activation ∨ c = .relock then g.state = .tuning else g.move.isSome = true := by
  cases c <;> simp [Grant.awaits] at hc ⊢

/-- The attempt of a tuning that its grant awaits fails (R111, R112). -/
theorem State.attemptFails_awaited {s : State} {j : SlotId} {a : Attempt} {h : Handle} {g : Grant} (hc : a.caller ≠ .test)
    (holder : (s.slot j).holder = some h) (current : s.grantOf h = some g) (awaits : g.awaits a.caller = true) :
    s.attemptFails j a =
      if a.second then (s.failSlot j).tuningFails h.entry a.caller else (s.failSlot j).seekRetry h.entry a.caller j := by
  rw [State.attemptFails, if_neg hc, holder]
  dsimp only
  rw [current]
  dsimp only
  rw [if_pos awaits]

theorem failedAttempts : FailedAttempts := by
  intro s j running
  have failed : exec (.failed (slotBand j) (slotNumber j)) s = .next (s.failedOn j) :=
    congrArg Host.Outcome.next (State.onSlot_slot running j _)
  have lost : exec (.lost (slotBand j) (slotNumber j)) s = .next (s.lostOn j) :=
    congrArg Host.Outcome.next (State.onSlot_slot running j _)
  have timeout : exec (.lockTimeout (slotBand j) (slotNumber j)) s = .next (s.failedOn j) :=
    congrArg Host.Outcome.next (State.onSlot_slot running j _)
  dsimp only
  rw [failed, lost, timeout]
  refine ⟨fun still => ?_, fun a tuning => ?_⟩
  · have ignored : s.failedOn j = s := by
      unfold State.failedOn
      split
      · rename_i a tuning
        exact absurd tuning (still a)
      all_goals rfl
    refine ⟨by rw [ignored], by rw [ignored], fun notCarrying => congrArg Host.Outcome.next ?_⟩
    unfold State.lostOn
    split
    · rename_i a tuning
      exact absurd tuning (still a)
    · rename_i carrying
      exact absurd carrying notCarrying
    all_goals rfl
  · have fails : s.failedOn j = s.attemptFails j a := by rw [State.failedOn, tuning]
    have loses : s.lostOn j = s.attemptFails j a := by rw [State.lostOn, tuning]
    rw [fails, loses]
    refine ⟨rfl, rfl, fun test => ?_, fun h g hc holder current awaits => ?_⟩
    · obtain ⟨sent, slots⟩ := s.retireSlot_spec j 3
      obtain ⟨around, table, ports⟩ := s.retireSlot_around j 3
      exact ⟨s.retireSlot j 3, by rw [State.attemptFails, if_pos test]; rfl, sent, slots, ports, table, around⟩
    · obtain ⟨sent, slots⟩ := s.failSlot_spec j
      obtain ⟨around, table, ports⟩ := s.failSlot_around j
      have held : (s.failSlot j).grant? h.entry = some g :=
        (State.grant_congr (by rw [table]) _).trans (State.grantOf_some current).1
      have ends := State.attemptFails_awaited hc holder current ((g.awaits_iff hc).2 awaits)
      refine ⟨s.failSlot j, sent, slots, table, around, ports, fun second => ?_, fun first => ⟨_, rfl, ?_⟩⟩
      · rw [ends, if_pos second]
      · rw [ends, if_neg (by simp [first])]
        exact State.seekRetry_sought held a.caller j

theorem tuningFailureReachesItsGrant : TuningFailureReachesItsGrant := by
  intro s i g hg
  dsimp only
  refine ⟨?_, ?_, fun m hm => ⟨fun kind => ?_, fun kind => ?_, ?_⟩⟩
  · rw [show s.tuningFails i .activation = (s.fallBack i).setOutcome i .activateFailed by rw [State.tuningFails, hg]]
    exact State.fallBack_outcome_spec hg .activateFailed
  · rw [show s.tuningFails i .relock = s.fallBack i by rw [State.tuningFails, hg]]
    exact State.fallBack_spec hg
  · rw [show s.tuningFails i .moveTarget = s.stayBehind i g.slot by
      rw [State.tuningFails, hg]; dsimp only; rw [hm]; dsimp only; rw [kind]]
    exact State.stayBehind_spec hg hm g.slot
  · rw [show s.tuningFails i .moveTarget = s.beginFallback i g m by
      rw [State.tuningFails, hg]; dsimp only; rw [hm]; dsimp only; rw [kind]]
    obtain ⟨none, some⟩ := State.beginFallback_spec hg m
    exact ⟨none, fun k found => ⟨_, rfl, some k found⟩⟩
  · rw [show s.tuningFails i .fallback = s.fallbackFails i by rw [State.tuningFails, hg]]
    exact State.fallbackFails_spec hg hm

/-! ### The end of start-up (R117) -/

theorem Slot.testing_iff (x : Slot) : x.testing = true ↔ ∃ a, x.state = .tuning a ∧ a.caller = .test := by
  unfold Slot.testing
  cases x.state <;> simp

theorem startUpEnds : StartUpEnds := by
  intro s
  have slots : ∀ j, j ∈ slotIds := List.mem_finRange
  have last : (s.pool.startUp && !slotIds.any fun j => (s.slot j).testing) = true ↔
      s.pool.startUp = true ∧ ∀ j a, (s.slot j).state = .tuning a → a.caller ≠ .test := by
    simp only [Bool.and_eq_true, Bool.not_eq_true', List.any_eq_false, Slot.testing_iff, not_exists, not_and, slots,
      true_implies]
  dsimp only
  rw [← last]
  exact ⟨fun h => if_pos h, fun h => if_neg h⟩

end Sys2Proof.Machine

namespace Sys2Proof.Proofs
open Sys2Proof.Machine

/-- Settles O39, by its three parts. -/
theorem failedAttemptsAndTunings : Obligations.FailedAttemptsAndTunings :=
  ⟨failedAttempts, tuningFailureReachesItsGrant, startUpEnds⟩

end Sys2Proof.Proofs
end

section
/-! ## Attempts that lock (R54, R69, R110, R117, R143, R147 to R149), and losses of lock (R68, R114, R145) -/

namespace Sys2Proof.Machine

theorem State.handleOf_of_current {s : State} {h : Handle} {g : Grant} (current : s.grantOf h = some g) :
    s.handleOf h.entry = h := (State.eq_handleOf (by rw [current]; rfl)).symm

/-! ### The slot of an attempt that locks -/

theorem State.lockSlot_spec (s : State) (j : SlotId) :
    (s.lockSlot j).slot j = { s.slot j with state := .carrying, fails := 0 } ∧ (s.lockSlot j).pool.sent = s.pool.sent ∧
      SlotsKept s (s.lockSlot j) [j] ∧ SurroundingsKept s (s.lockSlot j) := by
  refine ⟨by simp [State.lockSlot], by simp, fun k hk => ⟨?_, by simp⟩, by constructor <;> simp⟩
  exact State.slot_setSlot_ne _ (by simpa using hk) _

/-- What locks on a slot and then changes one entry. -/
theorem OnlyEntry.after_lock {s v : State} {j : SlotId} {i : Fin 64} (only : OnlyEntry (s.lockSlot j) v i) :
    v.slot j = { s.slot j with state := .carrying, fails := 0 } ∧ v.pool.sent = s.pool.sent ∧ SlotsKept s v [j] ∧
      EntriesKept s v [i] ∧ SurroundingsKept s v ∧ v.ports = s.ports := by
  obtain ⟨slot, sent, slots, around⟩ := s.lockSlot_spec j
  obtain ⟨entries, pool, ports, after⟩ := only
  refine ⟨(State.slot_congr pool j).trans slot, by rw [pool, sent], slots.of_eq_pool pool, ?_, around.trans after,
    by rw [ports]; simp⟩
  exact EntriesKept.twice (.of_table (by simp) _) entries

/-- The attempt of a tuning that its grant awaits locks (R110). -/
theorem State.attemptLocks_awaited {s : State} {j : SlotId} {a : Attempt} {h : Handle} {g : Grant} (hc : a.caller ≠ .test)
    (holder : (s.slot j).holder = some h) (current : s.grantOf h = some g) (awaits : g.awaits a.caller = true) :
    s.attemptLocks j a = (s.lockSlot j).tuningSucceeds h.entry a.caller j := by
  rw [State.attemptLocks, if_neg hc, holder]
  dsimp only
  rw [current]
  dsimp only
  rw [if_pos awaits]

/-- An activation or a relock that has succeeded (R54, R69). -/
theorem State.carrierUp_spec {s : State} {i : Fin 64} {g : Grant} (hg : s.grant? i = some g) (j : SlotId) :
    (s.carrierUp i j).entry i =
        { s.entry i with
          lastOutcome := .activated
          grant := some { g with state := g.carryState, slot := some j, phaseTimer := none, news := true } } ∧
      OnlyEntry s (s.carrierUp i j) i := by
  refine ⟨?_, OnlyEntry.trans (OnlyEntry.modGrant s i _) (OnlyEntry.setOutcome _ i _)⟩
  rw [State.carrierUp, State.entry_setOutcome_same, State.entry_modGrant_same s hg]

/-! ### A move that arrives on its target (R143, R147, R149) -/

theorem SpanHandedOver.congr {s u v w : State} {h : Handle} (handed : SpanHandedOver u v h) (monitor : u.monitor = s.monitor)
    (engine : u.engine = s.engine) (monitor' : w.monitor = v.monitor) (engine' : w.engine = v.engine) :
    SpanHandedOver s w h := by
  obtain ⟨watches, others, inFlight, rest, asks⟩ := handed
  exact
    { watches := by rw [← monitor, monitor']; exact watches
      others := by rw [← monitor, monitor']; exact others
      inFlight := by rw [← monitor, monitor']; exact inFlight
      monitor := by rw [← monitor, monitor']; exact rest
      asks := by rw [engine', asks, engine] }

/-- The state before the own slot of a mover is given up or kept (R143, R147). -/
def State.ownSlotLeft (s : State) (g : Grant) (m : MoveContext) : State :=
  if m.kind = .seamless then s.haltPart g.slot else s

/-- The state of an arrival before its load is noted. -/
def State.arrivedOn (s : State) (i : Fin 64) (g : Grant) (m : MoveContext) (j : SlotId) : State :=
  ((((s.ownSlotLeft g m).modGrant i (·.landed j)).setOutcome i .moved).relocate i m.target).recount i

theorem State.arrive_eq {s : State} {i : Fin 64} {g : Grant} (hg : s.grant? i = some g) {m : MoveContext}
    (hm : g.move = some m) (j : SlotId) :
    s.arrive i j = ((noteLoad s (s.arrivedOn i g m j)).refreshFrag g.band).repackAfter m.origin .onTarget := by
  rw [State.arrive, hg]
  dsimp only
  rw [hm]
  rfl

/-- The record of a grant that has arrived on its target, with its counted load. -/
def Grant.arrivedAt (g : Grant) (start : Nat) (j : SlotId) (u : LevelUnit) : Grant :=
  { g.landed j with start, impairing := 0, counted := g.width * weight (u.effective g) }

theorem LevelUnit.recount_landed (u : LevelUnit) (g : Grant) (start : Nat) (j : SlotId) :
    u.recount { g.landed j with start, impairing := 0 } = g.arrivedAt start j u := by
  rw [u.recount_follows (g := { g.landed j with start, impairing := 0 }) rfl]
  simp [Grant.arrivedAt, Grant.landed, Grant.copies, LevelUnit.effective]

section Arrival

variable (s : State) (i : Fin 64) (g : Grant) (m : MoveContext) (j : SlotId)

theorem State.ownSlotLeft_table : (s.ownSlotLeft g m).table = s.table := by
  unfold State.ownSlotLeft
  split <;> simp

theorem State.ownSlotLeft_around :
    (s.ownSlotLeft g m).ports = s.ports ∧ (s.ownSlotLeft g m).plan = s.plan ∧ (s.ownSlotLeft g m).levels = s.levels ∧
      (s.ownSlotLeft g m).profiles = s.profiles ∧ (s.ownSlotLeft g m).pool.startUp = s.pool.startUp ∧
      (s.ownSlotLeft g m).pending = s.pending ∧ (s.ownSlotLeft g m).freeCount = s.freeCount ∧
      (s.ownSlotLeft g m).monitor = s.monitor ∧ (s.ownSlotLeft g m).engine = s.engine := by
  unfold State.ownSlotLeft
  split <;> simp

theorem State.arrivedOn_pool : (s.arrivedOn i g m j).pool = (s.ownSlotLeft g m).pool := by simp [State.arrivedOn]

theorem State.arrivedOn_around :
    let v := s.arrivedOn i g m j
    v.ports = s.ports ∧ v.plan = s.plan ∧ v.levels = s.levels ∧ v.profiles = s.profiles ∧
      v.table.counts = s.table.counts ∧ v.table.planFrozen = s.table.planFrozen ∧ v.pool.startUp = s.pool.startUp ∧
      v.pending = s.pending ∧ v.freeCount = s.freeCount := by
  obtain ⟨ports, plan, levels, profiles, startUp, pending, freeCount, -⟩ := s.ownSlotLeft_around g m
  simp [State.arrivedOn, ports, plan, levels, profiles, startUp, pending, freeCount, State.ownSlotLeft_table]

theorem EntriesKept.arrivedOn : EntriesKept s (s.arrivedOn i g m j) [i] := by
  have left : EntriesKept s (s.ownSlotLeft g m) [i] := .of_table (s.ownSlotLeft_table g m) _
  exact (((left.twice (.modGrant _ i _)).twice (.setEntry _ i _)).twice (.relocate _ i _)).twice (.modGrant _ i _)

variable {s i g m}

/-- What an arrival does to the record, the span and the item of its grant, and the hand-over to the monitor. -/
theorem State.arrivedOn_spec (hg : s.grant? i = some g) :
    let v := s.arrivedOn i g m j
    v.entry i = { s.entry i with lastOutcome := .moved, grant := some (g.arrivedAt m.target j s.levels) } ∧
      v.occupancy g.band =
        insertItem { handle := s.handleOf i, start := m.target, width := g.width } (removeItem i (s.occupancy g.band)) ∧
      (∀ b, b ≠ g.band → v.occupancy b = s.occupancy b) ∧ SpanHandedOver s v (s.handleOf i) := by
  obtain ⟨-, -, levels, -, -, -, -, monitor, engine⟩ := s.ownSlotLeft_around g m
  have table := s.ownSlotLeft_table g m
  let w := ((s.ownSlotLeft g m).modGrant i (·.landed j)).setOutcome i .moved
  have left : (s.ownSlotLeft g m).grant? i = some g := (State.grant_congr (by rw [table]) i).trans hg
  have entry : w.entry i = { s.entry i with lastOutcome := .moved, grant := some (g.landed j) } := by
    rw [State.entry_setOutcome_same, State.entry_modGrant_same _ left, State.entry_congr (s := s) (by rw [table])]
  have held : w.grant? i = some (g.landed j) := by rw [State.grant?, entry]
  have handle : w.handleOf i = s.handleOf i := State.handleOf_congr (by rw [entry])
  have occupancy : ∀ b, w.occupancy b = s.occupancy b := fun b => by simp [w, State.occupancy, table]
  have moved := State.entry_relocate_same w held m.target
  have landed : (w.relocate i m.target).grant? i = some { g.landed j with start := m.target, impairing := 0 } := by
    rw [State.grant?, moved]
  obtain ⟨item, others⟩ := State.occupancy_relocate w held m.target
  have counted : (s.arrivedOn i g m j).table.occupancy = (w.relocate i m.target).table.occupancy := by
    simp [State.arrivedOn, w]
  refine ⟨?_, ?_, fun b hb => ?_, ?_⟩
  · have recounted : (s.arrivedOn i g m j).entry i =
        { (w.relocate i m.target).entry i with
          grant := some ((w.relocate i m.target).levels.recount { g.landed j with start := m.target, impairing := 0 }) } :=
      State.entry_modGrant_same _ landed _
    rw [recounted, moved, entry, LevelUnit.recount_landed, show (w.relocate i m.target).levels = s.levels by simp [w, levels]]
  · rw [State.occupancy, counted]
    rw [handle, occupancy] at item
    exact item
  · rw [State.occupancy, counted]
    exact (others b hb).trans (occupancy b)
  · rw [← handle]
    exact (State.relocate_handsOver w held m.target).congr (by simp [w, monitor]) (by simp [w, engine])
      (by simp [State.arrivedOn, w]) (by simp [State.arrivedOn, w])

/-- A HALT of a part reaches the slot it names only. -/
theorem SlotsKept.haltPart (s : State) (p : Option SlotId) : SlotsKept s (s.haltPart p) p.toList := by
  cases p with
  | none => exact .refl _
  | some k =>
    by_cases retired : (s.slot k).state = .retired
    · show SlotsKept s (s.haltSlot k) _
      rw [State.haltSlot_retired s retired]
      exact .refl _
    · exact (State.haltSlot_spec s retired).2

theorem SlotsKept.ownSlotLeft (s : State) (g : Grant) (m : MoveContext) :
    SlotsKept s (s.ownSlotLeft g m) g.slot.toList := by
  unfold State.ownSlotLeft
  split
  · exact .haltPart s _
  · exact .refl _

/-- The own slot of a seamless mover is halted at its arrival, when it is not RETIRED. -/
theorem State.ownSlotLeft_halted (seamless : m.kind = .seamless) {k : SlotId} (hk : g.slot = some k)
    (live : (s.slot k).state ≠ .retired) :
    SlotSent s (s.ownSlotLeft g m) k { s.slot k with state := .idle, holder := none } .halt := by
  rw [State.ownSlotLeft, if_pos seamless, hk]
  exact (State.haltSlot_spec s live).1

end Arrival

/-- A move that arrives on the slot that has locked (R110, R143, R147). -/
theorem State.locked_arrives {s : State} {i : Fin 64} {g : Grant} (hg : s.grant? i = some g) (m : MoveContext) (j : SlotId) :
    let v := (s.lockSlot j).arrivedOn i g m j
    let carrying : Slot := { s.slot j with state := .carrying, fails := 0 }
    v.entry i = { s.entry i with lastOutcome := .moved, grant := some (g.arrivedAt m.target j s.levels) } ∧
      v.occupancy g.band =
        insertItem { handle := s.handleOf i, start := m.target, width := g.width } (removeItem i (s.occupancy g.band)) ∧
      (∀ b, b ≠ g.band → v.occupancy b = s.occupancy b) ∧ SpanHandedOver s v (s.handleOf i) ∧
      (m.kind = .seamless → g.slot ≠ some j → OwnSlotHalted s v g) ∧
      (g.slot ≠ some j ∨ m.kind = .hard → v.slot j = carrying ∧ v.pool.sent[j] = s.pool.sent[j]) ∧
      SlotsKept s v (j :: g.slot.toList) ∧ (m.kind = .hard → SlotsKept s v [j]) ∧ EntriesKept s v [i] := by
  intro v carrying
  obtain ⟨slot, sent, slots, around⟩ := s.lockSlot_spec j
  have held : (s.lockSlot j).grant? i = some g := (State.grant_congr (by simp) i).trans hg
  have entryBefore : (s.lockSlot j).entry i = s.entry i := State.entry_congr (by simp) i
  have occupancyBefore : ∀ b, (s.lockSlot j).occupancy b = s.occupancy b := fun b => by simp [State.occupancy]
  obtain ⟨entry, item, others, handed⟩ := State.arrivedOn_spec (m := m) j held
  rw [entryBefore, around.levels] at entry
  rw [State.handleOf_congr (s := s) (by rw [entryBefore]), occupancyBefore] at item
  rw [State.handleOf_congr (s := s) (by rw [entryBefore])] at handed
  have pool : v.pool = ((s.lockSlot j).ownSlotLeft g m).pool := State.arrivedOn_pool ..
  have left := SlotsKept.ownSlotLeft (s.lockSlot j) g m
  have stays : m.kind = .hard → v.pool = (s.lockSlot j).pool := fun hard => by
    rw [pool, State.ownSlotLeft, if_neg (by rw [hard]; exact MoveKind.noConfusion)]
  refine ⟨entry, item, fun b hb => (others b hb).trans (occupancyBefore b),
    handed.congr around.monitor around.engine rfl rfl, fun seamless other k hk live => ?_, fun own => ?_,
    (slots.trans left).of_eq_pool pool, fun hard => slots.of_eq_pool (stays hard),
    EntriesKept.twice (.of_table (by simp) _) (.arrivedOn _ i g m j)⟩
  · have ne : k ≠ j := fun e => other (by rw [hk, e])
    obtain ⟨before, sentBefore⟩ := slots k (by simpa using ne)
    obtain ⟨halted, message⟩ := State.ownSlotLeft_halted (s := s.lockSlot j) seamless hk (by rwa [before])
    exact SlotSent.of_pool ⟨by rw [halted, before], by rw [message, sentBefore]⟩ pool
  · have kept : v.slot j = (s.lockSlot j).slot j ∧ v.pool.sent[j] = (s.lockSlot j).pool.sent[j] := by
      rcases own with other | hard
      · exact left.of_eq_pool pool j fun hj => other (Option.mem_toList.1 hj)
      · exact SlotsKept.of_pool (stays hard) [] j List.not_mem_nil
    exact ⟨kept.1.trans slot, by rw [kept.2, sent]⟩

theorem lockedEndsAttempt : LockedEndsAttempt := by
  intro s j running
  have locked : exec (.locked (slotBand j) (slotNumber j)) s = .next (s.lockedOn j) :=
    congrArg Host.Outcome.next (State.onSlot_slot running j _)
  dsimp only
  rw [locked]
  refine ⟨fun still => congrArg Host.Outcome.next ?_, fun a tuning => ?_⟩
  · unfold State.lockedOn
    split
    · rename_i a tuning
      exact absurd tuning (still a)
    all_goals rfl
  · rw [show s.lockedOn j = s.attemptLocks j a by rw [State.lockedOn, tuning]]
    refine ⟨fun test => by rw [State.attemptLocks, if_pos test], fun h g holder current => ?_⟩
    have hg := (State.grantOf_some current).1
    have handle := State.handleOf_of_current current
    have held : (s.lockSlot j).grant? h.entry = some g := (State.grant_congr (by simp) _).trans hg
    have entryBefore : (s.lockSlot j).entry h.entry = s.entry h.entry := State.entry_congr (by simp) _
    have levels : (s.lockSlot j).levels = s.levels := by simp
    refine ⟨fun caller waiting => ?_, fun m hm => ⟨fun caller => ?_, fun caller => ?_⟩⟩
    · have hc : a.caller ≠ .test := by rcases caller with e | e <;> rw [e] <;> exact Caller.noConfusion
      have up : s.attemptLocks j a = (s.lockSlot j).carrierUp h.entry j := by
        rw [State.attemptLocks_awaited hc holder current ((g.awaits_iff hc).2 (by rw [if_pos caller]; exact waiting))]
        rcases caller with e | e <;> rw [e] <;> rfl
      obtain ⟨entry, only⟩ := State.carrierUp_spec held j
      rw [entryBefore] at entry
      obtain ⟨slot, sent, slots, entries, around⟩ := OnlyEntry.after_lock only
      exact ⟨_, by rw [up], entry, slot, sent, entries, slots, around⟩
    · have hc : a.caller ≠ .test := by rw [caller]; exact Caller.noConfusion
      have arrives : s.attemptLocks j a = (s.lockSlot j).arrive h.entry j := by
        rw [State.attemptLocks_awaited hc holder current ((g.awaits_iff hc).2 (by simp [caller, hm])), caller]
        rfl
      obtain ⟨entry, item, others, handed, halted, own, slots, hard, entries⟩ := State.locked_arrives hg m j
      obtain ⟨ports, plan, unit, profiles, counts, frozen, startUp, pending, freeCount⟩ :=
        (s.lockSlot j).arrivedOn_around h.entry g m j
      rw [handle] at item handed
      refine ⟨(s.lockSlot j).arrivedOn h.entry g m j, by rw [arrives, State.arrive_eq held hm]; rfl, entry, item, others, handed,
        halted, own, slots, hard, entries, ?_⟩
      rw [ports, plan, unit, profiles, counts, frozen, startUp, pending, freeCount]
      simp
    · have hc : a.caller ≠ .test := by rw [caller]; exact Caller.noConfusion
      have stays : s.attemptLocks j a = (s.lockSlot j).stayBehind h.entry (some j) := by
        rw [State.attemptLocks_awaited hc holder current ((g.awaits_iff hc).2 (by simp [caller, hm])), caller]
        rfl
      obtain ⟨v, behind, entry, only⟩ := State.stayBehind_spec held hm (some j)
      rw [entryBefore, levels] at entry
      obtain ⟨slot, sent, slots, entries, around, ports⟩ := OnlyEntry.after_lock only
      exact ⟨v, by rw [stays, behind]; rfl, entry, slot, sent, slots, entries, around, ports⟩

/-! ### Losses of lock (R68, R114, R145) -/

theorem SurroundingsKept.raise (s : State) (e : Event) : SurroundingsKept s (s.raise e) := by constructor <;> rfl

/-- The state of a loss of lock before its grant is tuned again (R68). -/
def State.lockLost (s : State) (j : SlotId) (i : Fin 64) : State :=
  (((s.countLoss j).setOutcome i .lost).modGrant i fun g => { g with state := .tuning, news := true }).raise .carrierLost

theorem State.lockLoss_eq (s : State) (j : SlotId) (i : Fin 64) (g : Grant) :
    s.lockLoss j i g =
      if ((s.countLoss j).slot j).state = .retired then (s.lockLost j i).seekRetry i .relock j
      else (s.lockLost j i).beginAttempt j i .relock false g.start := rfl

theorem State.countLoss_few {s : State} {j : SlotId} (few : (s.slot j).fails < 2) :
    s.countLoss j = s.setSlot j { s.slot j with fails := (s.slot j).fails + 1 } := by
  unfold State.countLoss
  dsimp only
  exact if_neg (by simp only [Config.retireCount]; omega)

theorem State.countLoss_many {s : State} {j : SlotId} (many : 2 ≤ (s.slot j).fails) :
    s.countLoss j = s.retireSlot j ((s.slot j).fails + 1) := by
  unfold State.countLoss
  dsimp only
  exact if_pos (by simp only [Config.retireCount]; omega)

section Loss

variable {s : State} {j : SlotId} {i : Fin 64} {g : Grant} (hg : s.grant? i = some g)
include hg

theorem State.entry_lockLost :
    (s.lockLost j i).entry i =
      { s.entry i with lastOutcome := .lost, grant := some { g with state := .tuning, news := true } } := by
  have counted : (s.countLoss j).entry i = s.entry i := State.entry_congr (by simp) i
  have held : ((s.countLoss j).setOutcome i .lost).grant? i = some g := by
    rw [State.grant_setOutcome, State.grant?, counted]
    exact hg
  have entry : (s.lockLost j i).entry i =
      (((s.countLoss j).setOutcome i .lost).modGrant i fun g => { g with state := .tuning, news := true }).entry i :=
    State.entry_congr (by simp [State.lockLost]) i
  rw [entry, State.entry_modGrant_same _ held, State.entry_setOutcome_same, counted]

omit hg in
theorem EntriesKept.lockLost (s : State) (j : SlotId) (i : Fin 64) : EntriesKept s (s.lockLost j i) [i] := by
  have counted : EntriesKept s (s.countLoss j) [i] := .of_table (by simp) _
  exact ((counted.twice (.setEntry _ i _)).twice (.modGrant _ i _)).twice (.of_table rfl _)

omit hg in
theorem State.lockLost_pool (s : State) (j : SlotId) (i : Fin 64) : (s.lockLost j i).pool = (s.countLoss j).pool := by
  simp [State.lockLost]

omit hg in
theorem State.lockLost_ports (s : State) (j : SlotId) (i : Fin 64) :
    (s.lockLost j i).ports = ((s.countLoss j).raise .carrierLost).ports := by
  simp [State.lockLost, State.raise]

omit hg in
theorem SurroundingsKept.lockLost {s : State} {j : SlotId} (counted : SurroundingsKept s (s.countLoss j)) (i : Fin 64) :
    SurroundingsKept s (s.lockLost j i) := by
  obtain ⟨-, -, -, outcome⟩ := OnlyEntry.setOutcome (s.countLoss j) i .lost
  obtain ⟨-, -, -, tuning⟩ := OnlyEntry.modGrant ((s.countLoss j).setOutcome i .lost) i
    fun g => { g with state := .tuning, news := true }
  exact ((counted.trans outcome).trans tuning).trans (.raise _ _)

/-- A loss that leaves its slot in use: a relock begins on it (R68, R114). -/
theorem State.lockLoss_relocks (carrying : (s.slot j).state = .carrying) (few : (s.slot j).fails < 2) :
    let t := s.lockLoss j i g
    t.entry i = { s.entry i with lastOutcome := .lost, grant := some { g with state := .tuning, news := true } } ∧
      t.ports = (s.raise .carrierLost).ports ∧
      SlotSent s t j
        { state := .tuning { caller := .relock, second := false, timeout := 20 }, fails := (s.slot j).fails + 1,
          holder := some (s.handleOf i) }
        (.tune g.band g.start g.width (s.profile g.profile).order (s.levels.effective g)) ∧
      EntriesKept s t [i] ∧ SlotsKept s t [j] ∧ SurroundingsKept s t := by
  intro t
  have counted := State.countLoss_few few
  have slot : (s.countLoss j).slot j = { s.slot j with fails := (s.slot j).fails + 1 } := by simp [counted]
  have relocks : t = (s.lockLost j i).beginAttempt j i .relock false g.start := by
    refine (s.lockLoss_eq j i g).trans (if_neg ?_)
    rw [slot, carrying]
    exact SlotState.noConfusion
  have entry := State.entry_lockLost (j := j) hg
  have held : (s.lockLost j i).grant? i = some { g with state := .tuning, news := true } := by rw [State.grant?, entry]
  have pool := s.lockLost_pool j i
  have counts : SlotsKept s (s.countLoss j) [j] := by
    rw [counted]
    exact fun k hk => ⟨State.slot_setSlot_ne _ (by simpa using hk) _, rfl⟩
  have around : SurroundingsKept s (s.lockLost j i) := .lockLost (by rw [counted]; constructor <;> simp) i
  have lostSlot : (s.lockLost j i).slot j = { s.slot j with fails := (s.slot j).fails + 1 } :=
    (State.slot_congr pool j).trans slot
  have handle : (s.lockLost j i).handleOf i = s.handleOf i := State.handleOf_congr (by rw [entry])
  obtain ⟨⟨begun, sent⟩, slots⟩ := (s.lockLost j i).beginAttempt_spec held (j := j)
    (by rw [lostSlot, carrying]; exact SlotState.noConfusion) .relock false g.start
  rw [lostSlot, handle] at begun
  rw [pool, show (s.lockLost j i).profile = s.profile by funext k; simp [State.profile, around.profiles], around.levels] at sent
  rw [relocks]
  refine ⟨(State.entry_congr (by simp) i).trans entry, ?_, ⟨begun, ?_⟩, ?_, ?_, ?_⟩
  · rw [State.beginAttempt_ports, State.lockLost_ports, counted]
    rfl
  · rw [sent, counted]
    rfl
  · exact (EntriesKept.lockLost s j i).twice (.of_table (by simp) _)
  · exact ((counts.of_eq_pool pool).trans slots).mono (by simp)
  · exact around.trans (by constructor <;> simp)

/-- A loss that retires its slot: a retry slot is sought, as after a first attempt (R68, R113). -/
theorem State.lockLoss_retires (many : 2 ≤ (s.slot j).fails) :
    let v := s.lockLost j i
    let tuning : Grant := { g with state := .tuning, news := true }
    RetrySought v (s.lockLoss j i g) i tuning .relock j ∧
      v.entry i = { s.entry i with lastOutcome := .lost, grant := some tuning } ∧
      v.ports = ((s.raise .slotRetired).raise .carrierLost).ports ∧ SlotFailed s v j ∧
      EntriesKept s v [i] ∧ SlotsKept s v [j] ∧ SurroundingsKept s v := by
  intro v tuning
  have counted := State.countLoss_many many
  obtain ⟨sent, slots⟩ := s.retireSlot_spec j ((s.slot j).fails + 1)
  obtain ⟨around, -, ports⟩ := s.retireSlot_around j ((s.slot j).fails + 1)
  rw [← counted] at sent slots around ports
  have entry := State.entry_lockLost (j := j) hg
  have seeks : s.lockLoss j i g = v.seekRetry i .relock j := by
    refine (s.lockLoss_eq j i g).trans (if_pos ?_)
    rw [sent.1]
  rw [seeks]
  refine ⟨State.seekRetry_sought (by rw [State.grant?, entry]) .relock j, entry, ?_, ?_, .lockLost s j i,
    slots.of_eq_pool (s.lockLost_pool j i), .lockLost around i⟩
  · rw [State.lockLost_ports]
    simp only [State.raise, ports]
  · rw [SlotFailed, if_neg (by omega)]
    exact sent.of_pool (s.lockLost_pool j i)

/-- The own slot of a seamless mover is given up, and the move goes on HARD (R145). -/
theorem State.seamlessLoss_spec (moving : g.state = .moving) (m : MoveContext) :
    ∃ v, s.seamlessLoss j i m = (noteLoad s v).raise .carrierLost ∧ SlotFailed s v j ∧
      v.entry i =
        { s.entry i with
          grant := some
            { g with
              slot := m.second, move := some { m with kind := .hard, second := none }
              counted := g.width * weight (s.levels.effective g) } } ∧
      EntriesKept s v [i] ∧ SlotsKept s v [j] ∧ SurroundingsKept s v ∧ RetirementFlagged s v j := by
  let hard : Grant → Grant := fun g => { g with slot := m.second, move := some { m with kind := .hard, second := none } }
  let w := (s.failSlot j).modGrant i hard
  obtain ⟨sent, slots⟩ := s.failSlot_spec j
  obtain ⟨around, table, ports⟩ := s.failSlot_around j
  have failed : (s.failSlot j).grant? i = some g := (State.grant_congr (by rw [table]) i).trans hg
  have entry : w.entry i = { s.entry i with grant := some (hard g) } := by
    rw [State.entry_modGrant_same _ failed, State.entry_congr (s := s) (by rw [table])]
  have held : w.grant? i = some (hard g) := by rw [State.grant?, entry]
  have recounted : (w.recount i).entry i = { w.entry i with grant := some (w.levels.recount (hard g)) } :=
    State.entry_modGrant_same w held _
  have counted : w.levels.recount (hard g) = { hard g with counted := g.width * weight (s.levels.effective g) } := by
    rw [LevelUnit.recount_follows _ (by show g.state.follows = true; rw [moving]; rfl), show w.levels = s.levels by simp [w]]
    simp [hard, Grant.copies, LevelUnit.effective]
  obtain ⟨entries, pool, after, beside⟩ : OnlyEntry (s.failSlot j) (w.recount i) i :=
    OnlyEntry.trans (OnlyEntry.modGrant _ i hard) (OnlyEntry.modGrant w i _)
  refine ⟨w.recount i, rfl, sent.of_pool pool, ?_, EntriesKept.twice (.of_table table _) entries, slots.of_eq_pool pool,
    around.trans beside, after.trans ports⟩
  rw [recounted, counted, entry]

end Loss

theorem lostOnCarryingSlot : LostOnCarryingSlot := by
  intro s j h g running carrying holder current
  have lost : exec (.lost (slotBand j) (slotNumber j)) s = .next (s.lossOfLock j) := by
    refine (congrArg Host.Outcome.next (State.onSlot_slot running j _)).trans (congrArg Host.Outcome.next ?_)
    rw [State.lostOn, carrying]
  have hg := (State.grantOf_some current).1
  have handle := State.handleOf_of_current current
  dsimp only
  rw [lost]
  refine ⟨fun carries => ?_, fun m moving hm seamless own => ?_⟩
  · have loses : s.lossOfLock j = s.lockLoss j h.entry g := by
      simp only [State.lossOfLock, holder, current]
      exact if_pos (by rcases carries with e | e <;> simp [Grant.carries, e])
    rw [loses]
    refine ⟨fun few => ?_, fun many => ?_⟩
    · have relocks := State.lockLoss_relocks hg carrying few
      rw [handle] at relocks
      exact ⟨_, rfl, relocks⟩
    · exact ⟨s.lockLost j h.entry, _, rfl, State.lockLoss_retires hg many⟩
  · have loses : s.lossOfLock j = s.seamlessLoss j h.entry m := by
      simp only [State.lossOfLock, holder, current, hm]
      rw [if_neg (by simp [Grant.carries, moving]), if_pos ⟨seamless, own⟩]
    obtain ⟨v, gives, spec⟩ := State.seamlessLoss_spec (j := j) hg moving m
    exact ⟨v, by rw [loses, gives], spec⟩

end Sys2Proof.Machine

namespace Sys2Proof.Proofs
open Sys2Proof.Machine

/-- Settles O40, by its two parts. -/
theorem lockedAndLost : Obligations.LockedAndLost := ⟨lockedEndsAttempt, lostOnCarryingSlot⟩

end Sys2Proof.Proofs
end

section
/-! ## The fixture of a PINNED grant (R82), and the changes that keep it -/

namespace Sys2Proof.Machine

/-! ### The entry of a PINNED grant -/

theorem Grant.SameFixture.refl (g : Grant) : g.SameFixture g := ⟨rfl, rfl, rfl, rfl, rfl, rfl, rfl⟩

theorem Grant.SameFixture.trans {g g' g'' : Grant} (h : g.SameFixture g') (k : g'.SameFixture g'') : g.SameFixture g'' :=
  ⟨k.hold.trans h.hold, k.cls.trans h.cls, k.band.trans h.band, k.start.trans h.start, k.width.trans h.width,
    k.payload.trans h.payload, k.profile.trans h.profile⟩

/-- A record that keeps, with its hold class and its payload, keeps its fixture. -/
theorem Grant.Keeps.sameFixture {g g' : Grant} (h : g.Keeps g') (hold : g'.hold = g.hold) (payload : g'.payload = g.payload) :
    g.SameFixture g' :=
  ⟨hold, h.cls, h.band, h.start, h.width, payload, h.profile⟩

/-- The entry has the generation and the tenant of another, and holds a lawful PINNED grant with the fixture of a grant. -/
structure State.HoldsPinned (i : Fin 64) (e : Entry) (x : Grant) (s : State) : Prop where
  generation : (s.entry i).generation = e.generation
  tenant : (s.entry i).tenant = e.tenant
  grant : ∃ g, s.grant? i = some g ∧ x.SameFixture g ∧ g.hold = .pinned ∧ g.Lawful

section Law

variable {s t : State} {i k : Fin 64} {e : Entry} {x : Grant} (law : s.HoldsPinned i e x)
include law

/-- A change that leaves the entry its generation and tenant, and its grant the fixture. -/
theorem State.HoldsPinned.of_grant (generation : (t.entry i).generation = (s.entry i).generation)
    (tenant : (t.entry i).tenant = (s.entry i).tenant)
    (grant : ∀ g, s.grant? i = some g → g.hold = .pinned → g.Lawful →
      ∃ g', t.grant? i = some g' ∧ g.SameFixture g' ∧ g'.Lawful) : t.HoldsPinned i e x := by
  obtain ⟨g, hg, same, pinned, lawful⟩ := law.grant
  obtain ⟨g', hg', same', lawful'⟩ := grant g hg pinned lawful
  exact ⟨generation.trans law.generation, tenant.trans law.tenant, g', hg', same.trans same', same'.hold.trans pinned,
    lawful'⟩

/-- A change that leaves the entry as it is. -/
theorem State.HoldsPinned.of_entry (entry : t.entry i = s.entry i) : t.HoldsPinned i e x :=
  law.of_grant (by rw [entry]) (by rw [entry]) fun g hg _ lawful => ⟨g, by rw [State.grant?, entry]; exact hg, .refl g, lawful⟩

theorem State.HoldsPinned.beside (entries : t.table.entries = s.table.entries) : t.HoldsPinned i e x :=
  law.of_entry (State.entry_congr entries i)

/-- A change beside the grant table. -/
theorem State.HoldsPinned.apart (table : t.table = s.table) : t.HoldsPinned i e x := law.beside (by rw [table])

/-- A change of another entry. -/
theorem State.HoldsPinned.other (kept : EntriesKept s t [k]) (ne : k ≠ i) : t.HoldsPinned i e x :=
  law.of_entry (kept i (by simpa using Ne.symm ne))

/-! ### Entries that hold no such grant -/

/-- An entry is another one when its grant would not be PINNED if it were lawful. -/
theorem State.HoldsPinned.ne_of_loose {g : Grant} (hg : s.grant? k = some g) (loose : g.Lawful → g.hold ≠ .pinned) :
    k ≠ i := by
  rintro rfl
  obtain ⟨g', hg', -, pinned, lawful⟩ := law.grant
  obtain rfl := Option.some.inj (hg.symm.trans hg')
  exact loose lawful pinned

theorem State.HoldsPinned.ne_of_free (hk : s.grant? k = none) : k ≠ i := by
  rintro rfl
  obtain ⟨g, hg, -⟩ := law.grant
  cases hk.symm.trans hg

/-- A move is in flight at another entry only (R82). -/
theorem State.HoldsPinned.ne_of_move {g : Grant} {m : MoveContext} (hg : s.grant? k = some g) (hm : g.move = some m) :
    k ≠ i :=
  law.ne_of_loose hg fun lawful pinned => by cases hm.symm.trans (lawful.pinned_move pinned)

/-- A grant that drains or is QUIET stands at another entry (R80). -/
theorem State.HoldsPinned.ne_of_state {g : Grant} (hg : s.grant? k = some g) (hs : g.state.pinnable = false) : k ≠ i :=
  law.ne_of_loose hg fun lawful pinned => by
    obtain ⟨pinnable, -⟩ := lawful.pins pinned
    exact Bool.noConfusion (pinnable.symm.trans hs)

theorem State.HoldsPinned.ne_of_lease {g : Grant} (hg : s.grant? k = some g) (leased : g.lease.isSome = true) : k ≠ i :=
  law.ne_of_loose hg fun lawful pinned => by
    obtain ⟨-, none, -⟩ := lawful.pins pinned
    simp [none] at leased

theorem State.HoldsPinned.ne_of_holdTime {g : Grant} (hg : s.grant? k = some g) (timed : g.holdTime.isSome = true) :
    k ≠ i :=
  law.ne_of_loose hg fun lawful pinned => by
    obtain ⟨-, -, none⟩ := lawful.pins pinned
    simp [none] at timed

/-! ### Records written -/

/-- A record that keeps, with its hold class and its payload. -/
theorem State.HoldsPinned.modGrant {f : Grant → Grant} (keeps : ∀ g, s.grant? k = some g → g.Keeps (f g))
    (same : ∀ g, (f g).hold = g.hold ∧ (f g).payload = g.payload) : (s.modGrant k f).HoldsPinned i e x := by
  by_cases ne : k = i
  · subst ne
    obtain ⟨g, hg, -⟩ := law.grant
    have entry := State.entry_modGrant_same s hg f
    refine law.of_grant (by rw [entry]) (by rw [entry]) fun g' hg' _ lawful => ?_
    obtain ⟨hold, payload⟩ := same g'
    have kept := keeps g' hg'
    exact ⟨f g', State.grant_modGrant_same s hg' f, kept.sameFixture hold payload, kept.lawful lawful⟩
  · exact law.other (.modGrant s k f) ne

theorem State.HoldsPinned.setOutcome (k : Fin 64) (o : LastOutcome) : (s.setOutcome k o).HoldsPinned i e x := by
  refine law.of_grant ?_ ?_ fun g hg _ lawful => ⟨g, by rw [State.grant_setOutcome]; exact hg, .refl g, lawful⟩ <;>
    rw [State.entry_setOutcome]

theorem State.HoldsPinned.news (k : Fin 64) (b : Bool) : (s.modGrant k fun g => { g with news := b }).HoldsPinned i e x :=
  law.modGrant (fun g _ => .news g b) fun _ => ⟨rfl, rfl⟩

theorem State.HoldsPinned.sameButLoads (h : SameButLoads s t) : t.HoldsPinned i e x := by
  obtain ⟨n, entry⟩ := h i
  refine law.of_grant (by rw [entry]) (by rw [entry]) fun g hg _ lawful => ⟨{ g with counted := n }, ?_, ?_, ?_⟩
  · rw [State.grant?, entry, hg]
    rfl
  · exact ⟨rfl, rfl, rfl, rfl, rfl, rfl, rfl⟩
  · exact ⟨lawful.moves, lawful.pins⟩

theorem State.HoldsPinned.recount (k : Fin 64) : (s.recount k).HoldsPinned i e x := by
  have counted : ∀ g, ∃ n, s.levels.recount g = { g with counted := n } := s.levels.recount_eq
  refine law.modGrant (fun g _ => ?_) fun g => ?_ <;> obtain ⟨n, eq⟩ := counted g <;> rw [eq]
  · exact .of_same ⟨rfl, rfl, rfl, rfl, rfl⟩ ⟨rfl, rfl, rfl, rfl, rfl⟩
  · exact ⟨rfl, rfl⟩

theorem State.HoldsPinned.applyLevels (old : State) : (Machine.applyLevels old s).HoldsPinned i e x := by
  refine law.sameButLoads fun k => ?_
  obtain ⟨n, eq⟩ := relevelEntry_eq old s k
  exact ⟨n, by rw [← eq]; simp [Machine.applyLevels, State.entry]⟩

theorem State.HoldsPinned.trackPilot : s.trackPilot.HoldsPinned i e x :=
  law.sameButLoads ((applyLevels_sameButLoads s _).of_entries (by rw [State.trackPilot, State.setClamped_table, State.setApplied]))

theorem State.HoldsPinned.loadDecreased : s.loadDecreased.HoldsPinned i e x := by
  unfold State.loadDecreased
  split
  · exact law.trackPilot
  · exact law

theorem State.HoldsPinned.noteLoad (old : State) : (Machine.noteLoad old s).HoldsPinned i e x :=
  law.sameButLoads (noteLoad_sameButLoads old s)

end Law

end Sys2Proof.Machine
end

section
/-! ## What gives a grant up, and what a repack does, leaves a PINNED grant its fixture (R57 to R66, R82, R155 to R161) -/

namespace Sys2Proof.Machine

/-! ### Giving a grant up is the affair of its entry -/

theorem EntriesKept.enterQuiet (s : State) (k : Fin 64) : EntriesKept s (s.enterQuiet k) [k] := by
  unfold State.enterQuiet
  dsimp only
  split
  · exact (EntriesKept.modGrant s k _).twice (.freeEntry _ k)
  · exact .modGrant s k _

theorem EntriesKept.haltedQuiet (s : State) (k : Fin 64) (p : Option SlotId) :
    EntriesKept s ((s.haltPart p).enterQuiet k) [k] :=
  EntriesKept.twice (.of_table (by simp) [k]) (.enterQuiet _ k)

theorem EntriesKept.takeOffAir (s : State) (k : Fin 64) (p : Option SlotId) (c : Cls) (cut : Bool) :
    EntriesKept s (s.takeOffAir k p c cut) [k] := by
  unfold State.takeOffAir
  split
  · exact .haltedQuiet s k p
  · unfold State.enterDraining
    dsimp only
    split
    · exact .modGrant s k _
    · rename_i j
      exact (EntriesKept.modGrant s k _).twice (.of_table (State.rampSlot_table _ j _) [k])

theorem EntriesKept.leaveSeamless (s : State) (k : Fin 64) (p : Option SlotId) :
    EntriesKept s (s.leaveSeamless k p) [k] :=
  ((EntriesKept.of_table (by simp) [k]).twice (.modGrant (s.haltPart p) k _)).twice (.modGrant _ k _)

theorem EntriesKept.giveUp (s : State) (k : Fin 64) (g : Grant) (cut : Bool) : EntriesKept s (s.giveUp k g cut) [k] := by
  unfold State.giveUp
  split
  · exact .freeEntry s k
  · exact .haltedQuiet s k _
  · exact .takeOffAir s k _ _ cut
  · exact .takeOffAir s k _ _ cut
  · split
    · exact .refl _
    · split
      · exact (EntriesKept.leaveSeamless s k _).twice (.takeOffAir _ k _ _ cut)
      · exact .haltedQuiet s k _
  · split
    · exact .haltedQuiet s k _
    · exact .refl _
  · exact .refl _

section Law

variable {s : State} {i k : Fin 64} {e : Entry} {x : Grant} (law : s.HoldsPinned i e x)
include law

/-! ### Repack (R154 to R161) -/

theorem State.HoldsPinned.haltPart (p : Option SlotId) : (s.haltPart p).HoldsPinned i e x := law.apart (by simp)

theorem State.HoldsPinned.noteFrag (b : Band) : (s.noteFrag b).HoldsPinned i e x := law.apart (by simp)

theorem State.HoldsPinned.endRepack (r : EndReason) : (s.endRepack r).HoldsPinned i e x := law.apart (by simp)

/-- A repack chooses grants that are not PINNED (R157). -/
theorem State.HoldsPinned.ne_of_chooseStep {b : Band} {start : Nat} (h : s.chooseStep b = some (k, start)) : k ≠ i := by
  obtain ⟨g, hg, candidate, -⟩ := State.chooseStep_spec h
  obtain ⟨loose, -⟩ := g.repackable_iff.1 candidate
  exact law.ne_of_loose hg fun _ => loose

omit law in
theorem State.HoldsPinned.repackSteps (b : Band) (n : Nat) :
    ∀ {s : State}, s.HoldsPinned i e x → (State.repackSteps b n s).HoldsPinned i e x := by
  induction n with
  | zero => exact fun law => law.endRepack _
  | succ n ih =>
    intro s law
    unfold State.repackSteps
    split
    · exact law.endRepack _
    · rename_i k start chosen
      have ne := law.ne_of_chooseStep chosen
      split
      · exact law.endRepack _
      · rename_i hg
        split
        · have moved := law.other (s.moveReserved_spec hg start false).others ne
          exact ih (moved.apart (by simp))
        · split
          · exact law.endRepack _
          · rename_i j _
            exact (law.other (.beginMove s k start .seamless .repack j false) ne).noteFrag b

theorem State.HoldsPinned.continueRepack : s.continueRepack.HoldsPinned i e x := by
  unfold State.continueRepack
  split
  · exact law
  · exact .repackSteps _ _ law

theorem State.HoldsPinned.startRepack (b : Band) : (s.startRepack b).HoldsPinned i e x :=
  State.HoldsPinned.continueRepack (law.apart (by simp))

theorem State.HoldsPinned.refreshFrag (b : Band) : (s.refreshFrag b).HoldsPinned i e x := by
  unfold State.refreshFrag
  dsimp only
  split
  · exact (law.noteFrag b).startRepack b
  · exact law.noteFrag b

theorem State.HoldsPinned.repackAfter (o : MoveOrigin) (how : MoveEnd) : (s.repackAfter o how).HoldsPinned i e x := by
  unfold State.repackAfter
  split
  · cases how with
    | onTarget => exact State.HoldsPinned.continueRepack (law.apart (by simp))
    | failed => exact law.endRepack _
    | left => exact law.continueRepack
  · exact law

/-- A PINNED grant that falls back has no hold time (R53). -/
theorem State.HoldsPinned.fallBack (k : Fin 64) : (s.fallBack k).HoldsPinned i e x :=
  (law.modGrant (fun g _ => .fallenBack g _) fun _ => ⟨rfl, rfl⟩).noteLoad s

theorem State.HoldsPinned.stayed (k : Fin 64) : (s.modGrant k Grant.stayed).HoldsPinned i e x :=
  law.modGrant (fun g _ => .stayed g) fun _ => ⟨rfl, rfl⟩

theorem State.HoldsPinned.abandonMove (k : Fin 64) : (s.abandonMove k).HoldsPinned i e x := by
  unfold State.abandonMove
  split
  · exact law
  · split
    · exact law
    · refine State.HoldsPinned.noteFrag (.setOutcome ?_ k _) _
      split
      · exact (((law.haltPart _).stayed k).recount k).noteLoad s
      · exact (law.haltPart _).fallBack k

theorem State.HoldsPinned.stopRepack : s.stopRepack.HoldsPinned i e x := by
  unfold State.stopRepack
  split
  · refine State.HoldsPinned.endRepack ?_ _
    split
    · exact law
    · exact law.abandonMove _
  · exact law

/-! ### Other grants given up (R57 to R66) -/

theorem State.HoldsPinned.endGrant (ne : k ≠ i) (o : LastOutcome) (byTenant cut : Bool) :
    (s.endGrant k o byTenant cut).HoldsPinned i e x := by
  unfold State.endGrant
  split
  · exact law
  · rename_i g _
    have noted := (EntriesKept.setEntry s k _).twice (.modGrant (s.setOutcome k o) k (·.withNews byTenant))
    have given := (law.other (noted.twice (.giveUp _ k g cut)) ne).noteLoad s
    dsimp only
    split
    · split
      · exact given.refreshFrag _
      · exact given
    · split
      · exact (given.refreshFrag _).repackAfter ..
      · exact given.repackAfter ..

theorem State.HoldsPinned.endDrain (ne : k ≠ i) (g : Grant) : (s.endDrain k g).HoldsPinned i e x := by
  have quiet := ((law.news k true).other (.haltedQuiet _ k g.slot) ne).noteLoad s
  unfold State.endDrain
  dsimp only
  split
  · exact quiet.refreshFrag _
  · exact quiet

theorem State.HoldsPinned.freeByTimer (ne : k ≠ i) (g : Grant) : (s.freeByTimer k g).HoldsPinned i e x :=
  (law.other (.freeEntry s k) ne).refreshFrag _

end Law

end Sys2Proof.Machine
end

section
/-! ## The outcomes of tunings leave a PINNED grant its fixture (R54, R55, R68, R69, R82, R110 to R114, R143 to R148) -/

namespace Sys2Proof.Machine

variable {s : State} {i k : Fin 64} {e : Entry} {x : Grant} (law : s.HoldsPinned i e x)
include law

/-! ### Tunings that end -/

/-- An activation or a relock comes up on a grant that was TUNING (R54, R69). -/
theorem State.HoldsPinned.carrierUp (tuning : ∀ g, s.grant? k = some g → g.state = .tuning) (j : SlotId) :
    (s.carrierUp k j).HoldsPinned i e x :=
  (law.modGrant (fun g hg => .carrierUp (tuning g hg) j) fun _ => ⟨rfl, rfl⟩).setOutcome k _

theorem State.HoldsPinned.arrive (k : Fin 64) (j : SlotId) : (s.arrive k j).HoldsPinned i e x := by
  cases hg : s.grant? k with
  | none => simpa only [State.arrive, hg] using law
  | some g =>
    cases hm : g.move with
    | none => simpa only [State.arrive, hg, hm] using law
    | some m =>
      have landed := (law.other (.arrivedOn s k g m j) (law.ne_of_move hg hm)).noteLoad s
      rw [State.arrive_eq hg hm]
      exact (landed.refreshFrag _).repackAfter ..

theorem State.HoldsPinned.stayBehind (k : Fin 64) (p : Option SlotId) : (s.stayBehind k p).HoldsPinned i e x := by
  unfold State.stayBehind
  split
  · exact law
  · split
    · exact law
    · have stays : (s.modGrant k fun g => { g.stayed with slot := p }).HoldsPinned i e x :=
        law.modGrant (fun g _ => (Grant.Keeps.stayed g).trans (.of_same ⟨rfl, rfl, rfl, rfl, rfl⟩ ⟨rfl, rfl, rfl, rfl, rfl⟩))
          fun _ => ⟨rfl, rfl⟩
      exact ((((stays.setOutcome k _).recount k).noteLoad s).refreshFrag _).repackAfter ..

theorem State.HoldsPinned.fallbackFails (k : Fin 64) : (s.fallbackFails k).HoldsPinned i e x := by
  unfold State.fallbackFails
  split
  · exact law
  · split
    · exact law
    · exact (((law.fallBack k).setOutcome k _).refreshFrag _).repackAfter ..

omit law in
theorem Grant.pointTo_same (g : Grant) (c : Caller) (j : SlotId) :
    (g.pointTo c j).hold = g.hold ∧ (g.pointTo c j).payload = g.payload := by
  unfold Grant.pointTo
  split
  · split <;> exact ⟨rfl, rfl⟩
  · exact ⟨rfl, rfl⟩

theorem State.HoldsPinned.attempt (j : SlotId) (k : Fin 64) (c : Caller) (second : Bool) (start : Nat) :
    ((s.beginAttempt j k c second start).modGrant k (·.pointTo c j)).HoldsPinned i e x :=
  State.HoldsPinned.modGrant (law.apart (by simp)) (fun g _ => .pointTo g c j) fun g => g.pointTo_same c j

theorem State.HoldsPinned.beginFallback {g : Grant} (hg : s.grant? k = some g) {m : MoveContext} (hm : g.move = some m) :
    (s.beginFallback k g m).HoldsPinned i e x := by
  have falls := law.other (.modGrant s k fun g => { g with move := some { m with phase := .fallbackTuning } })
    (law.ne_of_move hg hm)
  unfold State.beginFallback
  dsimp only
  split
  · exact falls.fallbackFails k
  · exact falls.attempt ..

theorem State.HoldsPinned.tuningFails (k : Fin 64) (c : Caller) : (s.tuningFails k c).HoldsPinned i e x := by
  unfold State.tuningFails
  split
  · exact law
  · rename_i g hg
    cases c with
    | activation => exact (law.fallBack k).setOutcome k _
    | relock => exact law.fallBack k
    | moveTarget =>
      dsimp only
      split
      · exact law
      · rename_i m hm
        split
        · exact law.stayBehind k _
        · exact law.beginFallback hg hm
    | fallback => exact law.fallbackFails k
    | test => exact law

theorem State.HoldsPinned.tuningSucceeds {c : Caller} (awaits : ∀ g, s.grant? k = some g → g.awaits c = true)
    (j : SlotId) : (s.tuningSucceeds k c j).HoldsPinned i e x := by
  cases c with
  | activation => exact law.carrierUp (fun g hg => by simpa [Grant.awaits] using awaits g hg) j
  | relock => exact law.carrierUp (fun g hg => by simpa [Grant.awaits] using awaits g hg) j
  | moveTarget => exact law.arrive k j
  | fallback => exact law.stayBehind k _
  | test => exact law

theorem State.HoldsPinned.seekRetry (k : Fin 64) (c : Caller) (j : SlotId) : (s.seekRetry k c j).HoldsPinned i e x := by
  unfold State.seekRetry
  split
  · exact law
  · split
    · exact law.tuningFails k c
    · exact law.attempt ..

theorem State.HoldsPinned.attemptFails (j : SlotId) (a : Attempt) : (s.attemptFails j a).HoldsPinned i e x := by
  have failed : (s.failSlot j).HoldsPinned i e x := law.apart (by simp)
  unfold State.attemptFails
  split
  · exact law.apart (by simp)
  · split
    · exact failed
    · split
      · exact failed
      · split
        · split
          · exact failed.tuningFails ..
          · exact failed.seekRetry ..
        · exact failed

theorem State.HoldsPinned.attemptLocks (j : SlotId) (a : Attempt) : (s.attemptLocks j a).HoldsPinned i e x := by
  have locked : (s.lockSlot j).HoldsPinned i e x := law.apart (by simp)
  unfold State.attemptLocks
  split
  · exact law.apart (by simp)
  · split
    · exact locked
    · rename_i h _
      split
      · exact locked
      · rename_i g hg
        split
        · rename_i awaits
          refine locked.tuningSucceeds (fun y hy => ?_) j
          have same : (s.lockSlot j).grant? h.entry = s.grant? h.entry := State.grant_congr (by simp) _
          obtain rfl := Option.some.inj ((State.grantOf_some hg).1.symm.trans (same.symm.trans hy))
          exact awaits
        · exact locked

/-! ### Loss of lock (R68, R114, R145) -/

/-- A PINNED grant that loses lock relocks like any other (R68, R82). -/
theorem State.HoldsPinned.lockLoss {g : Grant} (hg : s.grant? k = some g) (carries : g.carries = true) (j : SlotId) :
    (s.lockLoss j k g).HoldsPinned i e x := by
  have counted : (s.countLoss j).HoldsPinned i e x := law.apart (by simp)
  have held : ((s.countLoss j).setOutcome k .lost).grant? k = some g := by
    rw [State.grant_setOutcome, ← hg]
    exact State.grant_congr (by simp) k
  have tuning : (((s.countLoss j).setOutcome k .lost).modGrant k fun g =>
      { g with state := .tuning, news := true }).HoldsPinned i e x :=
    (counted.setOutcome k .lost).modGrant (fun y hy => by
      obtain rfl : g = y := Option.some.inj (held.symm.trans hy)
      refine .of_settled ⟨rfl, rfl, rfl, rfl, rfl⟩ rfl (fun lawful => lawful.move_eq_none fun moving => ?_)
        (fun m hm => ⟨m, hm, rfl⟩) rfl rfl fun _ => .inl rfl
      simp [Grant.carries, moving] at carries) fun _ => ⟨rfl, rfl⟩
  have lost := State.HoldsPinned.apart tuning (State.raise_table _ .carrierLost)
  unfold State.lockLoss
  dsimp only
  split
  · exact lost.seekRetry ..
  · exact lost.apart (by simp)

theorem State.HoldsPinned.seamlessLoss {g : Grant} (hg : s.grant? k = some g) {m : MoveContext} (hm : g.move = some m)
    (j : SlotId) : (s.seamlessLoss j k m).HoldsPinned i e x := by
  have failed : (s.failSlot j).HoldsPinned i e x := law.apart (by simp)
  have hard := failed.other
    (.modGrant _ k fun g => { g with slot := m.second, move := some { m with kind := .hard, second := none } })
    (law.ne_of_move hg hm)
  exact ((hard.recount k).noteLoad s).apart (by simp [State.seamlessLoss])

theorem State.HoldsPinned.lossOfLock (j : SlotId) : (s.lossOfLock j).HoldsPinned i e x := by
  have counted : (s.countLoss j).HoldsPinned i e x := law.apart (by simp)
  unfold State.lossOfLock
  split
  · exact counted
  · split
    · exact counted
    · rename_i g current
      obtain ⟨hg, -⟩ := State.grantOf_some current
      split
      · rename_i carries
        exact law.lockLoss hg carries j
      · split
        · exact counted
        · rename_i m hm
          split
          · exact law.seamlessLoss hg hm j
          · exact counted

/-! ### Reports on the carrier link (R106) -/

theorem State.HoldsPinned.lockedOn (j : SlotId) : (s.lockedOn j).HoldsPinned i e x := by
  unfold State.lockedOn
  split
  · exact law.attemptLocks ..
  all_goals exact law

theorem State.HoldsPinned.failedOn (j : SlotId) : (s.failedOn j).HoldsPinned i e x := by
  unfold State.failedOn
  split
  · exact law.attemptFails ..
  all_goals exact law

theorem State.HoldsPinned.lostOn (j : SlotId) : (s.lostOn j).HoldsPinned i e x := by
  unfold State.lostOn
  split
  · exact law.attemptFails ..
  · exact law.lossOfLock ..
  all_goals exact law

end Sys2Proof.Machine
end

section
/-! ## Watches, restarts, timers and resets leave a PINNED grant its fixture (R45, R82, R165 to R181) -/

namespace Sys2Proof.Machine

/-- What becomes of an impairing count leaves the rest of the record but for its state (R47, R176). -/
theorem Grant.impairUp_same (g : Grant) : g.impairUp.hold = g.hold ∧ g.impairUp.payload = g.payload := by
  unfold Grant.impairUp
  split <;> exact ⟨rfl, rfl⟩

theorem Grant.impairDown_same (g : Grant) : g.impairDown.hold = g.hold ∧ g.impairDown.payload = g.payload := by
  unfold Grant.impairDown
  split <;> exact ⟨rfl, rfl⟩

theorem Grant.tick_same (g : Grant) : g.tick.hold = g.hold ∧ g.tick.payload = g.payload := by
  obtain ⟨_, _, lease⟩ := g.leaseTicked_eq
  obtain ⟨_, _, hold⟩ := g.leaseTicked.holdTicked_eq
  rw [Grant.tick_eq, hold, lease]
  exact ⟨rfl, rfl⟩

variable {s : State} {i k : Fin 64} {e : Entry} {x : Grant} (law : s.HoldsPinned i e x)
include law

/-! ### Watches (R165, R167, R168, R176) -/

theorem State.HoldsPinned.modNamed (h : Handle) {f : Grant → Grant} (keeps : ∀ g : Grant, g.Keeps (f g))
    (same : ∀ g, (f g).hold = g.hold ∧ (f g).payload = g.payload) : (s.modNamed h f).HoldsPinned i e x := by
  unfold State.modNamed
  split
  · exact law
  · exact law.modGrant (fun g _ => keeps g) same

theorem State.HoldsPinned.turned (w : Watch) (now : Bool) : (s.turned w now).HoldsPinned i e x := by
  unfold State.turned
  split
  · exact law
  · rename_i h _
    split
    · split
      · have up := law.modNamed h Grant.Keeps.impairUp Grant.impairUp_same
        dsimp only
        split
        · exact up.apart (by simp)
        · exact up
      · exact law.modNamed h Grant.Keeps.impairDown Grant.impairDown_same
    · exact law

theorem State.HoldsPinned.compareAt (n : Fin 32) (w : Watch) (r : Byte) : (s.compareAt n w r).HoldsPinned i e x := by
  unfold State.compareAt
  extract_lets lower upper now s₁ s₂ s₃
  have compared : s₂.HoldsPinned i e x := law.apart (by unfold s₂; split <;> simp [s₁])
  have acted : s₃.HoldsPinned i e x := by
    unfold s₃
    split
    · exact compared.turned ..
    · exact compared
  exact acted.apart (by simp)

theorem State.HoldsPinned.actOn (n : Fin 32) (r : Byte) : (s.actOn n r).HoldsPinned i e x := by
  unfold State.actOn
  split
  · split
    · exact law.compareAt ..
    · exact law.apart (by simp)
    · exact State.HoldsPinned.compareAt (law.apart (by simp)) ..
  · exact law

theorem State.HoldsPinned.withdrawWatch (w : Watch) : (s.withdrawWatch w).HoldsPinned i e x := by
  unfold State.withdrawWatch
  split
  · exact law
  · split
    · exact law.modNamed _ Grant.Keeps.impairDown Grant.impairDown_same
    · exact law

theorem State.HoldsPinned.emptyPosition (n : Fin 32) : (s.emptyPosition n).HoldsPinned i e x := by
  unfold State.emptyPosition
  split
  · rename_i w _
    unfold State.removeWatch
    dsimp only
    split <;> exact (law.withdrawWatch w).apart (by simp)
  · exact law
  · exact law

theorem State.HoldsPinned.continueSweep : s.continueSweep.HoldsPinned i e x := law.apart (by simp)

theorem State.HoldsPinned.takeReading (tag value : Byte) : (s.takeReading tag value).HoldsPinned i e x := by
  unfold State.takeReading
  split
  · exact law
  · split
    · have ended : (s.withMonitor fun m => { m with inFlight := none }).HoldsPinned i e x := law.apart (by simp)
      dsimp only
      split
      · exact ended.continueSweep
      · exact (ended.actOn ..).continueSweep
    · exact law

/-! ### RESTART, pilot samples and the millisecond (R45, R75, R133) -/

/-- A restart frees the grants that are not PINNED only (R45). -/
theorem State.HoldsPinned.restartEntry (k : Fin 64) : (s.restartEntry k).HoldsPinned i e x := by
  rcases s.restartEntry_cases k with ⟨-, eq⟩ | ⟨g, -, -, eq⟩ | ⟨g, hg, loose, eq⟩
  · rwa [eq]
  · rw [eq]
    exact law.news k false
  · rw [eq]
    have halted : (s.haltSlots (slotsOf g)).HoldsPinned i e x := law.apart (by simp)
    exact (halted.setOutcome k .revoked).other (.freeEntry _ k) (law.ne_of_loose hg fun _ => loose)

omit law in
theorem State.HoldsPinned.restartEntries (l : List (Fin 64)) :
    ∀ {s : State}, s.HoldsPinned i e x → (s.restartEntries l).HoldsPinned i e x := by
  induction l with
  | nil => exact id
  | cons k l ih => exact fun law => ih (law.restartEntry k)

theorem State.HoldsPinned.warmRestart : s.warmRestart.1.HoldsPinned i e x := by
  have engine : s.restartEngine.HoldsPinned i e x := law.apart rfl
  have freed : s.grantsRestarted.HoldsPinned i e x := .restartEntries entryNumbers engine
  have blocks : s.restartBlocks.HoldsPinned i e x := (freed.noteLoad s).apart (by simp [State.restartBlocks_eq])
  rw [State.warmRestart_eq]
  exact blocks.apart (by simp [State.restarted])

theorem State.HoldsPinned.takePilot (p : Byte) : (s.takePilot p).HoldsPinned i e x := by
  have read : (s.setReading p).HoldsPinned i e x := law.apart rfl
  exact read.trackPilot.apart (by simp [State.takePilot])

/-- No timer of a PINNED grant runs but that of its phase (R75). -/
theorem State.HoldsPinned.tick : s.tick.HoldsPinned i e x := by
  have entry := s.entry_tick i
  refine law.of_grant (by rw [entry]; rfl) (by rw [entry]; rfl) fun g hg _ lawful => ⟨g.tick, ?_, ?_, ?_⟩
  · rw [State.grant?, entry, Entry.tick, show (s.entry i).grant = some g from hg]
    rfl
  · obtain ⟨hold, payload⟩ := g.tick_same
    exact (Grant.Keeps.tick g).sameFixture hold payload
  · exact (Grant.Keeps.tick g).lawful lawful

theorem State.HoldsPinned.idle : s.idle.HoldsPinned i e x := by
  unfold State.idle
  split
  · exact law.apart rfl
  · split
    · exact law
    · exact law.tick

end Sys2Proof.Machine
end

section
/-! ## The requests, and every command but the release of RESET_N, leave a PINNED grant its fixture (R82) -/

namespace Sys2Proof.Machine

section Handlers

variable {s : State} {i k : Fin 64} {e : Entry} {x : Grant} (law : s.HoldsPinned i e x) (r : Req)
include law

theorem State.HoldsPinned.done (payload : List Byte) : (answerDone s payload).1.HoldsPinned i e x := law

theorem State.HoldsPinned.accepted (payload : List Byte) : (answerAccepted s payload).1.HoldsPinned i e x := law

/-! ### The plan store, the profiles (R1 to R15, R93 to R96) -/

theorem State.HoldsPinned.plan (p : PlanStore) : (s.withPlan p).HoldsPinned i e x := law.apart rfl

theorem State.HoldsPinned.stageRegion : (Machine.stageRegion r s).1.HoldsPinned i e x := by
  unfold Machine.stageRegion
  split
  · refine managementRequest_keeps law ?_
    split
    · exact law
    · exact law.plan _
  · exact law

theorem State.HoldsPinned.discardStaged : (Machine.discardStaged r s).1.HoldsPinned i e x :=
  managementRequest_keeps law (law.plan _)

theorem State.HoldsPinned.freezeRegion : (Machine.freezeRegion r s).1.HoldsPinned i e x := by
  unfold Machine.freezeRegion
  split
  · exact managementRequest_keeps law (law.plan _)
  · exact law

theorem State.HoldsPinned.setGuard : (Machine.setGuard r s).1.HoldsPinned i e x := by
  refine managementRequest_keeps law ?_
  split
  · exact law
  · exact law.plan _

theorem State.HoldsPinned.setTenant : (Machine.setTenant r s).1.HoldsPinned i e x := by
  unfold Machine.setTenant
  split
  · refine managementRequest_keeps law ?_
    split
    · exact law
    · exact law.plan _
  · exact law

theorem State.HoldsPinned.switchStart (old : Settings) (b : Band) : (s.switchStart old b).HoldsPinned i e x := by
  unfold State.switchStart
  split
  · exact law.startRepack b
  · exact law

theorem State.HoldsPinned.setPlanSettings : (Machine.setPlanSettings r s).1.HoldsPinned i e x := by
  unfold Machine.setPlanSettings
  split
  · exact law
  · exact managementRequest_keeps law (((law.plan _).switchStart _ .up).switchStart _ .down)

theorem State.HoldsPinned.writeProfile : (Machine.writeProfile r s).1.HoldsPinned i e x := by
  unfold Machine.writeProfile
  split
  · refine managementRequest_keeps law ?_
    split
    · exact law
    · exact law.apart rfl
  · exact law

theorem State.HoldsPinned.clearProfile : (Machine.clearProfile r s).1.HoldsPinned i e x := by
  unfold Machine.clearProfile
  split
  · exact law
  · refine managementRequest_keeps law ?_
    split
    · exact law
    · exact law.apart rfl

/-! ### The grant table (R31 to R44, R188) -/

/-- A grant is made in a FREE entry (R38). -/
theorem State.HoldsPinned.reserve : (Machine.reserve r s).1.HoldsPinned i e x := by
  unfold Machine.reserve
  split
  · exact law
  · split
    · split
      · exact law
      · refine enabledTenant_keeps law ?_
        split
        · exact law
        · rename_i k start admitted
          obtain ⟨-, -, -, -, -, entry, -⟩ := State.admission_eq_ok_iff.1 admitted
          obtain ⟨free, -⟩ := State.freeEntryNumber_eq_some_iff.1 entry
          exact (law.other (.grantAdded s r _ k start) (law.ne_of_free free)).refreshFrag _
    · exact law

theorem State.HoldsPinned.lookup : (Machine.lookup r s).1.HoldsPinned i e x :=
  ownHandle_keeps law fun k g _ => by
    unfold answerDone
    dsimp only
    split
    · exact law.news k false
    · exact law

omit law in
theorem State.HoldsPinned.clearNews (l : List (Fin 64)) :
    ∀ {s : State}, s.HoldsPinned i e x → (s.clearNews l).HoldsPinned i e x := by
  induction l with
  | nil => exact id
  | cons k l ih => exact fun law => ih (law.news k false)

theorem State.HoldsPinned.readNews : (Machine.readNews r s).1.HoldsPinned i e x := by
  unfold Machine.readNews
  split
  · exact law
  · exact enabledTenant_keeps law (.clearNews _ law)

/-! ### The lives and the protection of grants (R51 to R61, R78 to R86) -/

/-- An activation of a PINNED grant leaves it PINNED (R52). -/
theorem State.HoldsPinned.activate : (Machine.activate r s).1.HoldsPinned i e x :=
  ownHandle_keeps law fun k g hg => by
    split
    · exact law
    · rename_i j ok
      have reserved := State.activation_reserved ok
      have begun : (s.modGrant k (·.activated j r.byTenant)).HoldsPinned i e x :=
        law.modGrant (fun y hy => by
          obtain rfl : g = y := Option.some.inj (hg.symm.trans hy)
          exact .of_settled ⟨rfl, rfl, rfl, rfl, rfl⟩ rfl (fun lawful => lawful.move_eq_none (by simp [reserved]))
            (fun m hm => ⟨m, hm, rfl⟩) rfl rfl fun _ => .inr rfl) fun _ => ⟨rfl, rfl⟩
      exact (begun.recount k).apart (by simp [answerAccepted, State.beginActivation])

/-- A request that a PINNED grant refuses changes another entry's grant. -/
theorem State.HoldsPinned.modLoose {g : Grant} (hg : s.grant? k = some g) (loose : g.hold ≠ .pinned) (f : Grant → Grant) :
    (s.modGrant k f).HoldsPinned i e x :=
  law.other (.modGrant s k f) (law.ne_of_loose hg fun _ => loose)

theorem State.HoldsPinned.endedReply {g : Grant} (hg : s.grant? k = some g) (loose : g.hold ≠ .pinned) (o : LastOutcome)
    (byTenant cut : Bool) : ((s.endGrant k o byTenant cut).endedReply k).1.HoldsPinned i e x := by
  rw [State.endedReply_fst]
  exact law.endGrant (law.ne_of_loose hg fun _ => loose) ..

theorem State.HoldsPinned.renew : (Machine.renew r s).1.HoldsPinned i e x :=
  ownHandle_keeps law fun k g hg => by
    split
    · exact law
    · split
      · exact law
      · rename_i loose
        exact law.modLoose hg loose _

theorem State.HoldsPinned.withdraw : (Machine.withdraw r s).1.HoldsPinned i e x :=
  ownHandle_keeps law fun k g hg => by
    split
    · exact law
    · split
      · exact law
      · rename_i loose
        split
        · exact law
        · exact law.endedReply hg loose ..

theorem State.HoldsPinned.revoke : (Machine.revoke r s).1.HoldsPinned i e x := by
  unfold Machine.revoke
  split
  · exact law
  · refine managementHandle_keeps law fun k g hg => ?_
    split
    · exact law
    · split
      · exact law
      · rename_i loose
        exact law.endedReply hg loose ..

theorem State.HoldsPinned.hold : (Machine.hold r s).1.HoldsPinned i e x :=
  managementHandle_keeps law fun k g hg => by
    split
    · exact law
    · rename_i loose
      exact law.modLoose hg loose _

theorem State.HoldsPinned.unhold : (Machine.unhold r s).1.HoldsPinned i e x :=
  managementHandle_keeps law fun k g hg => by
    split
    · exact law
    · rename_i loose
      exact law.modLoose hg loose _

theorem State.HoldsPinned.pin : (Machine.pin r s).1.HoldsPinned i e x :=
  managementHandle_keeps law fun k g hg => by
    split
    · exact law
    · split
      · exact law
      · rename_i loose
        exact law.modLoose hg loose _

theorem State.HoldsPinned.freezePlan : (Machine.freezePlan r s).1.HoldsPinned i e x := by
  have frozen : ∀ b, (s.setPlanFrozen b).HoldsPinned i e x := fun _ => law.beside rfl
  unfold Machine.freezePlan
  split
  · exact law
  · refine managementRequest_keeps law ?_
    unfold answerDone
    dsimp only
    split
    · exact (frozen true).stopRepack
    · exact frozen false

/-! ### Levels and budgets (R127 to R131) -/

theorem State.HoldsPinned.relevel {g : Grant} {f : Grant → Grant} (keeps : ∀ g : Grant, g.Keeps (f g))
    (same : ∀ g, (f g).hold = g.hold ∧ (f g).payload = g.payload) : (s.relevel k g f).1.HoldsPinned i e x := by
  unfold State.relevel
  dsimp only
  split
  · exact law
  · exact (((law.modGrant (fun g _ => keeps g) same).applyLevels s).noteLoad s).done _

theorem State.HoldsPinned.setLevel : (Machine.setLevel r s).1.HoldsPinned i e x :=
  ownHandle_keeps law fun k g _ => by
    split
    · exact law
    · exact law.relevel (fun _ => .of_same ⟨rfl, rfl, rfl, rfl, rfl⟩ ⟨rfl, rfl, rfl, rfl, rfl⟩) fun _ => ⟨rfl, rfl⟩

theorem State.HoldsPinned.assignGroup : (Machine.assignGroup r s).1.HoldsPinned i e x := by
  unfold Machine.assignGroup
  split
  · exact law
  · exact managementHandle_keeps law fun k g _ =>
      law.relevel (fun _ => .of_same ⟨rfl, rfl, rfl, rfl, rfl⟩ ⟨rfl, rfl, rfl, rfl, rfl⟩) fun _ => ⟨rfl, rfl⟩

theorem State.HoldsPinned.setGroup : (Machine.setGroup r s).1.HoldsPinned i e x := by
  unfold Machine.setGroup
  split
  · exact law
  · rename_i unit _
    have written : ({ s with levels := unit } : State).HoldsPinned i e x := law.apart rfl
    refine managementRequest_keeps law ?_
    dsimp only
    split
    · exact law
    · exact ((written.applyLevels s).noteLoad s).done _

theorem State.HoldsPinned.setBudget : (Machine.setBudget r s).1.HoldsPinned i e x := by
  unfold Machine.setBudget
  split
  · exact law
  · rename_i b _
    have written : (s.setBudget b (r.word 1)).HoldsPinned i e x := law.apart rfl
    refine managementRequest_keeps law ?_
    split
    · exact law
    · unfold answerDone
      dsimp only
      split
      · exact written.loadDecreased
      · exact written

/-! ### Moves (R137 to R141, R151, R156, R160) -/

theorem State.HoldsPinned.carryOutMove {g : Grant} (hg : s.grant? k = some g) (ne : k ≠ i) (start : Nat)
    (kind : Option MoveKind) : (s.carryOutMove r k g start kind).1.HoldsPinned i e x := by
  unfold State.carryOutMove
  split
  · exact ((law.other (s.moveReserved_spec hg start r.byTenant).others ne).refreshFrag _).done _
  · split
    · exact law
    · rename_i p _
      exact ((law.other (.beginMove s k start p.kind .request p.slot r.byTenant) ne).refreshFrag _).accepted _

theorem State.HoldsPinned.move : (Machine.move r s).1.HoldsPinned i e x := by
  unfold Machine.move
  split
  · refine ownHandle_keeps law fun k g hg => ?_
    split
    · exact law
    · rename_i passed
      obtain ⟨loose, -⟩ := State.moveChecks_spec r passed
      exact law.carryOutMove r hg (law.ne_of_loose hg fun _ => loose) ..
  · exact law

theorem State.HoldsPinned.repack : (Machine.repack r s).1.HoldsPinned i e x := by
  unfold Machine.repack
  split
  · exact law
  · refine managementRequest_keeps law ?_
    split
    · exact law
    · split
      · exact law
      · exact law.startRepack _

theorem State.HoldsPinned.stopRepackRequest : (Machine.stopRepack r s).1.HoldsPinned i e x :=
  managementRequest_keeps law law.stopRepack

theorem State.HoldsPinned.autoMove (ne : k ≠ i) (g : Grant) : (s.autoMove k g).HoldsPinned i e x := by
  unfold State.autoMove
  split
  · exact (law.setOutcome k .noTarget).news k true
  · rename_i start _
    split
    · exact law
    · rename_i p _
      exact (law.other (.beginMove s k start p.kind .auto p.slot false) ne).refreshFrag _

theorem State.HoldsPinned.takeAsk : s.takeAsk.HoldsPinned i e x := by
  unfold State.takeAsk
  split
  · exact law
  · rename_i a rest _
    have taken : ({ s with engine := { s.engine with asks := rest } } : State).HoldsPinned i e x := law.apart rfl
    dsimp only
    split
    · exact taken
    · rename_i g current
      obtain ⟨hg, -⟩ := State.grantOf_some current
      split
      · exact taken
      · rename_i permitted
        have loose := State.loose_of_askForbidden (by simpa using permitted)
        exact taken.autoMove (taken.ne_of_loose hg fun _ => loose) g

/-! ### The monitor and the ports (R166 to R175, R186) -/

theorem State.HoldsPinned.setWatch : (Machine.setWatch r s).1.HoldsPinned i e x := by
  unfold Machine.setWatch
  split
  · exact law
  · rename_i n _
    split
    · exact law
    · refine managementRequest_keeps law ?_
      split
      · exact law
      · split
        · exact law
        · exact (State.HoldsPinned.apart (law.emptyPosition n) (by simp)).done _

theorem State.HoldsPinned.clearWatch : (Machine.clearWatch r s).1.HoldsPinned i e x := by
  unfold Machine.clearWatch
  split
  · exact law
  · refine managementRequest_keeps law ?_
    split
    · exact law
    · exact law.emptyPosition _

theorem State.HoldsPinned.setSweep : (Machine.setSweep r s).1.HoldsPinned i e x := by
  unfold Machine.setSweep
  split
  · exact law
  · exact managementRequest_keeps law (State.HoldsPinned.done (law.apart (by simp)) _)

theorem State.HoldsPinned.sweep : (Machine.sweep r s).1.HoldsPinned i e x := by
  refine managementRequest_keeps law ?_
  split
  · exact law
  · exact State.HoldsPinned.accepted (law.apart (by simp)) _

theorem State.HoldsPinned.clearHits : (Machine.clearHits r s).1.HoldsPinned i e x :=
  managementRequest_keeps law (law.apart rfl)

theorem State.HoldsPinned.readEvents : (Machine.readEvents r s).1.HoldsPinned i e x :=
  managementRequest_keeps law (law.apart rfl)

theorem State.HoldsPinned.setEventMask : (Machine.setEventMask r s).1.HoldsPinned i e x :=
  managementRequest_keeps law (law.apart rfl)

theorem State.HoldsPinned.restart : (Machine.restart r s).1.HoldsPinned i e x :=
  managementRequest_keeps law (law.warmRestart.done _)

end Handlers

/-! ### The taking of a frame, and expiries -/

section Events

variable {s : State} {i : Fin 64} {e : Entry} {x : Grant} (law : s.HoldsPinned i e x)
include law

/-- The hold timer of a PINNED grant does not run (R80). -/
theorem State.HoldsPinned.holdExpiry (k : Fin 64) :
    (s.onGrant k fun g => if g.holdRuns then (s.setOutcome k .lapsed).freeByTimer k g else s).HoldsPinned i e x :=
  State.onGrant_keeps law fun g hg => by
    split
    · rename_i runs
      exact (law.setOutcome k .lapsed).freeByTimer (law.ne_of_holdTime hg (Bool.and_eq_true_iff.1 runs).2) g
    · exact law

/-- Nor does its lease (R75, R80). -/
theorem State.HoldsPinned.leaseExpiry (k : Fin 64) :
    (s.onGrant k fun g =>
      if g.leaseRuns then (s.endGrant k .expired false false).raise .leaseExpired else s).HoldsPinned i e x :=
  State.onGrant_keeps law fun g hg => by
    split
    · rename_i runs
      exact (law.endGrant (law.ne_of_lease hg (Bool.and_eq_true_iff.1 runs).2) .expired false false).apart rfl
    · exact law

theorem State.HoldsPinned.drainExpiry (k : Fin 64) :
    (s.onGrant k fun g => if g.state = .draining then s.endDrain k g else s).HoldsPinned i e x :=
  State.onGrant_keeps law fun g hg => by
    split
    · rename_i draining
      exact law.endDrain (law.ne_of_state hg (by rw [draining]; rfl)) g
    · exact law

theorem State.HoldsPinned.quietExpiry (k : Fin 64) :
    (s.onGrant k fun g => if g.state = .quiet then s.freeByTimer k g else s).HoldsPinned i e x :=
  State.onGrant_keeps law fun g hg => by
    split
    · rename_i quiet
      exact law.freeByTimer (law.ne_of_state hg (by rw [quiet]; rfl)) g
    · exact law

theorem State.HoldsPinned.settleExpiry (k : Fin 8) :
    (s.whileRunning
      (if (s.profile k).state = .settling then s.setProfile k (s.profile k).settled else s)).HoldsPinned i e x := by
  refine State.whileRunning_keeps law ?_
  split
  · exact law.apart rfl
  · exact law

theorem State.HoldsPinned.portsOnly {t : State} (h : PortsOnly s t) : t.HoldsPinned i e x :=
  law.apart (by rw [h])

theorem State.HoldsPinned.taken (src : Source) : (s.taken src).HoldsPinned i e x := by
  cases src with
  | priority => exact State.HoldsPinned.stopRepack (law.apart rfl)
  | queue p => exact law.apart (by simp [State.taken, State.removeFrame])

/-- A request row whose handler leaves the grant its fixture does so. -/
theorem State.HoldsPinned.serve {row : Instr} {handler : Handler}
    (h : ∀ r u, u.HoldsPinned i e x → (handler r u).1.HoldsPinned i e x) : (s.serve row handler).HoldsPinned i e x :=
  State.serve_keeps law law.taken h fun _ _ _ placed => placed.apart (by simp)

end Events

/-- Every command but the release of RESET_N leaves a PINNED grant its fixture. -/
theorem exec_holdsPinned {c : Instr} (reset : c ≠ .resetNRelease) {s : State} {i : Fin 64} {e : Entry} {x : Grant}
    (law : s.HoldsPinned i e x) : ∃ t, exec c s = .next t ∧ t.HoldsPinned i e x := by
  cases c with
  | writeRequest p part => exact ⟨_, rfl, law.portsOnly (.write s p false part)⟩
  | writeRequestPriority p part => exact ⟨_, rfl, law.portsOnly (.write s p true part)⟩
  | readResponse p part => exact ⟨_, rfl, law.portsOnly (.read (.readOldest p) s part)⟩
  | readStatus p part => exact ⟨_, rfl, law.portsOnly (.read (.readCounts p) s part)⟩
  | otherCommandByte p command part =>
    refine ⟨_, rfl, ?_⟩
    split
    · exact law.portsOnly (.read (fun _ t => .setPort t p _) s part)
    · exact law
  | badRequestFrame => exact ⟨_, rfl, law.serve fun _ _ h => h⟩
  | notReadyAnswer => exact ⟨_, rfl, law.serve fun _ _ h => h⟩
  | stageRegion => exact ⟨_, rfl, law.serve fun r _ h => h.stageRegion r⟩
  | discardStaged => exact ⟨_, rfl, law.serve fun r _ h => h.discardStaged r⟩
  | freezeRegion => exact ⟨_, rfl, law.serve fun r _ h => h.freezeRegion r⟩
  | readRegion => exact ⟨_, rfl, law.serve fun r u h => by rwa [readRegion_fst]⟩
  | setGuard => exact ⟨_, rfl, law.serve fun r _ h => h.setGuard r⟩
  | setTenant => exact ⟨_, rfl, law.serve fun r _ h => h.setTenant r⟩
  | readTenant => exact ⟨_, rfl, law.serve fun r u h => by rwa [readTenant_fst]⟩
  | setPlanSettings => exact ⟨_, rfl, law.serve fun r _ h => h.setPlanSettings r⟩
  | readSettings => exact ⟨_, rfl, law.serve fun _ _ h => managementRequest_keeps h h⟩
  | reserve => exact ⟨_, rfl, law.serve fun r _ h => h.reserve r⟩
  | lookup => exact ⟨_, rfl, law.serve fun r _ h => h.lookup r⟩
  | find => exact ⟨_, rfl, law.serve fun r u h => by rwa [find_fst]⟩
  | listOwn => exact ⟨_, rfl, law.serve fun r u h => by rwa [listOwn_fst]⟩
  | listBand => exact ⟨_, rfl, law.serve fun r u h => by rwa [listBand_fst]⟩
  | activate => exact ⟨_, rfl, law.serve fun r _ h => h.activate r⟩
  | renew => exact ⟨_, rfl, law.serve fun r _ h => h.renew r⟩
  | withdraw => exact ⟨_, rfl, law.serve fun r _ h => h.withdraw r⟩
  | revoke => exact ⟨_, rfl, law.serve fun r _ h => h.revoke r⟩
  | hold => exact ⟨_, rfl, law.serve fun r _ h => h.hold r⟩
  | unhold => exact ⟨_, rfl, law.serve fun r _ h => h.unhold r⟩
  | pin => exact ⟨_, rfl, law.serve fun r _ h => h.pin r⟩
  | freezePlan => exact ⟨_, rfl, law.serve fun r _ h => h.freezePlan r⟩
  | writeProfile => exact ⟨_, rfl, law.serve fun r _ h => h.writeProfile r⟩
  | clearProfile => exact ⟨_, rfl, law.serve fun r _ h => h.clearProfile r⟩
  | readProfile => exact ⟨_, rfl, law.serve fun r u h => by rwa [readProfile_fst]⟩
  | readSlot => exact ⟨_, rfl, law.serve fun r u h => by rwa [readSlot_fst]⟩
  | setLevel => exact ⟨_, rfl, law.serve fun r _ h => h.setLevel r⟩
  | assignGroup => exact ⟨_, rfl, law.serve fun r _ h => h.assignGroup r⟩
  | setGroup => exact ⟨_, rfl, law.serve fun r _ h => h.setGroup r⟩
  | setBudget => exact ⟨_, rfl, law.serve fun r _ h => h.setBudget r⟩
  | readLevels => exact ⟨_, rfl, law.serve fun _ _ h => managementRequest_keeps h h⟩
  | move => exact ⟨_, rfl, law.serve fun r _ h => h.move r⟩
  | repack => exact ⟨_, rfl, law.serve fun r _ h => h.repack r⟩
  | stopRepack => exact ⟨_, rfl, law.serve fun r _ h => h.stopRepackRequest r⟩
  | setWatch => exact ⟨_, rfl, law.serve fun r _ h => h.setWatch r⟩
  | clearWatch => exact ⟨_, rfl, law.serve fun r _ h => h.clearWatch r⟩
  | readWatch => exact ⟨_, rfl, law.serve fun r u h => by rwa [readWatch_fst]⟩
  | setSweep => exact ⟨_, rfl, law.serve fun r _ h => h.setSweep r⟩
  | sweep => exact ⟨_, rfl, law.serve fun r _ h => h.sweep r⟩
  | readResults => exact ⟨_, rfl, law.serve fun _ _ h => managementRequest_keeps h h⟩
  | readHits => exact ⟨_, rfl, law.serve fun _ _ h => managementRequest_keeps h h⟩
  | clearHits => exact ⟨_, rfl, law.serve fun r _ h => h.clearHits r⟩
  | readEvents => exact ⟨_, rfl, law.serve fun r _ h => h.readEvents r⟩
  | setEventMask => exact ⟨_, rfl, law.serve fun r _ h => h.setEventMask r⟩
  | readNews => exact ⟨_, rfl, law.serve fun r _ h => h.readNews r⟩
  | status => exact ⟨_, rfl, law.serve fun _ _ h => enabledTenant_keeps h h⟩
  | restart => exact ⟨_, rfl, law.serve fun r _ h => h.restart r⟩
  | holdTimerExpiry k => exact ⟨_, rfl, law.holdExpiry k⟩
  | leaseExpiry k => exact ⟨_, rfl, law.leaseExpiry k⟩
  | drainTimerExpiry k => exact ⟨_, rfl, law.drainExpiry k⟩
  | quietTimerExpiry k => exact ⟨_, rfl, law.quietExpiry k⟩
  | lockTimeout b n => exact ⟨_, rfl, State.onSlot_keeps law law.failedOn⟩
  | settleTimerExpiry k => exact ⟨_, rfl, law.settleExpiry k⟩
  | periodTimerExpiry => exact ⟨_, rfl, State.whileRunning_keeps law (law.apart (by simp))⟩
  | senseTimeout => exact ⟨_, rfl, State.whileRunning_keeps law (law.apart s.senseElapsed_table)⟩
  | pilotReading p => exact ⟨_, rfl, State.whileRunning_keeps law (law.takePilot p)⟩
  | locked b n => exact ⟨_, rfl, State.onSlot_keeps law law.lockedOn⟩
  | failed b n => exact ⟨_, rfl, State.onSlot_keeps law law.failedOn⟩
  | lost b n => exact ⟨_, rfl, State.onSlot_keeps law law.lostOn⟩
  | reading tag value => exact ⟨_, rfl, State.whileRunning_keeps law (law.takeReading tag value)⟩
  | automaticMove =>
    refine ⟨_, rfl, ?_⟩
    split
    · exact law
    · exact law.takeAsk
  | coldReset => exact ⟨_, rfl, law.apart rfl⟩
  | resetNRelease => exact absurd rfl reset

/-- Every step but the release of RESET_N leaves a PINNED grant its fixture. -/
theorem step_holdsPinned {s t : State} {i : Fin 64} {e : Entry} {x : Grant} (law : s.HoldsPinned i e x)
    (reset : s.pending.head? ≠ some .resetNRelease) (h : step s = .next t) : t.HoldsPinned i e x := by
  unfold step at h
  split at h
  · cases h
    exact law.idle
  · rename_i c rest front
    have taken : ({ s with pending := rest } : State).HoldsPinned i e x := law.apart rfl
    obtain ⟨u, hu, kept⟩ := exec_holdsPinned (c := c) (fun eq => reset (by rw [front, eq]; rfl)) taken
    rw [hu] at h
    cases h
    exact kept

end Sys2Proof.Machine

namespace Sys2Proof.Proofs
open Sys2Proof.Machine

/-- Settles O56: what an event does to another entry does not touch a PINNED grant, and what it does to the grant itself
leaves its fixture and keeps it lawful; for being lawful it has no move, no lease and no hold time that could end it. -/
theorem pinnedGrantsStay : Obligations.PinnedGrantsStay := by
  intro s t i g moves pins hg pinned reset h
  have lawful : g.Lawful := s.grantsLawful_iff.2 ⟨moves, pins⟩ i g hg
  have law : s.HoldsPinned i (s.entry i) g := ⟨rfl, rfl, g, hg, .refl g, pinned, lawful⟩
  obtain ⟨generation, tenant, g', hg', same, -⟩ := step_holdsPinned law reset h
  exact ⟨g', hg', same, generation, tenant⟩

end Sys2Proof.Proofs
end

section
/-! ## FREEZE_PLAN, REPACK and STOP_REPACK (R84, R86, R156, R160) -/

namespace Sys2Proof.Machine

section Answers

variable {r : Req} {u : State} (port : r.port = .management)
include port

/-- FREEZE_PLAN from management, with one of its two bytes set (R84). -/
theorem freezePlan_eq {frozen : Bool} (set : r.byte 0 = frozen.toNat) (clear : r.byte 1 = (!frozen).toNat) :
    freezePlan r u =
      answerDone (if frozen then (u.setPlanFrozen true).stopRepack else u.setPlanFrozen false)
        [flagByte u.table.planFrozen, flagByte (frozen && u.engine.repack.running)] := by
  simp only [freezePlan, (setOrClear_eq_some_iff ..).2 ⟨set, clear⟩, managementRequest_pass port]

/-- REPACK from management, of a band (R156). -/
theorem repack_eq {b : Band} (band : r.byte 0 = bandCode b) :
    repack r u =
      if u.table.planFrozen then refuse u .frozen
      else if u.engine.repack.running then refuse u .repackBusy
      else
        answerAccepted (u.startRepack b)
          (byte (u.engine.frag.get b) :: flagByte (u.startRepack b).engine.repack.running ::
            be16 (u.startRepack b).engine.repack.moves) := by
  simp only [repack, (bandOfCode_eq_some_iff ..).2 band, managementRequest_pass port]

end Answers

/-- FREEZE_PLAN whose bytes are not one set and one clear (R40). -/
theorem freezePlan_badParam {r : Req} {u : State} (bad : r.byte 0 = r.byte 1 ∨ 2 ≤ r.byte 0 ∨ 2 ≤ r.byte 1) :
    freezePlan r u = refuse u .badParam := by
  have none : setOrClear (r.byte 0) (r.byte 1) = none := by
    rw [← Option.not_isSome_iff_eq_none, isSome_setOrClear]
    omega
  simp only [freezePlan, none]

end Sys2Proof.Machine

namespace Sys2Proof.Proofs
open Sys2Proof.Machine

/-- Settles O34, by what each of the three handlers answers. -/
theorem freezePlanRepackAndStop : Obligations.FreezePlanRepackAndStop := by
  intro s src f port
  dsimp only
  refine ⟨fun takes => ⟨fun set clear => ?_, fun set clear => ?_, fun bad => ?_⟩,
    fun b takes band => ⟨fun frozen => ?_, fun thawed busy => ?_, fun thawed idle => ?_⟩, fun takes => ?_⟩
  all_goals refine does_of_handler takes rfl ?_
  · exact freezePlan_eq (frozen := true) port set clear
  · exact freezePlan_eq (frozen := false) port set clear
  · exact freezePlan_badParam bad
  · rw [repack_eq port band, if_pos frozen, refuse]
  · rw [repack_eq port band, if_neg (by simp [thawed]), if_pos busy, refuse]
  · rw [repack_eq port band, if_neg (by simp [thawed]), if_neg (by simp [idle])]
    rfl
  · exact managementRequest_pass port rfl

end Sys2Proof.Proofs
end

section
/-! ## The refusals of MOVE (R82, R88, R137, R139) -/

namespace Sys2Proof.Machine

theorem GrantState.movable_eq_true_iff (x : GrantState) :
    x.movable = true ↔ x = .reserved ∨ x = .live ∨ x = .impaired := by
  cases x <;> decide

section Checks

variable {r : Req} {u : State} {g : Grant} {target : Option Nat}

/-- The target that the placement of a MOVE asks for. -/
theorem moveAsked_auto (h : r.byte 2 = 1) : moveAsked r = some none := by
  simp [moveAsked, h, placementOfCode]

theorem moveAsked_explicit (h : r.byte 2 = 0) (cell : grantable (r.word 3) = true) :
    moveAsked r = some (some (r.word 3)) := by
  simp [moveAsked, h, placementOfCode, cell]

theorem moveAsked_eq_some (h : moveAsked r = some target) :
    (r.byte 2 = 1 ∧ target = none) ∨ (r.byte 2 = 0 ∧ target = some (r.word 3)) := by
  obtain auto | ⟨explicit, cell⟩ := (isSome_moveAsked r).1 (by rw [h]; rfl)
  · exact .inl ⟨auto, (Option.some.inj ((moveAsked_auto auto).symm.trans h)).symm⟩
  · exact .inr ⟨explicit, (Option.some.inj ((moveAsked_explicit explicit cell).symm.trans h)).symm⟩

/-- Step 9 looks at the freeze of the plan, at the grant's region and at those of the target (R88). -/
theorem State.moveFrozen_eq_false_iff (asked : moveAsked r = some target) :
    u.moveFrozen g target = false ↔ NothingFrozen u r g := by
  unfold State.moveFrozen NothingFrozen
  obtain ⟨auto, rfl⟩ | ⟨explicit, rfl⟩ := moveAsked_eq_some asked
  · simp [auto, and_assoc]
  · simp [explicit, and_assoc]

theorem State.moveChecks_badState (still : ¬(g.state = .reserved ∨ g.state = .live ∨ g.state = .impaired)) :
    u.moveChecks r g target = .error .badState := by
  rw [← GrantState.movable_eq_true_iff, Bool.not_eq_true] at still
  exact if_pos still

variable (movable : g.state = .reserved ∨ g.state = .live ∨ g.state = .impaired)
include movable

/-- The steps from 7 on, for a grant in a state that can be moved. -/
theorem State.moveChecks_movable :
    u.moveChecks r g target =
      if g.hold = .pinned then .error .pinned
      else if g.hold = .held ∧ r.port = .tenant then .error .held
      else if u.moveFrozen g target then .error .frozen
      else u.moveTarget g target := by
  rw [← GrantState.movable_eq_true_iff] at movable
  exact if_neg (by simp [movable])

variable (loose : g.hold ≠ .pinned) (unguarded : ¬(g.hold = .held ∧ r.port = .tenant)) (asked : moveAsked r = some target)
include loose unguarded asked

theorem State.moveChecks_frozen (frozen : ¬NothingFrozen u r g) : u.moveChecks r g target = .error .frozen := by
  rw [← State.moveFrozen_eq_false_iff asked, Bool.not_eq_false] at frozen
  rw [State.moveChecks_movable movable, if_neg loose, if_neg unguarded, if_pos frozen]

theorem State.moveChecks_thawed (thawed : NothingFrozen u r g) : u.moveChecks r g target = u.moveTarget g target := by
  rw [← State.moveFrozen_eq_false_iff asked] at thawed
  rw [State.moveChecks_movable movable, if_neg loose, if_neg unguarded, if_neg (by simp [thawed])]

end Checks

/-! ### Steps 12 and 13 -/

section Target

variable {u : State} {g : Grant}

theorem State.moveTarget_region {start : Nat} (outside : u.plan.active.allowsSpan g.band start g.width g.cls = false) :
    u.moveTarget g (some start) = .error .region := if_pos outside

theorem State.moveTarget_placed {start : Nat} (allowed : u.plan.active.allowsSpan g.band start g.width g.cls = true)
    (illegal : (u.moveSite g).test start ≠ .legal) :
    u.moveTarget g (some start) = .error ((u.moveSite g).test start).refusal := by
  unfold State.moveTarget
  dsimp only
  rw [if_neg (by simp [allowed])]
  split
  · rename_i legal
    exact absurd legal illegal
  · rfl

theorem State.moveTarget_narrow (narrow : ∀ x ∈ u.openCandidates g, x.size < g.width) :
    u.moveTarget g none = .error .region := by
  refine if_neg fun wide => ?_
  obtain ⟨x, hx, fits⟩ := List.any_eq_true.1 wide
  exact absurd (narrow x hx) (Nat.not_lt.2 (of_decide_eq_true fits))

theorem State.moveTarget_noSpace (wide : ∃ x ∈ u.openCandidates g, g.width ≤ x.size) (full : u.autoTarget g = none) :
    u.moveTarget g none = .error .noSpace := by
  obtain ⟨x, hx, fits⟩ := wide
  refine (if_pos (List.any_eq_true.2 ⟨x, hx, decide_eq_true fits⟩)).trans ?_
  rw [full]

end Target

/-- A MOVE that one of the steps 6 to 13 refuses. -/
theorem move_refused {r : Req} {u : State} {i : Fin 64} {g : Grant} {target : Option Nat} {c : ResultCode}
    (names : Names r u i g) (may : MayAct r u i) (asked : moveAsked r = some target) (kind : r.byte 5 ≤ 2)
    (refused : u.moveChecks r g target = .error c) : move r u = (u, ⟨c, []⟩) := by
  obtain ⟨k, kinded⟩ := Option.isSome_iff_exists.1 ((isSome_moveKindOfCode _).2 kind)
  simp only [move, asked, kinded, ownHandle_pass names may, refused, refuse]

end Sys2Proof.Machine

namespace Sys2Proof.Proofs
open Sys2Proof.Machine

/-- Settles O46, by the steps of the refusal order. -/
theorem moveRefusals : Obligations.MoveRefusals := by
  intro s src f takes
  dsimp only
  intro i g names may placed kind
  obtain ⟨target, asked⟩ := Option.isSome_iff_exists.1 ((isSome_moveAsked _).2 placed)
  have refuses {c} (h : (s.taken src).moveChecks (requestOf src.port f) g target = .error c) :
      Does .move s src f (s.taken src) c [] := does_of_handler takes rfl (move_refused names may asked kind h)
  refine ⟨fun still => refuses (State.moveChecks_badState still), fun movable pinned => refuses ?_,
    fun movable guarded => refuses ?_, fun movable loose unguarded =>
      ⟨fun frozen => refuses (State.moveChecks_frozen movable loose unguarded asked frozen),
        fun thawed explicit => ?_, fun thawed auto => ?_⟩⟩
  · rw [State.moveChecks_movable movable, if_pos pinned]
  · rw [State.moveChecks_movable movable, if_neg (by simp [guarded.1])]
    exact if_pos guarded
  all_goals have reached := State.moveChecks_thawed movable loose unguarded asked thawed
  · obtain ⟨auto, -⟩ | ⟨-, rfl⟩ := moveAsked_eq_some asked
    · omega
    · refine ⟨fun outside => refuses (reached.trans (State.moveTarget_region outside)), fun allowed => ?_⟩
      have tested {p : Placed} (h : ((s.taken src).moveSite g).test ((requestOf src.port f).word 3) = p)
          (illegal : p ≠ .legal) : Does .move s src f (s.taken src) p.refusal [] := by
        subst h
        exact refuses (reached.trans (State.moveTarget_placed allowed illegal))
      exact ⟨fun h => tested h (by decide), fun h => tested h (by decide), fun h => tested h (by decide)⟩
  · obtain ⟨-, rfl⟩ | ⟨explicit, -⟩ := moveAsked_eq_some asked
    · exact ⟨fun narrow => refuses (reached.trans (State.moveTarget_narrow narrow)),
        fun wide full => refuses (reached.trans (State.moveTarget_noSpace wide full))⟩
    · omega

end Sys2Proof.Proofs
end

section
/-! ## AUTOMATIC_MOVE (R88, R138, R151, R152) -/

namespace Sys2Proof.Machine

/-- The state in which the oldest ask has been taken away. -/
def State.asksLeft (s : State) (rest : List Ask) : State := { s with engine := { s.engine with asks := rest } }

/-- The slots alone decide which one the pool selects (R107). -/
theorem State.fewestFails_congr {s t : State} (h : t.pool = s.pool) (l : List SlotId) :
    t.fewestFails l = s.fewestFails l := by
  induction l with
  | nil => rfl
  | cons j l ih => simp only [State.fewestFails, ih, State.slot_congr h]

theorem State.selectSlot_congr {s t : State} (h : t.pool = s.pool) (b : Band) (reserve : Nat) (leftOut : Option SlotId) :
    t.selectSlot b reserve leftOut = s.selectSlot b reserve leftOut := by
  have idle : t.idleSlots b leftOut = s.idleSlots b leftOut := by simp only [State.idleSlots, State.slot_congr h]
  simp only [State.selectSlot, idle, State.fewestFails_congr h]

section Ask

variable {s : State} {a : Ask} {rest : List Ask}

/-- The slot of a seamless move depends on no ask that is pending. -/
theorem State.seamlessSlot_asksLeft (g : Grant) : (s.asksLeft rest).seamlessSlot g = s.seamlessSlot g := by
  rw [State.seamlessSlot, State.selectSlot_congr (s := s) (t := s.asksLeft rest) rfl]
  rfl

theorem Grant.carries_iff (g : Grant) : g.carries = true ↔ g.state = .live ∨ g.state = .impaired := by
  simp [Grant.carries]

theorem State.askForbidden_eq_false_iff (s : State) (a : Ask) (g : Grant) :
    s.askForbidden a g = false ↔
      a.spanChanged = false ∧ (g.state = .live ∨ g.state = .impaired) ∧ g.hold ≠ .pinned ∧ g.fixed = false ∧
        s.table.planFrozen = false ∧ s.plan.active.frozenAt g.band g.start = false ∧ s.allCandidatesFrozen g = false := by
  simp [State.askForbidden, State.moveFrozen, ← Grant.carries_iff, and_assoc]

/-- What taking an ask does: with its grant gone, or forbidden a move, nothing more than the ask taken (R151). -/
theorem automaticMove_eq (running : s.ports.resetHeld = false) (asks : s.engine.asks = a :: rest) :
    exec .automaticMove s =
      .next
        (match s.grantOf a.handle with
        | none => s.asksLeft rest
        | some g =>
          if s.askForbidden a g then s.asksLeft rest else (s.asksLeft rest).autoMove a.handle.entry g) := by
  have taken : exec .automaticMove s = .next s.takeAsk := congrArg Host.Outcome.next (if_neg (by simp [running]))
  rw [taken, State.takeAsk, asks]
  rfl

end Ask

/-- A grant for which there is no target: the outcome NO_TARGET, and news (R151). -/
theorem State.autoMove_noTarget {u : State} {i : Fin 64} {g : Grant} (hg : u.grant? i = some g)
    (full : u.autoTarget g = none) :
    u.autoMove i g =
      u.setEntry i { u.entry i with lastOutcome := .noTarget, grant := some { g with news := true } } := by
  have held : (u.setOutcome i .noTarget).grant? i = some g := by rw [State.grant_setOutcome, hg]
  rw [State.autoMove, full]
  dsimp only
  rw [State.modGrant_some _ held, State.entry_setOutcome_same]
  simp [State.setOutcome, State.setEntry]

/-- A grant with a target begins its move by the plan of kind ANY (R138, R151). -/
theorem State.autoMove_begins {u : State} {i : Fin 64} {g : Grant} (hg : u.grant? i = some g) {start : Nat}
    (target : u.autoTarget g = some start) {p : MovePlan} (plan : u.anyPlan g = some p)
    (live : (u.slot p.slot).state ≠ .retired) :
    ∃ v, u.autoMove i g = v.refreshFrag g.band ∧
      MoveStarted u v i g
        { target := start, kind := p.kind, origin := .auto, phase := .targetTuning,
          second := if p.kind = .seamless then some p.slot else none } p.slot true := by
  refine ⟨u.beginMove i start p.kind .auto p.slot false, ?_, u.beginMove_spec hg start p.kind .auto live false⟩
  rw [State.autoMove, target]
  dsimp only
  rw [plan]

/-- The slot of a seamless move is IDLE (R107, R138). -/
theorem State.seamlessSlot_idle {u : State} {g : Grant} {j : SlotId} (h : u.seamlessSlot g = some j) :
    (u.slot j).state = .idle := by
  unfold State.seamlessSlot at h
  split at h
  · cases h
  · exact u.selectSlot_idle h

end Sys2Proof.Machine

namespace Sys2Proof.Proofs
open Sys2Proof.Machine

/-- Settles O47, by whether the ask's grant is there, may be moved, and has a target. -/
theorem automaticMoveTakesOldestAsk : Obligations.AutomaticMoveTakesOldestAsk := by
  intro s a rest running asks
  have taken := automaticMove_eq running asks
  dsimp only
  refine ⟨fun gone => ?_, fun g current => ⟨fun forbidden => ?_, fun allowed full => ?_, fun allowed start target => ?_⟩⟩
  · rw [taken, gone]
    rfl
  all_goals
    have hg : (s.asksLeft rest).grant? a.handle.entry = some g := (State.grantOf_some current).1
    rw [taken, current]
    dsimp only
  · rw [← s.askForbidden_eq_false_iff, Bool.not_eq_false] at forbidden
    rw [if_pos forbidden]
    rfl
  all_goals
    rw [← s.askForbidden_eq_false_iff, ← Bool.not_eq_true] at allowed
    rw [if_neg allowed]
  · rw [State.autoMove_noTarget hg full]
    rfl
  · have begins := fun p => State.autoMove_begins (p := p) hg target
    refine ⟨fun j slot => ?_, fun j none own live => ?_⟩
    · have plan : (s.asksLeft rest).anyPlan g = some ⟨.seamless, j⟩ := by
        rw [State.anyPlan, State.seamlessSlot_asksLeft, slot]
      have live : (s.slot j).state ≠ .retired := by
        rw [State.seamlessSlot_idle slot]
        exact SlotState.noConfusion
      obtain ⟨v, eq, started⟩ := begins _ plan live
      exact ⟨v, by rw [eq], started⟩
    · have plan : (s.asksLeft rest).anyPlan g = some ⟨.hard, j⟩ := by
        simp [State.anyPlan, State.seamlessSlot_asksLeft, none, hardPlan, own]
      obtain ⟨v, eq, started⟩ := begins _ plan live
      exact ⟨v, by rw [eq], started⟩

end Sys2Proof.Proofs
end

section
/-! ## The profile requests and the settle timer (R93 to R97) -/

namespace Sys2Proof.Machine

/-! ### The fields of a WRITE_PROFILE (R93) -/

theorem modOrderOfCode_eq_some_iff (n : Nat) (o : ModOrder) : modOrderOfCode n = some o ↔ n = o.code := by
  unfold modOrderOfCode
  split <;> cases o <;> simp_all [ModOrder.code]

theorem classSet_ne_zero {n : Nat} (h : 1 ≤ n) (h' : n ≤ 7) : BitVec.ofNat 3 n ≠ 0#3 := by
  rw [ne_eq, ← BitVec.toNat_inj, BitVec.toNat_ofNat, Nat.mod_eq_of_lt (by omega)]
  exact Nat.ne_of_gt h

theorem writtenProfile_eq {r : Req} {o : ModOrder} (ho : r.byte 1 = o.code) (hx : r.byte 2 = 1 ∨ r.byte 2 = 2)
    (he : r.byte 3 ≤ 4) (hc : 1 ≤ r.byte 4) (hc' : r.byte 4 ≤ 7) :
    writtenProfile r = some (o, r.byte 2, r.byte 3, BitVec.ofNat 3 (r.byte 4)) := by
  have classes : classSetOfCode (r.byte 4) = some (BitVec.ofNat 3 (r.byte 4)) :=
    (classSetOfCode_eq_some_iff ..).2 ⟨Nat.lt_succ_of_le hc', rfl⟩
  simp only [writtenProfile, (modOrderOfCode_eq_some_iff ..).2 ho, classes]
  exact if_pos (by simp [hx, he, classSet_ne_zero hc hc'])

/-! ### The requests, once their fields are read -/

/-- WRITE_PROFILE from management with its fields in range (R94). -/
theorem writeProfile_eq {r : Req} {s : State} {k : Fin 8} {o : ModOrder} {expansion edgeGuard : Nat} {classes : ClassSet}
    (hp : r.port = .management) (hk : r.byte 0 = k.val)
    (written : writtenProfile r = some (o, expansion, edgeGuard, classes)) :
    writeProfile r s =
      if (s.profile k).references ≠ 0 then refuse s .inUse [byte (s.profile k).references]
      else
        answerDone
          (s.setProfile k
            { state := .settling, order := o, expansion, edgeGuard, classes, references := (s.profile k).references,
              settle := some 10, settleDue := false })
          [byte (s.profile k).state.code] := by
  simp only [writeProfile, (indexOf_eq_some_iff ..).2 hk, written, managementRequest_pass hp]
  rfl

/-- CLEAR_PROFILE from management (R96). -/
theorem clearProfile_eq {r : Req} {s : State} {k : Fin 8} (hp : r.port = .management) (hk : r.byte 0 = k.val) :
    clearProfile r s =
      if (s.profile k).references ≠ 0 then refuse s .inUse [byte (s.profile k).references]
      else answerDone (s.setProfile k Profile.cleared) [byte (s.profile k).state.code] := by
  simp only [clearProfile, (indexOf_eq_some_iff ..).2 hk, managementRequest_pass hp]

/-- READ_PROFILE from management (R97). -/
theorem readProfile_eq {r : Req} {s : State} {k : Fin 8} (hp : r.port = .management) (hk : r.byte 0 = k.val) :
    readProfile r s = answerDone s (s.profile k).payload := by
  simp only [readProfile, (indexOf_eq_some_iff ..).2 hk, managementRequest_pass hp]

theorem Profile.payload_undefined {p : Profile} (h : p.state = .undefined) :
    p.payload = [0, 0, 0, 0, 0, byte p.references, byte (p.settle.getD 0)] := by
  simp only [Profile.payload, h, if_true]
  rfl

theorem Profile.payload_defined {p : Profile} (h : p.state ≠ .undefined) :
    p.payload =
      [byte p.state.code, byte p.order.code, byte p.expansion, byte p.edgeGuard, byte p.classes.toNat,
        byte p.references, byte (p.settle.getD 0)] := by
  simp only [Profile.payload, h, if_false]
  rfl

theorem State.whileRunning_eq {s : State} (running : s.ports.resetHeld = false) (run : State) :
    s.whileRunning run = run := by
  simp [State.whileRunning, running]

/-- SETTLE_TIMER_EXPIRY acts on a SETTLING profile only (R95, log entry 7). -/
theorem settleTimerExpiry_eq {s : State} (running : s.ports.resetHeld = false) (k : Fin 8) :
    exec (.settleTimerExpiry k) s =
      .next (if (s.profile k).state = .settling then s.setProfile k (s.profile k).settled else s) :=
  congrArg _ (State.whileRunning_eq running _)

end Sys2Proof.Machine

namespace Sys2Proof.Proofs
open Sys2Proof.Machine

theorem profileRequestsAndSettling : ProfileRequestsAndSettling := by
  refine ⟨fun s src f hp k hk => ⟨fun o takes ho hx he hc hc' => ?_, fun takes => ?_, fun takes => ?_⟩,
    fun s k running => ?_⟩
  · have answer := writeProfile_eq (s := s.taken src) hp hk (writtenProfile_eq ho hx he hc hc')
    refine ⟨fun used => does_of_handler takes rfl (answer.trans (if_pos used)),
      fun unused => does_of_handler takes rfl (answer.trans ?_)⟩
    rw [if_neg (not_not.2 unused), unused]
    rfl
  · have answer := clearProfile_eq (s := s.taken src) hp hk
    refine ⟨fun used => does_of_handler takes rfl (answer.trans (if_pos used)), fun unused => ?_⟩
    exact ⟨Profile.cleared, rfl, rfl, rfl, rfl,
      does_of_handler takes rfl (answer.trans (if_neg (not_not.2 unused)))⟩
  · have read : Does .readProfile s src f (s.taken src) .done ((s.taken src).profile k).payload :=
      does_of_handler takes rfl (readProfile_eq hp hk)
    exact ⟨fun undefined => Profile.payload_undefined undefined ▸ read,
      fun defined => Profile.payload_defined defined ▸ read⟩
  · have expires := settleTimerExpiry_eq running k
    refine ⟨fun settling => ?_, fun other => ?_⟩
    · rw [expires, if_pos settling]
      rfl
    · rw [expires, if_neg other]

/-- Settles O36: each request by the one equation of its handler, the settle expiry by whether the profile is SETTLING. -/
theorem profilesWrittenClearedReadSettled : Obligations.ProfilesWrittenClearedReadSettled :=
  ⟨profileRequestsAndSettling, rfl, rfl⟩

end Sys2Proof.Proofs
end

section
/-! ## The slots by number, READ_SLOT, and the slot the pool selects (R103, R107, R118) -/

namespace Sys2Proof.Machine

/-! ### Slots by band and number (R103) -/

/-- The band and the number of a slot name it. -/
theorem slotOf_slot (j : SlotId) : slotOf (slotBand j) (slotNumber j) = some j := (slotOf_eq_some_iff ..).2 ⟨rfl, rfl⟩

theorem exists_slotOf_iff (b : Band) (n : Nat) :
    (∃ j, slotOf b n = some j) ↔ (b = .up ∧ n < 16) ∨ (b = .down ∧ n < 32) := by
  cases b <;> simp [slotOf]

theorem slotsNumbered : SlotsNumbered := by
  refine ⟨fun b n => ?_, fun j k band number => ?_⟩
  · rw [← exists_slotOf_iff]
    simp only [slotOf_eq_some_iff, eq_comm (a := b), eq_comm (a := n)]
  · have same := slotOf_slot j
    rw [band, number, slotOf_slot] at same
    exact (Option.some.inj same).symm

/-- A band code and a number name a slot (R118). -/
theorem namedSlot_eq_some_iff (m n : Nat) (j : SlotId) :
    (bandOfCode m).bind (slotOf · n) = some j ↔ m = bandCode (slotBand j) ∧ n = slotNumber j := by
  simp [Option.bind_eq_some_iff, bandOfCode_eq_some_iff, slotOf_eq_some_iff]

/-! ### READ_SLOT (R118) -/

theorem holderBytes_eq (p : Option Handle) :
    holderBytes p = [p.elim 255 fun h => byte h.entry.val, p.elim 255 fun h => h.generation] := by
  cases p <;> rfl

section Read

variable {r : Req} (s : State)

theorem readSlot_unnamed (none : ∀ j, ¬(r.byte 0 = bandCode (slotBand j) ∧ r.byte 1 = slotNumber j)) :
    readSlot r s = refuse s .badParam := by
  have unnamed : (bandOfCode (r.byte 0)).bind (slotOf · (r.byte 1)) = Option.none :=
    Option.eq_none_iff_forall_ne_some.2 fun j named => none j ((namedSlot_eq_some_iff ..).1 named)
  rw [readSlot, unnamed]

theorem readSlot_named {j : SlotId} (band : r.byte 0 = bandCode (slotBand j)) (number : r.byte 1 = slotNumber j) :
    readSlot r s = managementRequest r s true (answerDone s (s.slot j).payload) := by
  rw [readSlot, (namedSlot_eq_some_iff ..).2 ⟨band, number⟩]

end Read

/-! ### The slot selected (R107) -/

/-- By fail count, and by number among equals. -/
def State.rank (s : State) (j : SlotId) : ℕ ×ₗ SlotId := toLex ((s.slot j).fails, j)

variable {s : State} {j k : SlotId}

theorem State.rank_le_iff :
    s.rank j ≤ s.rank k ↔ (s.slot j).fails < (s.slot k).fails ∨ ((s.slot j).fails = (s.slot k).fails ∧ j ≤ k) :=
  Prod.Lex.toLex_le_toLex

theorem State.rank_inj (h : s.rank j = s.rank k) : j = k := congrArg (fun x => (ofLex x).2) h

/-- The slot of lowest rank in a list. -/
def State.First (s : State) (slots : List SlotId) (j : SlotId) : Prop := j ∈ slots ∧ ∀ k ∈ slots, s.rank j ≤ s.rank k

theorem State.fewestFails_eq_none_iff {slots : List SlotId} : s.fewestFails slots = none ↔ slots = [] := by
  cases slots with
  | nil => simp [State.fewestFails]
  | cons j rest =>
    simp only [State.fewestFails, reduceCtorEq, iff_false]
    split
    · simp
    · split <;> simp

/-- Of a slot and the first of slots with higher numbers, the one with fewer fails is the first of them all. -/
theorem State.First.cons {rest : List SlotId} (first : s.First rest k) (below : ∀ l ∈ rest, j < l) :
    s.First (j :: rest) (if (s.slot k).fails < (s.slot j).fails then k else j) := by
  obtain ⟨member, least⟩ := first
  split
  · rename_i fewer
    exact ⟨.tail _ member, List.forall_mem_cons.2 ⟨State.rank_le_iff.2 (.inl fewer), least⟩⟩
  · rename_i more
    have ahead : s.rank j ≤ s.rank k := State.rank_le_iff.2 <|
      (not_lt.1 more).lt_or_eq.imp_right fun equal => ⟨equal, (below k member).le⟩
    exact ⟨.head _, List.forall_mem_cons.2 ⟨le_rfl, fun l hl => ahead.trans (least l hl)⟩⟩

theorem State.first_of_fewestFails {slots : List SlotId} (ascending : slots.Pairwise (· < ·)) :
    ∀ {k}, s.fewestFails slots = some k → s.First slots k := by
  induction slots with
  | nil => exact nofun
  | cons j rest ih =>
    intro k found
    obtain ⟨below, ascending⟩ := List.pairwise_cons.1 ascending
    rw [State.fewestFails] at found
    split at found
    · rename_i none
      obtain rfl := State.fewestFails_eq_none_iff.1 none
      obtain rfl := Option.some.inj found
      exact ⟨.head _, by simp⟩
    · rename_i m rested
      rw [← apply_ite some] at found
      obtain rfl := Option.some.inj found
      exact (ih ascending rested).cons below

theorem State.fewestFails_eq_some_iff {slots : List SlotId} (ascending : slots.Pairwise (· < ·)) :
    s.fewestFails slots = some j ↔ s.First slots j := by
  refine ⟨State.first_of_fewestFails ascending, fun first => ?_⟩
  obtain ⟨member, least⟩ := first
  cases found : s.fewestFails slots with
  | none => simp [State.fewestFails_eq_none_iff.1 found] at member
  | some k =>
    obtain ⟨member', least'⟩ := State.first_of_fewestFails ascending found
    rw [State.rank_inj ((least' j member).antisymm (least k member'))]

/-- The IDLE slots of a band, less the one left out, in ascending number. -/
theorem State.idleSlots_eq (s : State) (b : Band) (leftOut : Option SlotId) :
    s.idleSlots b leftOut =
      (List.finRange 48).filter fun j => decide (slotBand j = b ∧ (s.slot j).state = .idle ∧ some j ≠ leftOut) := by
  rw [State.idleSlots, bandSlots, List.filter_filter]
  refine List.filter_congr fun j _ => ?_
  simp only [Bool.decide_and, Bool.and_comm (decide (slotBand j = b))]

theorem slotSelected : SlotSelected := by
  intro s b reserve leftOut idle count
  have slots := s.idleSlots_eq b leftOut
  have ascending : (s.idleSlots b leftOut).Pairwise (· < ·) := by
    rw [slots]
    exact (List.pairwise_lt_finRange 48).filter _
  have length : (s.idleSlots b leftOut).length = count := by rw [slots]
  have member : ∀ j, j ∈ s.idleSlots b leftOut ↔ idle j := fun j => by rw [slots]; simp [idle]
  have selected : s.selectSlot b reserve leftOut =
      if reserve < count then s.fewestFails (s.idleSlots b leftOut) else none := by rw [State.selectSlot, length]
  rw [selected]
  split
  · rename_i enough
    refine ⟨?_, fun j => ?_⟩
    · rw [State.fewestFails_eq_none_iff, ← List.length_eq_zero_iff, length]
      omega
    · rw [State.fewestFails_eq_some_iff ascending]
      simp only [State.First, member, enough, true_and, State.rank_le_iff]
  · rename_i few
    exact ⟨iff_of_true rfl (by omega), fun j => iff_of_false nofun fun ⟨enough, _⟩ => few enough⟩

end Sys2Proof.Machine

namespace Sys2Proof.Proofs
open Sys2Proof.Machine

/-- Settles O37: the two codes name at most one slot, and its record is returned byte by byte. -/
theorem readSlotReturnsRecord : Obligations.ReadSlotReturnsRecord := by
  intro s src f takes u r
  refine ⟨fun none => does_of_handler takes rfl (readSlot_unnamed u none), fun j band number => ?_⟩
  have answer := readSlot_named u band number
  refine ⟨fun tenant => does_of_handler takes rfl (answer.trans (managementRequest_tenant tenant)), fun management =>
    does_of_handler takes rfl ((answer.trans (managementRequest_pass management rfl)).trans ?_)⟩
  rw [Slot.payload, holderBytes_eq]
  cases (u.slot j).state with
  | tuning a =>
    obtain ⟨caller, second, timeout⟩ := a
    cases caller <;> rfl
  | _ => rfl

/-- Settles O38: the search keeps the first of the slots in ascending number, which no other slot precedes. -/
theorem selectionTakesFewestFails : Obligations.SelectionTakesFewestFails := ⟨slotSelected, slotsNumbered⟩

end Sys2Proof.Proofs
end

section
/-! ## Slots that stay lawful and RETIRED (R103, R104, R113): what each operation of the pool does -/

namespace Sys2Proof.Machine

/-- The slots are lawful, and RETIRED where they were so in another state. -/
structure SlotsSafe (old s : State) : Prop where
  lawful : s.SlotsLawful
  retired : ∀ j, (old.slot j).state = .retired → (s.slot j).state = .retired

namespace SlotsSafe

variable {old s t : State} {j : SlotId} (law : SlotsSafe old s)

theorem refl (lawful : s.SlotsLawful) : SlotsSafe s s := ⟨lawful, fun _ => id⟩

include law

/-- A change beside the slots. -/
theorem apart (slots : t.pool.slots = s.pool.slots) : SlotsSafe old t where
  lawful := law.lawful.of_slots slots
  retired k hk := by
    rw [State.slot, slots]
    exact law.retired k hk

/-- A lawful change of one slot that is not RETIRED. -/
theorem changed (free : (s.slot j).state ≠ .retired) (lawful : t.SlotsLawful) (kept : SlotsKept s t [j]) :
    SlotsSafe old t where
  lawful := lawful
  retired k hk := by
    have still := law.retired k hk
    have other : k ∉ [j] := by
      rw [List.mem_singleton]
      rintro rfl
      exact free still
    obtain ⟨same, -⟩ := kept k other
    rwa [same]

theorem setSlot (free : (s.slot j).state ≠ .retired) {x : Slot} (lawful : x.Lawful) : SlotsSafe old (s.setSlot j x) where
  lawful := law.lawful.setSlot lawful
  retired k hk := by
    have still := law.retired k hk
    rw [State.slot_setSlot_ne]
    · exact still
    · rintro rfl
      exact free still

theorem haltSlot (j : SlotId) : SlotsSafe old (s.haltSlot j) := by
  by_cases retired : (s.slot j).state = .retired
  · rwa [State.haltSlot_retired s retired]
  · obtain ⟨-, kept⟩ := s.haltSlot_spec retired
    exact law.changed retired (law.lawful.haltSlot j) kept

theorem haltPart (p : Option SlotId) : SlotsSafe old (s.haltPart p) := by
  cases p with
  | none => exact law
  | some j => exact law.haltSlot j

omit law in
theorem haltSlots (l : List SlotId) : ∀ {s : State}, SlotsSafe old s → SlotsSafe old (s.haltSlots l) := by
  induction l with
  | nil => exact id
  | cons j l ih => exact fun law => ih (law.haltSlot j)

theorem rampSlot (j : SlotId) (n : Nat) : SlotsSafe old (s.rampSlot j n) := by
  by_cases retired : (s.slot j).state = .retired
  · rwa [State.rampSlot, if_pos retired]
  · obtain ⟨-, kept⟩ := s.rampSlot_spec n retired
    exact law.changed retired (law.lawful.rampSlot j n) kept

theorem beginAttempt (j : SlotId) (i : Fin 64) (c : Caller) (second : Bool) (start : Nat) :
    SlotsSafe old (s.beginAttempt j i c second start) := by
  have lawful := law.lawful.beginAttempt j i c second start
  cases hg : s.grant? i with
  | none => simpa only [State.beginAttempt, hg] using law
  | some g =>
    by_cases retired : (s.slot j).state = .retired
    · simpa only [State.beginAttempt, hg, if_pos retired] using law
    · obtain ⟨-, kept⟩ := s.beginAttempt_spec hg retired c second start
      exact law.changed retired lawful kept

theorem failSlot (free : (s.slot j).state ≠ .retired) : SlotsSafe old (s.failSlot j) := by
  obtain ⟨-, kept⟩ := s.failSlot_spec j
  exact law.changed free (law.lawful.failSlot free) kept

theorem failTest (free : (s.slot j).state ≠ .retired) : SlotsSafe old (s.failTest j) := by
  obtain ⟨-, kept⟩ := s.retireSlot_spec j 3
  exact law.changed free (law.lawful.retireSlot j) kept

theorem lockSlot (free : (s.slot j).state ≠ .retired) : SlotsSafe old (s.lockSlot j) :=
  law.setSlot free ⟨by simp, by simp, by simp⟩

/-- A CARRYING slot has fewer than three fails, so that a loss makes at most three. -/
theorem countLoss (carrying : (s.slot j).state = .carrying) : SlotsSafe old (s.countLoss j) := by
  have free : (s.slot j).state ≠ .retired := by simp [carrying]
  have lawful := law.lawful.countLoss carrying
  by_cases few : (s.slot j).fails < 2
  · rw [State.countLoss_few few] at lawful ⊢
    have written := lawful j
    rw [State.slot_setSlot_same] at written
    exact law.setSlot free written
  · rw [State.countLoss_many (not_lt.1 few)] at lawful ⊢
    obtain ⟨-, kept⟩ := s.retireSlot_spec j ((s.slot j).fails + 1)
    exact law.changed free lawful kept

end SlotsSafe

/-- A millisecond changes the lock timeout of a slot only. -/
theorem Slot.tick_spec (x : Slot) :
    (x.tick.state = .retired ↔ x.state = .retired) ∧ (x.tick.state = .idle ↔ x.state = .idle) ∧
      x.tick.fails = x.fails ∧ x.tick.holder = x.holder := by
  unfold Slot.tick
  split
  · rename_i tuning
    simp [tuning]
  · simp

theorem SlotsSafe.tick {old s : State} (law : SlotsSafe old s) : SlotsSafe old s.tick where
  lawful j := by
    rw [s.slot_tick]
    obtain ⟨retired, idle, fails, holder⟩ := (s.slot j).tick_spec
    obtain ⟨bounded, three, free⟩ := law.lawful j
    exact ⟨fails ▸ bounded, by rw [retired, fails, three], by rwa [retired, idle, holder]⟩
  retired j hj := by
    obtain ⟨retired, -⟩ := (s.slot j).tick_spec
    rw [s.slot_tick, retired]
    exact law.retired j hj

end Sys2Proof.Machine
end

section
/-! ## Moves, repacks and grants given up keep the slots lawful and RETIRED (R57 to R66, R140 to R161) -/

namespace Sys2Proof.Machine

namespace SlotsSafe

variable {old s : State} (law : SlotsSafe old s)
include law

/-! ### Moves and repack (R140, R141, R150, R154 to R161) -/

theorem modGrant (i : Fin 64) (f : Grant → Grant) : SlotsSafe old (s.modGrant i f) := law.apart (by simp)

theorem setOutcome (i : Fin 64) (o : LastOutcome) : SlotsSafe old (s.setOutcome i o) := law.apart rfl

theorem recount (i : Fin 64) : SlotsSafe old (s.recount i) := law.apart (by simp)

theorem noteFrag (b : Band) : SlotsSafe old (s.noteFrag b) := law.apart (by simp)

theorem endRepack (r : EndReason) : SlotsSafe old (s.endRepack r) := law.apart (by simp)

theorem beginMove (i : Fin 64) (target : Nat) (kind : MoveKind) (origin : MoveOrigin) (j : SlotId) (byTenant : Bool) :
    SlotsSafe old (s.beginMove i target kind origin j byTenant) :=
  ((law.modGrant i _).beginAttempt j i .moveTarget false target).recount i

omit law in
theorem repackSteps (b : Band) (n : Nat) :
    ∀ {s : State}, SlotsSafe old s → SlotsSafe old (State.repackSteps b n s) := by
  induction n with
  | zero => exact fun law => law.endRepack _
  | succ n ih =>
    intro s law
    unfold State.repackSteps
    split
    · exact law.endRepack _
    · split
      · exact law.endRepack _
      · split
        · exact ih (law.apart (by simp))
        · split
          · exact law.endRepack _
          · exact (law.beginMove ..).noteFrag b

theorem continueRepack : SlotsSafe old s.continueRepack := by
  unfold State.continueRepack
  split
  · exact law
  · exact repackSteps _ _ law

theorem startRepack (b : Band) : SlotsSafe old (s.startRepack b) := continueRepack (law.apart (by simp))

theorem refreshFrag (b : Band) : SlotsSafe old (s.refreshFrag b) := by
  unfold State.refreshFrag
  dsimp only
  split
  · exact (law.noteFrag b).startRepack b
  · exact law.noteFrag b

theorem repackAfter (o : MoveOrigin) (how : MoveEnd) : SlotsSafe old (s.repackAfter o how) := by
  unfold State.repackAfter
  split
  · cases how with
    | onTarget => exact continueRepack (law.apart (by simp))
    | failed => exact law.endRepack _
    | left => exact law.continueRepack
  · exact law

theorem abandonMove (i : Fin 64) : SlotsSafe old (s.abandonMove i) := by
  unfold State.abandonMove
  split
  · exact law
  · split
    · exact law
    · rename_i g _ _ m _
      refine SlotsSafe.noteFrag (SlotsSafe.setOutcome ?_ i _) _
      split
      · exact (law.haltPart m.second).apart (by simp)
      · exact (law.haltPart g.slot).apart (by simp)

theorem stopRepack : SlotsSafe old s.stopRepack := by
  unfold State.stopRepack
  split
  · refine SlotsSafe.endRepack ?_ _
    split
    · exact law
    · exact law.abandonMove _
  · exact law

/-! ### Grants given up (R57 to R66) -/

theorem haltedQuiet (i : Fin 64) (p : Option SlotId) : SlotsSafe old ((s.haltPart p).enterQuiet i) :=
  (law.haltPart p).apart (by simp)

theorem takeOffAir (i : Fin 64) (p : Option SlotId) (c : Cls) (cut : Bool) : SlotsSafe old (s.takeOffAir i p c cut) := by
  have drained := law.modGrant i Grant.drained
  unfold State.takeOffAir
  split
  · exact law.haltedQuiet i p
  · unfold State.enterDraining
    cases p with
    | none => exact drained
    | some j => exact drained.rampSlot j _

theorem leaveSeamless (i : Fin 64) (p : Option SlotId) : SlotsSafe old (s.leaveSeamless i p) :=
  (law.haltPart p).apart (by simp [State.leaveSeamless])

theorem giveUp (i : Fin 64) (g : Grant) (cut : Bool) : SlotsSafe old (s.giveUp i g cut) := by
  unfold State.giveUp
  split
  · exact law.apart (by simp)
  · exact law.haltedQuiet i _
  · exact law.takeOffAir ..
  · exact law.takeOffAir ..
  · split
    · exact law
    · split
      · exact (law.leaveSeamless i _).takeOffAir ..
      · exact law.haltedQuiet i _
  · split
    · exact law.haltedQuiet i _
    · exact law
  · exact law

theorem endGrant (i : Fin 64) (o : LastOutcome) (byTenant cut : Bool) : SlotsSafe old (s.endGrant i o byTenant cut) := by
  unfold State.endGrant
  split
  · exact law
  · rename_i g _
    have noted := (law.setOutcome i o).modGrant i (·.withNews byTenant)
    have given := (noted.giveUp i g cut).apart (noteLoad_pool_slots s _)
    dsimp only
    split
    · split
      · exact given.refreshFrag _
      · exact given
    · split
      · exact (given.refreshFrag _).repackAfter ..
      · exact given.repackAfter ..

theorem endDrain (i : Fin 64) (g : Grant) : SlotsSafe old (s.endDrain i g) := by
  have quiet := ((law.modGrant i fun g => { g with news := true }).haltedQuiet i g.slot).apart (noteLoad_pool_slots s _)
  unfold State.endDrain
  dsimp only
  split
  · exact quiet.refreshFrag _
  · exact quiet

theorem freeByTimer (i : Fin 64) (g : Grant) : SlotsSafe old (s.freeByTimer i g) :=
  refreshFrag (law.apart (by simp)) _

end SlotsSafe

end Sys2Proof.Machine
end

section
/-! ## The outcomes of tunings keep the slots lawful and RETIRED (R54, R55, R68, R69, R110 to R114, R143 to R148) -/

namespace Sys2Proof.Machine

namespace SlotsSafe

variable {old s : State} {j : SlotId} (law : SlotsSafe old s)
include law

/-! ### Tunings that end -/

theorem arrive (i : Fin 64) (j : SlotId) : SlotsSafe old (s.arrive i j) := by
  cases hg : s.grant? i with
  | none => simpa only [State.arrive, hg] using law
  | some g =>
    cases hm : g.move with
    | none => simpa only [State.arrive, hg, hm] using law
    | some m =>
      have left : SlotsSafe old (s.ownSlotLeft g m) := by
        unfold State.ownSlotLeft
        split
        · exact law.haltPart _
        · exact law
      have landed : SlotsSafe old (noteLoad s (s.arrivedOn i g m j)) :=
        left.apart (by rw [noteLoad_pool_slots, State.arrivedOn_pool])
      rw [State.arrive_eq hg hm]
      exact (landed.refreshFrag _).repackAfter ..

theorem stayBehind (i : Fin 64) (p : Option SlotId) : SlotsSafe old (s.stayBehind i p) := by
  unfold State.stayBehind
  split
  · exact law
  · split
    · exact law
    · exact (refreshFrag (law.apart (by simp)) _).repackAfter ..

theorem fallbackFails (i : Fin 64) : SlotsSafe old (s.fallbackFails i) := by
  unfold State.fallbackFails
  split
  · exact law
  · split
    · exact law
    · exact (refreshFrag (law.apart (by simp)) _).repackAfter ..

theorem attempt (j : SlotId) (i : Fin 64) (c : Caller) (second : Bool) (start : Nat) :
    SlotsSafe old ((s.beginAttempt j i c second start).modGrant i (·.pointTo c j)) :=
  (law.beginAttempt ..).modGrant i _

theorem beginFallback (i : Fin 64) (g : Grant) (m : MoveContext) : SlotsSafe old (s.beginFallback i g m) := by
  have falls := law.modGrant i fun g => { g with move := some { m with phase := .fallbackTuning } }
  unfold State.beginFallback
  dsimp only
  split
  · exact falls.fallbackFails i
  · exact falls.attempt ..

theorem tuningFails (i : Fin 64) (c : Caller) : SlotsSafe old (s.tuningFails i c) := by
  unfold State.tuningFails
  split
  · exact law
  · cases c with
    | activation => exact law.apart (by simp)
    | relock => exact law.apart (by simp)
    | moveTarget =>
      dsimp only
      split
      · exact law
      · split
        · exact law.stayBehind i _
        · exact law.beginFallback ..
    | fallback => exact law.fallbackFails i
    | test => exact law

theorem tuningSucceeds (i : Fin 64) (c : Caller) (j : SlotId) : SlotsSafe old (s.tuningSucceeds i c j) := by
  cases c with
  | activation => exact law.apart (by simp [State.tuningSucceeds])
  | relock => exact law.apart (by simp [State.tuningSucceeds])
  | moveTarget => exact law.arrive i j
  | fallback => exact law.stayBehind i _
  | test => exact law

theorem seekRetry (i : Fin 64) (c : Caller) (j : SlotId) : SlotsSafe old (s.seekRetry i c j) := by
  unfold State.seekRetry
  split
  · exact law
  · split
    · exact law.tuningFails i c
    · exact law.attempt ..

/-- An attempt that fails on a slot that is not RETIRED. -/
theorem attemptFails (free : (s.slot j).state ≠ .retired) (a : Attempt) : SlotsSafe old (s.attemptFails j a) := by
  have failed := law.failSlot free
  unfold State.attemptFails
  split
  · exact (law.failTest free).apart (by simp)
  · split
    · exact failed
    · split
      · exact failed
      · split
        · split
          · exact failed.tuningFails ..
          · exact failed.seekRetry ..
        · exact failed

/-- An attempt that succeeds on a slot that is not RETIRED clears its fail count. -/
theorem attemptLocks (free : (s.slot j).state ≠ .retired) (a : Attempt) : SlotsSafe old (s.attemptLocks j a) := by
  have locked := law.lockSlot free
  unfold State.attemptLocks
  split
  · have idle : ({ state := .idle, fails := 0, holder := none } : Slot).Lawful := ⟨by simp, by simp, by simp⟩
    exact (law.setSlot free idle).apart (by simp)
  · split
    · exact locked
    · split
      · exact locked
      · split
        · exact locked.tuningSucceeds ..
        · exact locked

/-! ### Losses of lock (R68, R114, R145) -/

theorem lockLoss (carrying : (s.slot j).state = .carrying) (i : Fin 64) (g : Grant) :
    SlotsSafe old (s.lockLoss j i g) := by
  have lost : SlotsSafe old (s.lockLost j i) := (law.countLoss carrying).apart (by rw [State.lockLost_pool])
  rw [State.lockLoss_eq]
  split
  · exact lost.seekRetry ..
  · exact lost.beginAttempt ..

theorem seamlessLoss (free : (s.slot j).state ≠ .retired) (i : Fin 64) (m : MoveContext) :
    SlotsSafe old (s.seamlessLoss j i m) :=
  (law.failSlot free).apart (by simp [State.seamlessLoss])

theorem lossOfLock (carrying : (s.slot j).state = .carrying) : SlotsSafe old (s.lossOfLock j) := by
  have counted := law.countLoss carrying
  unfold State.lossOfLock
  split
  · exact counted
  · split
    · exact counted
    · split
      · exact law.lockLoss carrying ..
      · split
        · exact counted
        · split
          · exact law.seamlessLoss (by simp [carrying]) ..
          · exact counted

/-! ### Reports on the carrier link (R106) -/

theorem lockedOn (j : SlotId) : SlotsSafe old (s.lockedOn j) := by
  unfold State.lockedOn
  split
  · rename_i tuning
    exact law.attemptLocks (by simp [tuning]) _
  all_goals exact law

theorem failedOn (j : SlotId) : SlotsSafe old (s.failedOn j) := by
  unfold State.failedOn
  split
  · rename_i tuning
    exact law.attemptFails (by simp [tuning]) _
  all_goals exact law

theorem lostOn (j : SlotId) : SlotsSafe old (s.lostOn j) := by
  unfold State.lostOn
  split
  · rename_i tuning
    exact law.attemptFails (by simp [tuning]) _
  · rename_i carrying
    exact law.lossOfLock carrying
  all_goals exact law

end SlotsSafe

end Sys2Proof.Machine
end

section
/-! ## The requests that leave every slot as it is -/

namespace Sys2Proof.Machine

/-- Every slot is as it was; messages may have been sent. -/
def SlotsUntouched (s t : State) : Prop := t.pool.slots = s.pool.slots

theorem SlotsUntouched.of_eq {s t : State} (h : t = s) : SlotsUntouched s t := by rw [h, SlotsUntouched]

/-- The LEVEL messages of a change of levels leave the slots as they are (R128). -/
@[simp] theorem applyLevels_pool_slots (s t : State) : (applyLevels s t).pool.slots = t.pool.slots := by
  rw [applyLevels]

namespace SlotsUntouched

variable (r : Req) (s : State)

theorem refl : SlotsUntouched s s := rfl

theorem modGrant (i : Fin 64) (f : Grant → Grant) : SlotsUntouched s (s.modGrant i f) := by simp [SlotsUntouched]

/-! ### The plan store, the profiles (R5 to R14, R93 to R96) -/

theorem stageRegion : SlotsUntouched s (Machine.stageRegion r s).1 := by
  unfold Machine.stageRegion
  split
  · refine managementRequest_keeps (refl s) ?_
    split <;> exact refl s
  · exact refl s

theorem freezeRegion : SlotsUntouched s (Machine.freezeRegion r s).1 := by
  unfold Machine.freezeRegion
  split
  · exact managementRequest_keeps (refl s) rfl
  · exact refl s

theorem setGuard : SlotsUntouched s (Machine.setGuard r s).1 := by
  refine managementRequest_keeps (refl s) ?_
  split <;> exact refl s

theorem setTenant : SlotsUntouched s (Machine.setTenant r s).1 := by
  unfold Machine.setTenant
  split
  · refine managementRequest_keeps (refl s) ?_
    split <;> exact refl s
  · exact refl s

theorem writeProfile : SlotsUntouched s (Machine.writeProfile r s).1 := by
  unfold Machine.writeProfile
  split
  · refine managementRequest_keeps (refl s) ?_
    split <;> exact refl s
  · exact refl s

theorem clearProfile : SlotsUntouched s (Machine.clearProfile r s).1 := by
  unfold Machine.clearProfile
  split
  · exact refl s
  · refine managementRequest_keeps (refl s) ?_
    split <;> exact refl s

/-! ### Grants read, renewed and protected (R39, R56, R78 to R80, R188) -/

theorem lookup : SlotsUntouched s (Machine.lookup r s).1 :=
  ownHandle_keeps (refl s) fun i _ _ => by
    unfold answerDone
    dsimp only
    split
    · exact modGrant s i _
    · exact refl s

theorem clearNews (l : List (Fin 64)) : ∀ s : State, SlotsUntouched s (s.clearNews l) := by
  induction l with
  | nil => exact refl
  | cons i l ih => exact fun s => (ih _).trans (modGrant s i _)

theorem readNews : SlotsUntouched s (Machine.readNews r s).1 := by
  unfold Machine.readNews
  split
  · exact refl s
  · exact enabledTenant_keeps (refl s) (clearNews _ s)

theorem renew : SlotsUntouched s (Machine.renew r s).1 :=
  ownHandle_keeps (refl s) fun i _ _ => by
    split
    · exact refl s
    · split
      · exact refl s
      · exact modGrant s i _

theorem hold : SlotsUntouched s (Machine.hold r s).1 :=
  managementHandle_keeps (refl s) fun i _ _ => by
    split
    · exact refl s
    · exact modGrant s i _

theorem unhold : SlotsUntouched s (Machine.unhold r s).1 :=
  managementHandle_keeps (refl s) fun i _ _ => by
    split
    · exact refl s
    · exact modGrant s i _

theorem pin : SlotsUntouched s (Machine.pin r s).1 :=
  managementHandle_keeps (refl s) fun i _ _ => by
    split
    · exact refl s
    · split
      · exact refl s
      · exact modGrant s i _

/-! ### Levels and budgets (R127 to R131) -/

theorem relevel (i : Fin 64) (g : Grant) (f : Grant → Grant) : SlotsUntouched s (s.relevel i g f).1 := by
  unfold State.relevel
  dsimp only
  split
  · exact refl s
  · simp [SlotsUntouched, answerDone]

theorem setLevel : SlotsUntouched s (Machine.setLevel r s).1 :=
  ownHandle_keeps (refl s) fun i g _ => by
    split
    · exact refl s
    · exact relevel s i g _

theorem assignGroup : SlotsUntouched s (Machine.assignGroup r s).1 := by
  unfold Machine.assignGroup
  split
  · exact refl s
  · exact managementHandle_keeps (refl s) fun i g _ => relevel s i g _

theorem setGroup : SlotsUntouched s (Machine.setGroup r s).1 := by
  unfold Machine.setGroup
  split
  · exact refl s
  · refine managementRequest_keeps (refl s) ?_
    dsimp only
    split
    · exact refl s
    · simp [SlotsUntouched, answerDone]

theorem setBudget : SlotsUntouched s (Machine.setBudget r s).1 := by
  unfold Machine.setBudget
  split
  · exact refl s
  · refine managementRequest_keeps (refl s) ?_
    unfold answerDone
    split
    · exact refl s
    · dsimp only
      split <;> simp [SlotsUntouched]

/-! ### The monitor (R166 to R171) -/

theorem setWatch : SlotsUntouched s (Machine.setWatch r s).1 := by
  unfold Machine.setWatch
  split
  · exact refl s
  · split
    · exact refl s
    · refine managementRequest_keeps (refl s) ?_
      split
      · exact refl s
      · split
        · exact refl s
        · simp [SlotsUntouched, answerDone]

theorem clearWatch : SlotsUntouched s (Machine.clearWatch r s).1 := by
  unfold Machine.clearWatch
  split
  · exact refl s
  · refine managementRequest_keeps (refl s) ?_
    split
    · exact refl s
    · simp [SlotsUntouched, answerDone]

theorem setSweep : SlotsUntouched s (Machine.setSweep r s).1 := by
  unfold Machine.setSweep
  split
  · exact refl s
  · exact managementRequest_keeps (refl s) (by simp [SlotsUntouched, answerDone])

theorem sweep : SlotsUntouched s (Machine.sweep r s).1 := by
  refine managementRequest_keeps (refl s) ?_
  split
  · exact refl s
  · simp [SlotsUntouched, answerAccepted]

end SlotsUntouched

end Sys2Proof.Machine
end

section
/-! ## Every event keeps the slots lawful, and a RETIRED slot RETIRED but for the release of RESET_N (R103, R104, R113) -/

namespace Sys2Proof.Machine

namespace SlotsSafe

section Handlers

variable {old s : State} (law : SlotsSafe old s) (r : Req)
include law

theorem done (payload : List Byte) : SlotsSafe old (answerDone s payload).1 := law

theorem accepted (payload : List Byte) : SlotsSafe old (answerAccepted s payload).1 := law

/-! ### The requests that reach a slot -/

theorem switchStart (before : Settings) (b : Band) : SlotsSafe old (s.switchStart before b) := by
  unfold State.switchStart
  split
  · exact law.startRepack b
  · exact law

theorem setPlanSettings : SlotsSafe old (Machine.setPlanSettings r s).1 := by
  unfold Machine.setPlanSettings
  split
  · exact law
  · rename_i x _
    have written : SlotsSafe old (s.withPlan { s.plan with settings := x }) := law.apart rfl
    exact managementRequest_keeps law ((written.switchStart _ .up).switchStart _ .down)

theorem makeGrant (w : Wish) (i : Fin 64) (start : Nat) : SlotsSafe old (s.makeGrant r w i start) := by
  have added : SlotsSafe old (s.grantAdded r w i start) := law.apart (by simp [State.grantAdded])
  rw [State.makeGrant_eq]
  exact added.refreshFrag _

theorem reserve : SlotsSafe old (Machine.reserve r s).1 := by
  unfold Machine.reserve
  split
  · exact law
  · split
    · split
      · exact law
      · refine enabledTenant_keeps law ?_
        split
        · exact law
        · exact law.makeGrant r ..
    · exact law

theorem activate : SlotsSafe old (Machine.activate r s).1 :=
  ownHandle_keeps law fun i g _ => by
    split
    · exact law
    · exact ((law.modGrant i _).recount i).beginAttempt _ i .activation false g.start

theorem endedReply (i : Fin 64) (o : LastOutcome) (byTenant cut : Bool) :
    SlotsSafe old ((s.endGrant i o byTenant cut).endedReply i).1 := by
  rw [State.endedReply_fst]
  exact law.endGrant ..

theorem withdraw : SlotsSafe old (Machine.withdraw r s).1 :=
  ownHandle_keeps law fun i _ _ => by
    split
    · exact law
    · split
      · exact law
      · split
        · exact law
        · exact law.endedReply ..

theorem revoke : SlotsSafe old (Machine.revoke r s).1 := by
  unfold Machine.revoke
  split
  · exact law
  · refine managementHandle_keeps law fun i _ _ => ?_
    split
    · exact law
    · split
      · exact law
      · exact law.endedReply ..

theorem freezePlan : SlotsSafe old (Machine.freezePlan r s).1 := by
  have frozen : ∀ b, SlotsSafe old (s.setPlanFrozen b) := fun _ => law.apart rfl
  unfold Machine.freezePlan
  split
  · exact law
  · refine managementRequest_keeps law ?_
    unfold answerDone
    dsimp only
    split
    · exact (frozen true).stopRepack
    · exact frozen false

theorem carryOutMove (i : Fin 64) (g : Grant) (start : Nat) (kind : Option MoveKind) :
    SlotsSafe old (s.carryOutMove r i g start kind).1 := by
  have moved : SlotsSafe old (s.moveReserved i start r.byTenant) := law.apart (by simp)
  unfold State.carryOutMove
  split
  · exact (moved.refreshFrag _).done _
  · split
    · exact law
    · exact ((law.beginMove ..).refreshFrag _).accepted _

theorem move : SlotsSafe old (Machine.move r s).1 := by
  unfold Machine.move
  split
  · refine ownHandle_keeps law fun i g _ => ?_
    split
    · exact law
    · exact law.carryOutMove r ..
  · exact law

theorem repack : SlotsSafe old (Machine.repack r s).1 := by
  unfold Machine.repack
  split
  · exact law
  · refine managementRequest_keeps law ?_
    split
    · exact law
    · split
      · exact law
      · exact law.startRepack _

theorem stopRepackRequest : SlotsSafe old (Machine.stopRepack r s).1 := managementRequest_keeps law law.stopRepack

theorem takeAsk : SlotsSafe old s.takeAsk := by
  unfold State.takeAsk
  split
  · exact law
  · rename_i rest _
    have taken : SlotsSafe old (s.asksLeft rest) := law.apart rfl
    dsimp only
    split
    · exact taken
    · split
      · exact taken
      · unfold State.autoMove
        split
        · exact (taken.setOutcome ..).modGrant ..
        · split
          · exact taken
          · exact (taken.beginMove ..).refreshFrag _

/-! ### RESTART (R45, R119) -/

theorem restartEntry (i : Fin 64) : SlotsSafe old (s.restartEntry i) := by
  rcases s.restartEntry_cases i with ⟨-, eq⟩ | ⟨g, -, -, eq⟩ | ⟨g, -, -, eq⟩
  · rwa [eq]
  · rw [eq]
    exact law.modGrant i _
  · rw [eq]
    exact (haltSlots (slotsOf g) law).apart (by simp [State.readyToFree])

omit law in
theorem restartEntries (l : List (Fin 64)) :
    ∀ {s : State}, SlotsSafe old s → SlotsSafe old (s.restartEntries l) := by
  induction l with
  | nil => exact id
  | cons i l ih => exact fun law => ih (law.restartEntry i)

theorem warmRestart : SlotsSafe old s.warmRestart.1 := by
  have engine : SlotsSafe old s.restartEngine := law.apart rfl
  have freed : SlotsSafe old s.grantsRestarted := restartEntries entryNumbers engine
  obtain ⟨-, pool, -⟩ := s.restarted_noteLoad
  rw [State.warmRestart_eq]
  exact freed.apart (by simp [pool])

theorem restart : SlotsSafe old (Machine.restart r s).1 :=
  managementRequest_keeps law (law.warmRestart.done _)

end Handlers

/-! ### Frames taken, expiries, the passing of time -/

section Events

variable {old s : State} (law : SlotsSafe old s)
include law

theorem taken (src : Source) : SlotsSafe old (s.taken src) := by
  cases src with
  | priority => exact stopRepack (law.apart rfl)
  | queue p => exact law.apart (by simp [State.taken, State.removeFrame])

theorem serve {row : Instr} {handler : Handler} (h : ∀ r u, SlotsSafe old u → SlotsSafe old (handler r u).1) :
    SlotsSafe old (s.serve row handler) :=
  State.serve_keeps law law.taken h fun _ _ _ placed => placed.apart (by simp)

/-- A request row whose handler leaves every slot as it is. -/
theorem serveUntouched {row : Instr} {handler : Handler} (h : ∀ r u, SlotsUntouched u (handler r u).1) :
    SlotsSafe old (s.serve row handler) :=
  law.serve fun r u safe => safe.apart (h r u)

theorem portsOnly {t : State} (h : PortsOnly s t) : SlotsSafe old t := law.apart (by rw [h])

theorem holdExpiry (i : Fin 64) :
    SlotsSafe old (s.onGrant i fun g => if g.holdRuns then (s.setOutcome i .lapsed).freeByTimer i g else s) :=
  State.onGrant_keeps law fun g _ => by
    split
    · exact (law.setOutcome i .lapsed).freeByTimer i g
    · exact law

theorem leaseExpiry (i : Fin 64) :
    SlotsSafe old
      (s.onGrant i fun g => if g.leaseRuns then (s.endGrant i .expired false false).raise .leaseExpired else s) :=
  State.onGrant_keeps law fun g _ => by
    split
    · exact (law.endGrant i .expired false false).apart rfl
    · exact law

theorem drainExpiry (i : Fin 64) :
    SlotsSafe old (s.onGrant i fun g => if g.state = .draining then s.endDrain i g else s) :=
  State.onGrant_keeps law fun g _ => by
    split
    · exact law.endDrain i g
    · exact law

theorem quietExpiry (i : Fin 64) :
    SlotsSafe old (s.onGrant i fun g => if g.state = .quiet then s.freeByTimer i g else s) :=
  State.onGrant_keeps law fun g _ => by
    split
    · exact law.freeByTimer i g
    · exact law

theorem settleExpiry (k : Fin 8) :
    SlotsSafe old
      (s.whileRunning (if (s.profile k).state = .settling then s.setProfile k (s.profile k).settled else s)) := by
  refine State.whileRunning_keeps law ?_
  split
  · exact law.apart rfl
  · exact law

theorem whileRunning {run : State} (slots : run.pool.slots = s.pool.slots) : SlotsSafe old (s.whileRunning run) :=
  State.whileRunning_keeps law (law.apart slots)

theorem idle : SlotsSafe old s.idle := by
  unfold State.idle
  split
  · exact law.apart rfl
  · split
    · exact law
    · exact law.tick

end Events

end SlotsSafe

/-- Every command but the release of RESET_N keeps the slots lawful and the RETIRED ones RETIRED. -/
theorem exec_slotsSafe {c : Instr} (reset : c ≠ .resetNRelease) {old s : State} (law : SlotsSafe old s) :
    ∃ t, exec c s = .next t ∧ SlotsSafe old t := by
  cases c with
  | writeRequest p part => exact ⟨_, rfl, law.portsOnly (.write s p false part)⟩
  | writeRequestPriority p part => exact ⟨_, rfl, law.portsOnly (.write s p true part)⟩
  | readResponse p part => exact ⟨_, rfl, law.portsOnly (.read (.readOldest p) s part)⟩
  | readStatus p part => exact ⟨_, rfl, law.portsOnly (.read (.readCounts p) s part)⟩
  | otherCommandByte p command part =>
    refine ⟨_, rfl, ?_⟩
    split
    · exact law.portsOnly (.read (fun _ t => .setPort t p _) s part)
    · exact law
  | badRequestFrame => exact ⟨_, rfl, law.serveUntouched fun _ u => .refl u⟩
  | notReadyAnswer => exact ⟨_, rfl, law.serveUntouched fun _ u => .refl u⟩
  | stageRegion => exact ⟨_, rfl, law.serveUntouched .stageRegion⟩
  | discardStaged => exact ⟨_, rfl, law.serveUntouched fun _ u => managementRequest_keeps (.refl u) rfl⟩
  | freezeRegion => exact ⟨_, rfl, law.serveUntouched .freezeRegion⟩
  | readRegion => exact ⟨_, rfl, law.serveUntouched fun r u => .of_eq (readRegion_fst r u)⟩
  | setGuard => exact ⟨_, rfl, law.serveUntouched .setGuard⟩
  | setTenant => exact ⟨_, rfl, law.serveUntouched .setTenant⟩
  | readTenant => exact ⟨_, rfl, law.serveUntouched fun r u => .of_eq (readTenant_fst r u)⟩
  | setPlanSettings => exact ⟨_, rfl, law.serve fun r _ h => h.setPlanSettings r⟩
  | readSettings => exact ⟨_, rfl, law.serveUntouched fun _ u => managementRequest_keeps (.refl u) rfl⟩
  | reserve => exact ⟨_, rfl, law.serve fun r _ h => h.reserve r⟩
  | lookup => exact ⟨_, rfl, law.serveUntouched .lookup⟩
  | find => exact ⟨_, rfl, law.serveUntouched fun r u => .of_eq (find_fst r u)⟩
  | listOwn => exact ⟨_, rfl, law.serveUntouched fun r u => .of_eq (listOwn_fst r u)⟩
  | listBand => exact ⟨_, rfl, law.serveUntouched fun r u => .of_eq (listBand_fst r u)⟩
  | activate => exact ⟨_, rfl, law.serve fun r _ h => h.activate r⟩
  | renew => exact ⟨_, rfl, law.serveUntouched .renew⟩
  | withdraw => exact ⟨_, rfl, law.serve fun r _ h => h.withdraw r⟩
  | revoke => exact ⟨_, rfl, law.serve fun r _ h => h.revoke r⟩
  | hold => exact ⟨_, rfl, law.serveUntouched .hold⟩
  | unhold => exact ⟨_, rfl, law.serveUntouched .unhold⟩
  | pin => exact ⟨_, rfl, law.serveUntouched .pin⟩
  | freezePlan => exact ⟨_, rfl, law.serve fun r _ h => h.freezePlan r⟩
  | writeProfile => exact ⟨_, rfl, law.serveUntouched .writeProfile⟩
  | clearProfile => exact ⟨_, rfl, law.serveUntouched .clearProfile⟩
  | readProfile => exact ⟨_, rfl, law.serveUntouched fun r u => .of_eq (readProfile_fst r u)⟩
  | readSlot => exact ⟨_, rfl, law.serveUntouched fun r u => .of_eq (readSlot_fst r u)⟩
  | setLevel => exact ⟨_, rfl, law.serveUntouched .setLevel⟩
  | assignGroup => exact ⟨_, rfl, law.serveUntouched .assignGroup⟩
  | setGroup => exact ⟨_, rfl, law.serveUntouched .setGroup⟩
  | setBudget => exact ⟨_, rfl, law.serveUntouched .setBudget⟩
  | readLevels => exact ⟨_, rfl, law.serveUntouched fun _ u => managementRequest_keeps (.refl u) rfl⟩
  | move => exact ⟨_, rfl, law.serve fun r _ h => h.move r⟩
  | repack => exact ⟨_, rfl, law.serve fun r _ h => h.repack r⟩
  | stopRepack => exact ⟨_, rfl, law.serve fun r _ h => h.stopRepackRequest r⟩
  | setWatch => exact ⟨_, rfl, law.serveUntouched .setWatch⟩
  | clearWatch => exact ⟨_, rfl, law.serveUntouched .clearWatch⟩
  | readWatch => exact ⟨_, rfl, law.serveUntouched fun r u => .of_eq (readWatch_fst r u)⟩
  | setSweep => exact ⟨_, rfl, law.serveUntouched .setSweep⟩
  | sweep => exact ⟨_, rfl, law.serveUntouched .sweep⟩
  | readResults => exact ⟨_, rfl, law.serveUntouched fun _ u => managementRequest_keeps (.refl u) rfl⟩
  | readHits => exact ⟨_, rfl, law.serveUntouched fun _ u => managementRequest_keeps (.refl u) rfl⟩
  | clearHits => exact ⟨_, rfl, law.serveUntouched fun _ u => managementRequest_keeps (.refl u) rfl⟩
  | readEvents => exact ⟨_, rfl, law.serveUntouched fun _ u => managementRequest_keeps (.refl u) rfl⟩
  | setEventMask => exact ⟨_, rfl, law.serveUntouched fun _ u => managementRequest_keeps (.refl u) rfl⟩
  | readNews => exact ⟨_, rfl, law.serveUntouched .readNews⟩
  | status => exact ⟨_, rfl, law.serveUntouched fun _ u => enabledTenant_keeps (.refl u) rfl⟩
  | restart => exact ⟨_, rfl, law.serve fun r _ h => h.restart r⟩
  | holdTimerExpiry i => exact ⟨_, rfl, law.holdExpiry i⟩
  | leaseExpiry i => exact ⟨_, rfl, law.leaseExpiry i⟩
  | drainTimerExpiry i => exact ⟨_, rfl, law.drainExpiry i⟩
  | quietTimerExpiry i => exact ⟨_, rfl, law.quietExpiry i⟩
  | lockTimeout b n => exact ⟨_, rfl, State.onSlot_keeps law law.failedOn⟩
  | settleTimerExpiry k => exact ⟨_, rfl, law.settleExpiry k⟩
  | periodTimerExpiry => exact ⟨_, rfl, law.whileRunning (by simp)⟩
  | senseTimeout => exact ⟨_, rfl, law.whileRunning (by simp)⟩
  | pilotReading p => exact ⟨_, rfl, law.whileRunning (by simp)⟩
  | locked b n => exact ⟨_, rfl, State.onSlot_keeps law law.lockedOn⟩
  | failed b n => exact ⟨_, rfl, State.onSlot_keeps law law.failedOn⟩
  | lost b n => exact ⟨_, rfl, State.onSlot_keeps law law.lostOn⟩
  | reading tag value => exact ⟨_, rfl, law.whileRunning (by simp)⟩
  | automaticMove =>
    refine ⟨_, rfl, ?_⟩
    split
    · exact law
    · exact law.takeAsk
  | coldReset => exact ⟨_, rfl, law.apart rfl⟩
  | resetNRelease => exact absurd rfl reset

/-- The slots are lawful after the release of RESET_N. -/
theorem exec_resetNRelease_slotsLawful {s : State} (law : s.SlotsLawful) :
    ∃ t, exec .resetNRelease s = .next t ∧ t.SlotsLawful := by
  refine ⟨_, rfl, ?_⟩
  split
  · exact State.slotsLawful_reset.of_slots rfl
  · exact law

theorem step_slotsSafe {s t : State} (law : s.SlotsLawful) (h : step s = .next t)
    (reset : s.pending.head? ≠ some .resetNRelease) : SlotsSafe s t := by
  have safe := SlotsSafe.refl law
  unfold step at h
  split at h
  · cases h
    exact safe.idle
  · rename_i c rest front
    have taken : SlotsSafe s ({ s with pending := rest } : State) := safe.apart rfl
    obtain ⟨u, hu, kept⟩ := exec_slotsSafe (c := c) (fun eq => reset (by rw [front, eq]; rfl)) taken
    rw [hu] at h
    cases h
    exact kept

theorem step_resetNRelease_slotsLawful {s t : State} (law : s.SlotsLawful) (h : step s = .next t)
    (reset : s.pending.head? = some .resetNRelease) : t.SlotsLawful := by
  obtain ⟨rest, front⟩ := List.head?_eq_some_iff.1 reset
  obtain ⟨u, hu, lawful⟩ := exec_resetNRelease_slotsLawful (s := { s with pending := rest }) (law.of_slots rfl)
  rw [step, front] at h
  obtain rfl := Host.Outcome.next.inj (hu.symm.trans h)
  exact lawful

end Sys2Proof.Machine

namespace Sys2Proof.Proofs
open Sys2Proof.Machine

/-- Settles O54: a slot is written by the operations of the pool only; each leaves a RETIRED slot alone and counts a fail on
a slot that has fewer than three, and only the release of RESET_N writes the slots afresh. -/
theorem slotsStayLawfulAndRetired : Obligations.SlotsStayLawfulAndRetired := by
  intro s t law h
  by_cases reset : s.pending.head? = some .resetNRelease
  · exact ⟨step_resetNRelease_slotsLawful law h reset, fun other => absurd reset other⟩
  · obtain ⟨lawful, retired⟩ := step_slotsSafe law h reset
    exact ⟨lawful, fun _ => retired⟩

end Sys2Proof.Proofs
end

section
/-! ## Effective levels, weights, and the loads they make (R121 to R125, R133) -/

namespace Sys2Proof.Machine

/-! ### Effective levels and weights (R121, R122) -/

/-- A lowered level is at most the level. -/
theorem ratioLevel_le (level trim : Byte) : ratioLevel level trim ≤ level.toNat := Nat.sub_le ..

theorem GroupRecord.apply_le (r : GroupRecord) (level : Byte) : r.apply level ≤ level.toNat := by
  unfold GroupRecord.apply
  split
  · exact ratioLevel_le ..
  · exact Nat.min_le_left ..

/-- No group raises a level. -/
theorem LevelUnit.effective_le (u : LevelUnit) (g : Grant) : u.effective g ≤ g.level.toNat := by
  unfold LevelUnit.effective
  split
  · exact Nat.le_refl _
  · exact GroupRecord.apply_le ..
  · exact GroupRecord.apply_le ..
  · exact GroupRecord.apply_le ..
  · exact ratioLevel_le ..

theorem one_le_weight (e : Nat) : 1 ≤ weight e := Nat.le_add_right 1 _

theorem weight_le_four {e : Nat} (h : e ≤ 255) : weight e ≤ 4 := by
  unfold weight
  omega

/-- Two groups with one record set the same level. -/
theorem GroupRecord.apply_of_mode (r : GroupRecord) (level : Byte) :
    (r.mode = .ratio → r.apply level = level.toNat - (255 - r.trim.toNat)) ∧
      (r.mode = .cap → r.apply level = min level.toNat r.trim.toNat) := by
  refine ⟨fun h => ?_, fun h => ?_⟩ <;> rw [GroupRecord.apply, h]
  rfl

/-! ### Sums over the grants of a band (R123, R133) -/

/-- What an entry adds to a sum over the grants of a band. -/
def shareOf (b : Band) (f : Grant → Nat) (x : Option Grant) : Nat := x.elim 0 fun g => if g.band = b then f g else 0

theorem sumOver_eq (s : State) (b : Band) (f : Grant → Nat) :
    sumOver s b f = (entryNumbers.map fun i => shareOf b f (s.grant? i)).sum := rfl

theorem State.bandLoad_eq (s : State) (b : Band) : s.bandLoad b = sumOver s b (·.counted) := by
  unfold State.bandLoad sumOver
  refine congrArg List.sum (List.map_congr_left fun i _ => ?_)
  cases s.grant? i <;> rfl

theorem State.loadAt_eq (s : State) (t : Byte) (b : Band) : s.loadAt t b = sumOver s b (loadAtTrim t) := by
  unfold State.loadAt sumOver
  refine congrArg List.sum (List.map_congr_left fun i _ => ?_)
  cases s.grant? i <;> rfl

/-- Both bands fit at a trim when neither exceeds its budget there. -/
theorem State.fitsAt_iff (s : State) (t : Byte) :
    s.fitsAt t = true ↔ ∀ b, sumOver s b (loadAtTrim t) ≤ s.budget b := by
  simp only [State.fitsAt, Bool.and_eq_true, decide_eq_true_eq, State.loadAt_eq]
  exact ⟨fun ⟨up, down⟩ b => by cases b with | up => exact up | down => exact down, fun h => ⟨h .up, h .down⟩⟩

theorem State.loadWith_eq (s : State) (b b' : Band) (extra : Nat) :
    s.loadWith b extra b' = if b' = b then s.bandLoad b' + extra else s.bandLoad b' := by
  by_cases h : b' = b <;> simp [State.loadWith, h]

theorem GrantState.follows_iff (x : GrantState) :
    x.follows = true ↔ x = .tuning ∨ x = .live ∨ x = .impaired ∨ x = .moving := by
  cases x <;> simp [GrantState.follows]

theorem Grant.copies_eq (g : Grant) :
    g.copies = if (g.move.any fun m => m.kind = .seamless) = true then 2 else 1 := by
  unfold Grant.copies
  cases g.move with
  | none => rfl
  | some m => simp

end Sys2Proof.Machine

namespace Sys2Proof.Proofs
open Sys2Proof.Machine

theorem levelsAndWeights : LevelsAndWeights := by
  refine ⟨fun _ => rfl, fun u g => ?_⟩
  have record : ∀ x : GroupRecord, u.effective g = x.apply g.level →
      (x.mode = .ratio → u.effective g = g.level.toNat - (255 - x.trim.toNat)) ∧
        (x.mode = .cap → u.effective g = min g.level.toNat x.trim.toNat) := by
    intro x h
    rw [h]
    exact x.apply_of_mode g.level
  have top : u.effective g ≤ 255 := (u.effective_le g).trans (Nat.le_of_lt_succ g.level.isLt)
  refine ⟨fun h => ?_, fun h => record u.g1 ?_, fun h => record u.g2 ?_, fun h => record u.g3 ?_, fun h => ?_, top,
    one_le_weight _, weight_le_four top⟩ <;> rw [LevelUnit.effective, h]
  rfl

theorem loadsCounted : LoadsCounted := fun s =>
  ⟨fun b => s.bandLoad_eq b, fun b b' extra => s.loadWith_eq b b' extra, GrantState.follows_iff, Grant.copies_eq, s.fitsAt_iff⟩

/-- Settles O41, by the cases of group and mode, and by the sums that the loads are. -/
theorem effectiveLevelAndWeight : Obligations.EffectiveLevelAndWeight := ⟨levelsAndWeights, loadsCounted⟩

end Sys2Proof.Proofs
end


section
/-! ## The pilot trim and its clamp (R126, R133, R134) -/

namespace Sys2Proof.Machine

/-! ### The trim found for the last reading -/

theorem byte_toNat (x : Byte) : byte x.toNat = x := by simp [byte]

/-- The trim that is found for the last reading (R133). -/
def State.trimFound (s : State) : Byte := byte (s.searchTrim s.levels.pilot.reading.toNat)

/-- The level unit when that trim has been applied and the clamped flag set by it. -/
def State.trimmed (s : State) : LevelUnit :=
  { s.levels with
    pilot :=
      { reading := s.levels.pilot.reading, applied := s.trimFound
        clamped := decide (s.trimFound < s.levels.pilot.reading) } }

theorem State.trimFound_toNat (s : State) : s.trimFound.toNat = s.searchTrim s.levels.pilot.reading.toNat := by
  obtain ⟨le, -⟩ := s.searchTrim_spec s.levels.pilot.reading.toNat
  exact (BitVec.toNat_ofNat ..).trans (Nat.mod_eq_of_lt (le.trans_lt s.levels.pilot.reading.isLt))

/-- The trim found is the largest up to the reading that fits, or 0 (R133). -/
theorem State.trimFound_spec (s : State) :
    s.trimFound ≤ s.levels.pilot.reading ∧ (s.trimFound = 0 ∨ s.fitsAt s.trimFound = true) ∧
      ∀ x : Byte, s.trimFound < x → x ≤ s.levels.pilot.reading → s.fitsAt x = false := by
  obtain ⟨le, fits, larger⟩ := s.searchTrim_spec s.levels.pilot.reading.toNat
  refine ⟨?_, fits.imp_left fun zero => by rw [State.trimFound, zero]; rfl, fun x above upTo => ?_⟩
  · rw [BitVec.le_def, s.trimFound_toNat]
    exact le
  · rw [BitVec.lt_def, s.trimFound_toNat] at above
    have unfit := larger x.toNat above (BitVec.le_def.1 upTo)
    rwa [byte_toNat] at unfit

/-- Setting the clamped flag changes no level: the trim is applied and the flag set as one change of levels. -/
theorem State.trackPilot_eq (s : State) : s.trackPilot = applyLevels s { s with levels := s.trimmed } := by
  have flag : decide (s.searchTrim s.levels.pilot.reading.toNat < s.levels.pilot.reading.toNat) =
      decide (s.trimFound < s.levels.pilot.reading) := by
    rw [decide_eq_decide, BitVec.lt_def, s.trimFound_toNat]
  rw [State.trackPilot, State.trimmed, ← flag]
  rfl

/-- A change of the level unit alone is carried out with all that follows from it. -/
theorem applyLevels_unit_releveled (u : State) (levels : LevelUnit) :
    Releveled u levels (fun _ g => g) (applyLevels u { u with levels }) :=
  applyLevels_releveled u { u with levels } (fun _ g => g)
    (fun i => by
      rw [Option.map_id']
      rfl)
    rfl ⟨rfl, rfl, rfl, rfl, rfl, rfl, rfl⟩

theorem State.trackPilot_releveled (s : State) : Releveled s s.trimmed (fun _ g => g) s.trackPilot := by
  rw [s.trackPilot_eq]
  exact applyLevels_unit_releveled s s.trimmed

/-! ### Load decreases (R126) -/

theorem lowersLoad_iff (old new : State) : lowersLoad old new = true ↔ ∃ b, new.bandLoad b < old.bandLoad b := by
  simp only [lowersLoad, Bool.or_eq_true, decide_eq_true_eq]
  exact ⟨fun h => h.elim (⟨.up, ·⟩) (⟨.down, ·⟩), fun ⟨b, h⟩ => by cases b with | up => exact .inl h | down => exact .inr h⟩

theorem noteLoad_of_lowers {old new : State} (h : ∃ b, new.bandLoad b < old.bandLoad b) :
    noteLoad old new = new.loadDecreased := if_pos ((lowersLoad_iff old new).2 h)

theorem noteLoad_of_not_lowers {old new : State} (h : ∀ b, old.bandLoad b ≤ new.bandLoad b) :
    noteLoad old new = new :=
  if_neg fun lowers => by
    obtain ⟨b, less⟩ := (lowersLoad_iff old new).1 lowers
    exact Nat.not_lt.2 (h b) less

/-! ### A pilot reading (R133) -/

section Sample

variable {s : State} (running : s.ports.resetHeld = false) (p : Byte)
include running

theorem pilotReading_eq :
    exec (.pilotReading p) s =
      .next ((s.setReading p).trackPilot.raiseIf (s.setReading p).trackPilot.levels.pilot.clamped .pilotClamp) :=
  congrArg _ (State.whileRunning_eq running _)

theorem pilotReading_unclamped (clear : (s.setReading p).trackPilot.levels.pilot.clamped = false) :
    exec (.pilotReading p) s = .next (s.setReading p).trackPilot := by
  rw [pilotReading_eq running, clear]
  rfl

theorem pilotReading_clamped (clamped : (s.setReading p).trackPilot.levels.pilot.clamped = true) :
    exec (.pilotReading p) s = .next ((s.setReading p).trackPilot.raise .pilotClamp) := by
  rw [pilotReading_eq running, clamped]
  rfl

end Sample

end Sys2Proof.Machine

namespace Sys2Proof.Proofs
open Sys2Proof.Machine

/-- Settles O44: the trim by the search that finds it, the rest by what a change of the level unit does. -/
theorem pilotTrimIsLargestThatFits : Obligations.PilotTrimIsLargestThatFits := by
  refine ⟨fun s => ?_, fun s p running => ⟨pilotReading_unclamped running p, pilotReading_clamped running p⟩,
    fun _ => rfl, fun old new => ⟨noteLoad_of_lowers, noteLoad_of_not_lowers⟩⟩
  obtain ⟨upTo, fits, larger⟩ := s.trimFound_spec
  exact ⟨s.trimFound, upTo, fits, larger, s.trackPilot_releveled⟩

end Sys2Proof.Proofs
end


section
/-! ## The level requests (R126 to R132) -/

namespace Sys2Proof.Machine

/-! ### A change of one grant's level or group (R127, R129) -/

/-- The change of one grant's record with what follows from it for its counted load and its slots (R121, R123, R128). -/
def State.releveled (s : State) (i : Fin 64) (f : Grant → Grant) : State := applyLevels s (s.modGrant i f)

theorem State.entry_modGrant_map (s : State) (i k : Fin 64) (f : Grant → Grant) :
    (s.modGrant i f).entry k =
      { s.entry k with grant := (s.grant? k).map fun x => if k = i then f x else x } := by
  by_cases hk : k = i
  · subst hk
    cases hg : s.grant? k with
    | none =>
      rw [show s.modGrant k f = s by rw [State.modGrant, hg], Option.map_none, ← hg]
      rfl
    | some g => simp [State.entry_modGrant_same s hg]
  · rw [State.entry_modGrant_ne s hk]
    simp only [if_neg hk, Option.map_id']
    rfl

theorem State.releveled_spec (s : State) (i : Fin 64) (f : Grant → Grant) :
    Releveled s s.levels (fun k x => if k = i then f x else x) (s.releveled i f) := by
  have change := applyLevels_releveled s (s.modGrant i f) (fun k x => if k = i then f x else x)
    (fun k => s.entry_modGrant_map i k f) (by simp) (by simp)
  rwa [State.modGrant_levels] at change

section Change

variable {s : State} {i : Fin 64} {g : Grant} {f : Grant → Grant}

/-- A change that does not fit is refused BUDGET (R125, R127). -/
theorem State.relevel_refused {payload : List Byte} (follows : g.state.follows = true)
    (exceeds : BudgetRefusal s (s.releveled i f).bandLoad payload) : s.relevel i g f = (s, ⟨.budget, payload⟩) := by
  have refused : s.overBudget (applyLevels s (s.modGrant i f)).bandLoad = some payload := State.overBudget_some exceeds
  unfold State.relevel
  dsimp only
  rw [if_pos follows, refused]
  rfl

/-- A change that draws no load, or fits, is made, and a load decrease noted (R126, R127). -/
theorem State.relevel_made (fits : g.state.follows = false ∨ WithinBudget s (s.releveled i f).bandLoad) :
    s.relevel i g f =
      (noteLoad s (s.releveled i f), ⟨.done, (noteLoad s (s.releveled i f)).levelPayload i g.band⟩) := by
  have passed : (if g.state.follows then s.overBudget (applyLevels s (s.modGrant i f)).bandLoad else none) = none := by
    rcases fits with still | within
    · rw [still]
      rfl
    · exact (ite_congr rfl (fun _ => (s.overBudget_none_iff _).2 within) fun _ => rfl).trans (ite_self _)
  unfold State.relevel
  dsimp only
  rw [passed]
  rfl

/-- A request for a change either leaves the state as it is or makes the change, which then fits. -/
theorem State.relevel_cases (s : State) (i : Fin 64) (g : Grant) (f : Grant → Grant) :
    (s.relevel i g f).1 = s ∨
      (g.state.follows = false ∨ WithinBudget s (s.releveled i f).bandLoad) ∧
        (s.relevel i g f).1 = noteLoad s (s.releveled i f) := by
  by_cases fits : g.state.follows = false ∨ WithinBudget s (s.releveled i f).bandLoad
  · exact .inr ⟨fits, by rw [State.relevel_made fits]⟩
  · obtain ⟨follows, exceeds⟩ := not_or.1 fits
    cases checked : s.overBudget (applyLevels s (s.modGrant i f)).bandLoad with
    | none => exact absurd ((s.overBudget_none_iff _).1 checked) exceeds
    | some payload =>
      refine .inl ?_
      unfold State.relevel
      dsimp only
      rw [if_pos (by simpa using follows), checked]
      rfl

/-- The entry still holds its grant when the load has been noted. -/
theorem State.releveled_noted (hg : s.grant? i = some g) (f : Grant → Grant) :
    ∃ g', (noteLoad s (s.releveled i f)).grant? i = some g' := by
  obtain ⟨n, noted⟩ := noteLoad_sameButLoads s (s.releveled i f) i
  have held := (s.releveled_spec i f).grants i g hg
  rw [State.grant?, noted, State.grant?, held]
  exact ⟨_, rfl⟩

end Change

theorem State.levelPayload_eq {s : State} {i : Fin 64} {g : Grant} (hg : s.grant? i = some g) (b : Band) :
    s.levelPayload i b = [byte (s.levels.effective g), byte (s.bandLoad b / 256), byte (s.bandLoad b)] := by
  rw [State.levelPayload, State.effectiveOf, hg]
  rfl

/-! ### SET_GROUP (R130) -/

theorem groupModeOfCode_eq (mode : GroupMode) : groupModeOfCode (if mode = .ratio then 0 else 1) = some mode := by
  cases mode <;> rfl

/-- The level unit with the record of G1, G2 or G3 replaced, by the group's code 1, 2 or 3. -/
def LevelUnit.grouped (u : LevelUnit) (n : Nat) (x : GroupRecord) : LevelUnit :=
  if n = 1 then { u with g1 := x } else if n = 2 then { u with g2 := x } else { u with g3 := x }

theorem LevelUnit.withGroup_eq (u : LevelUnit) {n : Nat} (h : 1 ≤ n) (h' : n ≤ 3) (x : GroupRecord) :
    u.withGroup n x = some (u.grouped n x) := by
  match n, h, h' with
  | 1, _, _ | 2, _, _ | 3, _, _ => rfl

theorem State.groupUnit_eq {s : State} {r : Req} {mode : GroupMode} (low : 1 ≤ r.byte 0) (high : r.byte 0 ≤ 3)
    (code : r.byte 2 = if mode = .ratio then 0 else 1) :
    s.groupUnit r = some (s.levels.grouped (r.byte 0) { trim := r.params.getD 1 0, mode }) := by
  rw [State.groupUnit, code, groupModeOfCode_eq]
  exact s.levels.withGroup_eq low high _

section Group

variable {r : Req} {s : State} {levels : LevelUnit} (port : r.port = .management) (asked : s.groupUnit r = some levels)
include port asked

theorem setGroup_refused {payload : List Byte}
    (exceeds : BudgetRefusal s (applyLevels s { s with levels }).bandLoad payload) :
    setGroup r s = (s, ⟨.budget, payload⟩) := by
  unfold setGroup
  rw [asked]
  dsimp only
  rw [managementRequest_pass port rfl, State.overBudget_some exceeds]
  rfl

theorem setGroup_made (within : WithinBudget s (applyLevels s { s with levels }).bandLoad) :
    setGroup r s =
      answerDone (noteLoad s (applyLevels s { s with levels }))
        (be16 ((noteLoad s (applyLevels s { s with levels })).bandLoad .up) ++
          be16 ((noteLoad s (applyLevels s { s with levels })).bandLoad .down)) := by
  unfold setGroup
  rw [asked]
  dsimp only
  rw [managementRequest_pass port rfl, (s.overBudget_none_iff _).2 within]

end Group

/-! ### SET_BUDGET and READ_LEVELS (R131, R132) -/

/-- SET_BUDGET from management with its band read. -/
theorem setBudget_eq {r : Req} {s : State} {b : Band} (port : r.port = .management) (band : r.byte 0 = bandCode b) :
    setBudget r s =
      if r.word 1 < s.bandLoad b then
        refuse s .budget (byte (bandCode b) :: (be16 (s.bandLoad b) ++ be16 (r.word 1)))
      else
        answerDone
          (if s.budget b < r.word 1 then (s.setBudget b (r.word 1)).loadDecreased else s.setBudget b (r.word 1)) := by
  simp only [setBudget, (bandOfCode_eq_some_iff ..).2 band, managementRequest_pass port]

theorem GroupMode.byte_code (mode : GroupMode) : byte mode.code = if mode = .ratio then 0 else 1 := by
  cases mode <;> rfl

/-- READ_LEVELS from management. -/
theorem readLevels_eq {r : Req} {s : State} (port : r.port = .management) :
    readLevels r s = answerDone s s.levelsPayload := managementRequest_pass port rfl

end Sys2Proof.Machine

namespace Sys2Proof.Proofs
open Sys2Proof.Machine

/-- What a request of a row does that asks a new level or group for the grant of an entry (R127, R129). -/
def ChangeAnswered (row : Instr) (s : State) (src : Source) (f : Frame) (i : Fin 64) (g : Grant)
    (ask : Grant → Grant) : Prop :=
  let u := s.taken src
  ∃ v, Releveled u u.levels (fun k x => if k = i then ask x else x) v ∧
    (∀ payload, g.state.follows = true → BudgetRefusal u v.bandLoad payload → Does row s src f u .budget payload) ∧
    (g.state.follows = false ∨ WithinBudget u v.bandLoad →
      let t := noteLoad u v
      ∃ g', t.grant? i = some g' ∧
        Does row s src f t .done
          [byte (t.levels.effective g'), byte (t.bandLoad g.band / 256), byte (t.bandLoad g.band)])

theorem changeAnswered {row : Instr} {s : State} {src : Source} {f : Frame} {handler : Handler} {i : Fin 64} {g : Grant}
    {ask : Grant → Grant} (takes : Takes s src f row) (rowed : exec row s = .next (s.serve row handler))
    (hg : (s.taken src).grant? i = some g)
    (handled : handler (requestOf src.port f) (s.taken src) = (s.taken src).relevel i g ask) :
    ChangeAnswered row s src f i g ask := by
  refine ⟨(s.taken src).releveled i ask, (s.taken src).releveled_spec i ask, fun payload follows exceeds => ?_,
    fun fits => ?_⟩
  · exact does_of_handler takes rowed (handled.trans (State.relevel_refused follows exceeds))
  · obtain ⟨g', hg'⟩ := State.releveled_noted hg ask
    refine ⟨g', hg', does_of_handler takes rowed (handled.trans ?_)⟩
    rw [State.relevel_made fits, State.levelPayload_eq hg']

/-- Settles O42: one grant's change and a group's change by what a change of levels does, each refused or made by the budget
check. -/
theorem levelChangesCheckedAndMade : Obligations.LevelChangesCheckedAndMade := by
  intro s src f
  dsimp only
  refine ⟨fun i g takes names may => ⟨fun pinned tenant => ?_, fun free => ?_⟩, fun i g group takes port names code => ?_,
    fun mode takes port low high code => ?_⟩
  · exact does_of_handler takes rfl ((ownHandle_pass names may rfl).trans (if_pos ⟨pinned, tenant⟩))
  · refine changeAnswered (handler := setLevel) takes rfl names.grant ((ownHandle_pass names may rfl).trans (if_neg ?_))
    rintro ⟨pinned, tenant⟩
    rcases free with unpinned | management
    · exact unpinned pinned
    · rw [requestOf_port, management] at tenant
      cases tenant
  · refine changeAnswered (handler := assignGroup) takes rfl names.grant ?_
    rw [assignGroup, (groupOfCode_eq_some_iff ..).2 code]
    exact managementHandle_pass names port rfl
  · have asked := State.groupUnit_eq (s := s.taken src) low high code
    exact ⟨_, applyLevels_unit_releveled _ _,
      fun payload exceeds => does_of_handler takes rfl (setGroup_refused port asked exceeds),
      fun within => does_of_handler takes rfl (setGroup_made port asked within)⟩

/-- Settles O43, by the one equation of each handler. -/
theorem budgetSetAndLevelsRead : Obligations.BudgetSetAndLevelsRead := by
  intro s src f port
  dsimp only
  refine ⟨fun b takes band => ?_, fun takes => ?_⟩
  · have answer := setBudget_eq (s := s.taken src) port band
    refine ⟨fun low => ?_, fun fits small => ?_, fun fits raised => ?_⟩
    · exact does_of_handler takes rfl (answer.trans (if_pos low))
    · rw [if_neg (Nat.not_lt.2 fits), if_neg (Nat.not_lt.2 small)] at answer
      exact does_of_handler takes rfl answer
    · rw [if_neg (Nat.not_lt.2 fits), if_pos raised] at answer
      exact does_of_handler takes rfl answer
  · have read : Does .readLevels s src f (s.taken src) .done (s.taken src).levelsPayload :=
      does_of_handler takes rfl (readLevels_eq port)
    simp only [State.levelsPayload, GroupRecord.bytes, GroupMode.byte_code] at read
    exact read

end Sys2Proof.Proofs
end


section
/-! ## The law of loads by its parts (R123, R124, R133), and the changes of one entry that keep it -/

namespace Sys2Proof.Machine

/-! ### The law of one grant's load, and of the pilot record -/

/-- The counted load of a grant is as its state and its effective level ask (R123). -/
structure Grant.LoadLawful (u : LevelUnit) (g : Grant) : Prop where
  follows : g.state.follows = true → g.counted = u.loadOf g
  silent : g.state = .reserved ∨ g.state = .quiet → g.counted = 0

/-- The applied trim is at most the last reading, and the clamped flag set exactly below it (R120, R133). -/
structure PilotRecord.Lawful (p : PilotRecord) : Prop where
  applied : p.applied ≤ p.reading
  clamped : p.clamped = true ↔ p.applied < p.reading

/-- Every grant's load is lawful and every band within its budget (R123, R124). -/
structure State.WellLoaded (s : State) : Prop where
  grants : ∀ i g, s.grant? i = some g → g.LoadLawful s.levels
  budget : ∀ b, s.bandLoad b ≤ s.budget b

theorem State.loadsLawful_iff (s : State) : s.LoadsLawful ↔ s.WellLoaded ∧ s.levels.pilot.Lawful :=
  ⟨fun h =>
    ⟨⟨fun i g hg => ⟨h.follows i g hg, h.silent i g hg⟩, h.budget⟩, ⟨h.applied, h.clamped⟩⟩,
    fun ⟨loads, pilot⟩ =>
      ⟨fun i g hg => (loads.grants i g hg).follows, fun i g hg => (loads.grants i g hg).silent, loads.budget,
        pilot.applied, pilot.clamped⟩⟩

theorem State.LoadsLawful.loaded {s : State} (law : s.LoadsLawful) : s.WellLoaded := (s.loadsLawful_iff.1 law).1

theorem State.LoadsLawful.grant {s : State} (law : s.LoadsLawful) {i : Fin 64} {g : Grant} (hg : s.grant? i = some g) :
    g.LoadLawful s.levels := law.loaded.grants i g hg

/-! ### The loads of one grant -/

theorem Grant.one_le_copies (g : Grant) : 1 ≤ g.copies := by
  rw [Grant.copies_eq]
  split <;> decide

/-- A lawful load that follows the level is at least the load of one copy. -/
theorem Grant.LoadLawful.single_le {u : LevelUnit} {g : Grant} (law : g.LoadLawful u) (follows : g.state.follows = true) :
    g.width * weight (u.effective g) ≤ g.counted := by
  rw [law.follows follows]
  exact Nat.le_mul_of_pos_left _ g.one_le_copies

/-- A state in which the load follows the level is none of those without a load. -/
theorem GrantState.loud_of_follows {x : GrantState} (follows : x.follows = true) : ¬(x = .reserved ∨ x = .quiet) := by
  rintro (rfl | rfl)
  · cases follows
  · cases follows

/-- A grant that carries follows its level. -/
theorem GrantState.follows_of_carrying {x : GrantState} (carries : x = .live ∨ x = .impaired) : x.follows = true := by
  rcases carries with rfl | rfl
  · rfl
  · rfl

/-- A recounted load is lawful. -/
theorem LevelUnit.recount_lawful (u : LevelUnit) (g : Grant) : (u.recount g).LoadLawful u := by
  have state : (u.recount g).state = g.state := by
    obtain ⟨_, eq⟩ := u.recount_eq g
    rw [eq]
  refine ⟨fun follows => ?_, fun silent => ?_⟩
  · rw [state] at follows
    rw [u.recount_follows follows]
    rfl
  · rw [state] at silent
    rcases silent with reserved | quiet
    · simp only [LevelUnit.recount, reserved]
    · simp only [LevelUnit.recount, quiet]

/-- The record of a grant that goes on carrying on one slot: it draws the load of one copy. -/
structure Grant.CarriesSingly (u : LevelUnit) (g g' : Grant) : Prop where
  follows : g'.state.follows = true
  copies : g'.copies = 1
  band : g'.band = g.band
  width : g'.width = g.width
  effective : u.effective g' = u.effective g
  counted : g'.counted = g.width * weight (u.effective g)

theorem Grant.CarriesSingly.lawful {u : LevelUnit} {g g' : Grant} (h : g.CarriesSingly u g') : g'.LoadLawful u where
  follows _ := by rw [h.counted, LevelUnit.loadOf, h.copies, h.width, h.effective, Nat.one_mul]
  silent silent := absurd silent (GrantState.loud_of_follows h.follows)

/-- What a record keeps when its load stays as it is: what the load is counted from, and whether it follows the level. -/
structure Grant.SameLoad (g g' : Grant) : Prop where
  band : g'.band = g.band
  counted : g'.counted = g.counted
  drawn : ∀ u : LevelUnit, u.loadOf g' = u.loadOf g
  state : g'.state = g.state ∨ (g.state.follows = true ∧ g'.state.follows = true)

theorem Grant.SameLoad.lawful {g g' : Grant} (h : g.SameLoad g') {u : LevelUnit} (law : g.LoadLawful u) :
    g'.LoadLawful u := by
  obtain ⟨-, counted, drawn, same | ⟨before, after⟩⟩ := h
  · exact ⟨by rw [same, counted, drawn]; exact law.follows, by rw [same, counted]; exact law.silent⟩
  · exact ⟨fun _ => by rw [counted, drawn, law.follows before],
      fun silent => absurd silent (GrantState.loud_of_follows after)⟩

theorem Grant.carryState_follows (g : Grant) : g.carryState.follows = true := by
  unfold Grant.carryState
  split <;> rfl

/-! ### The change of one entry -/

section Sum

variable {s t : State} {i : Fin 64}

/-- A sum over a band changes by the share of the one entry that changes. -/
theorem sumOver_changed (others : EntriesKept s t [i]) (b : Band) (f : Grant → Nat) :
    sumOver t b f + shareOf b f (s.grant? i) = sumOver s b f + shareOf b f (t.grant? i) := by
  have parted : ∀ v : State, sumOver v b f =
      shareOf b f (v.grant? i) + ((entryNumbers.erase i).map fun k => shareOf b f (v.grant? k)).sum := fun v => by
    rw [sumOver_eq, ← List.sum_map_erase (fun k => shareOf b f (v.grant? k)) (mem_entryNumbers i)]
  have rest : ((entryNumbers.erase i).map fun k => shareOf b f (t.grant? k)) =
      (entryNumbers.erase i).map fun k => shareOf b f (s.grant? k) :=
    List.map_congr_left fun k hk => by
      have ne := (nodup_entryNumbers.mem_erase_iff.1 hk).1
      rw [State.grant?, others k (by simpa using ne), State.grant?]
  rw [parted t, parted s, rest]
  omega

theorem sumOver_congr {b : Band} {f f' : Grant → Nat} (h : ∀ k, shareOf b f' (t.grant? k) = shareOf b f (s.grant? k)) :
    sumOver t b f' = sumOver s b f := by
  rw [sumOver_eq, sumOver_eq, funext h]

theorem State.bandLoad_congr (entries : t.table.entries = s.table.entries) (b : Band) : t.bandLoad b = s.bandLoad b := by
  rw [State.bandLoad_eq, State.bandLoad_eq]
  exact sumOver_congr fun k => by rw [State.grant_congr entries]

end Sum

section Law

variable {s t : State} (law : s.LoadsLawful)
include law

/-- A change of one entry that leaves its grant's load lawful and every band room for it. -/
theorem State.LoadsLawful.entry {i : Fin 64} (levels : t.levels = s.levels) (others : EntriesKept s t [i])
    (own : ∀ g, t.grant? i = some g → g.LoadLawful s.levels)
    (room : ∀ b, s.bandLoad b + shareOf b (·.counted) (t.grant? i) ≤
      s.budget b + shareOf b (·.counted) (s.grant? i)) : t.LoadsLawful := by
  obtain ⟨loads, pilot⟩ := s.loadsLawful_iff.1 law
  refine t.loadsLawful_iff.2 ⟨⟨fun k g hg => ?_, fun b => ?_⟩, by rwa [levels]⟩
  · rw [levels]
    by_cases hk : k = i
    · exact own g (hk ▸ hg)
    · rw [State.grant?, others k (by simpa using hk)] at hg
      exact loads.grants k g hg
  · have changed := sumOver_changed others b (·.counted)
    rw [← State.bandLoad_eq, ← State.bandLoad_eq] at changed
    have := room b
    rw [State.budget, levels, ← State.budget]
    omega

/-- A change of one entry that adds to no band. -/
theorem State.LoadsLawful.eased {i : Fin 64} (levels : t.levels = s.levels) (others : EntriesKept s t [i])
    (own : ∀ g, t.grant? i = some g → g.LoadLawful s.levels)
    (eases : ∀ b, shareOf b (·.counted) (t.grant? i) ≤ shareOf b (·.counted) (s.grant? i)) : t.LoadsLawful :=
  law.entry levels others own fun b => Nat.add_le_add (law.budget b) (eases b)

/-- An entry that becomes FREE. -/
theorem State.LoadsLawful.freed {i : Fin 64} (levels : t.levels = s.levels) (others : EntriesKept s t [i])
    (gone : t.grant? i = none) : t.LoadsLawful :=
  law.eased levels others (fun g hg => by rw [gone] at hg; cases hg) fun b => by
    rw [gone]
    exact Nat.zero_le _

/-- The record of one grant is written with a lawful load that there is room for. -/
theorem State.LoadsLawful.written {i : Fin 64} {g g' : Grant} (levels : t.levels = s.levels) (others : EntriesKept s t [i])
    (hg : s.grant? i = some g) (hg' : t.grant? i = some g') (lawful : g'.LoadLawful s.levels) (band : g'.band = g.band)
    (room : s.bandLoad g.band + g'.counted ≤ s.budget g.band + g.counted) : t.LoadsLawful := by
  refine law.entry levels others (fun x hx => by rw [hg'] at hx; cases hx; exact lawful) fun b => ?_
  rw [hg, hg', shareOf, shareOf, Option.elim_some, Option.elim_some, band]
  by_cases hb : g.band = b
  · subst hb
    simpa using room
  · simpa [hb] using law.budget b

/-- The record of one grant is written with a lawful load that is no larger. -/
theorem State.LoadsLawful.lightened {i : Fin 64} {g g' : Grant} (levels : t.levels = s.levels) (others : EntriesKept s t [i])
    (hg : s.grant? i = some g) (hg' : t.grant? i = some g') (lawful : g'.LoadLawful s.levels) (band : g'.band = g.band)
    (lighter : g'.counted ≤ g.counted) : t.LoadsLawful :=
  law.written levels others hg hg' lawful band (Nat.add_le_add (law.budget g.band) lighter)

/-- A change beside the entries and the level unit. -/
theorem State.LoadsLawful.beside (entries : t.table.entries = s.table.entries) (levels : t.levels = s.levels) :
    t.LoadsLawful := by
  obtain ⟨loads, pilot⟩ := s.loadsLawful_iff.1 law
  refine t.loadsLawful_iff.2 ⟨⟨fun k g hg => ?_, fun b => ?_⟩, by rwa [levels]⟩
  · rw [levels]
    exact loads.grants k g ((State.grant_congr entries k).symm.trans hg)
  · rw [State.bandLoad_congr entries, State.budget, levels]
    exact loads.budget b

/-- So does one beside the grant table and the level unit. -/
theorem State.LoadsLawful.apart (table : t.table = s.table) (levels : t.levels = s.levels) : t.LoadsLawful :=
  law.beside (by rw [table]) levels

/-- A grant that goes on carrying on one slot draws no more than it did. -/
theorem State.LoadsLawful.single {i : Fin 64} {g g' : Grant} (levels : t.levels = s.levels) (others : EntriesKept s t [i])
    (hg : s.grant? i = some g) (hg' : t.grant? i = some g') (follows : g.state.follows = true)
    (singly : g.CarriesSingly s.levels g') : t.LoadsLawful :=
  law.lightened levels others hg hg' singly.lawful singly.band (singly.counted ▸ (law.grant hg).single_le follows)

theorem State.LoadsLawful.setOutcome (i : Fin 64) (o : LastOutcome) : (s.setOutcome i o).LoadsLawful :=
  law.eased rfl (.setEntry s i _) (fun g hg => law.grant (State.grant_setOutcome s i o i ▸ hg)) fun b => by
    rw [State.grant_setOutcome]

/-- The record of a grant is changed, its load lawful and no larger. -/
theorem State.LoadsLawful.modGrant {i : Fin 64} {f : Grant → Grant}
    (h : ∀ g, s.grant? i = some g → g.LoadLawful s.levels →
      (f g).LoadLawful s.levels ∧ (f g).band = g.band ∧ (f g).counted ≤ g.counted) : (s.modGrant i f).LoadsLawful := by
  cases hg : s.grant? i with
  | none => simpa only [State.modGrant, hg] using law
  | some g =>
    obtain ⟨lawful, band, lighter⟩ := h g hg (law.grant hg)
    exact law.lightened (by simp) (.modGrant s i f) hg (State.grant_modGrant_same s hg f) lawful band lighter

theorem State.LoadsLawful.modSame {i : Fin 64} {f : Grant → Grant} (h : ∀ g, s.grant? i = some g → g.SameLoad (f g)) :
    (s.modGrant i f).LoadsLawful :=
  law.modGrant fun g hg lawful => ⟨(h g hg).lawful lawful, (h g hg).band, (h g hg).counted.le⟩

/-- A grant that comes to a state without a load. -/
theorem State.LoadsLawful.silenced (i : Fin 64) {f : Grant → Grant} (band : ∀ g, (f g).band = g.band)
    (counted : ∀ g, (f g).counted = 0) (still : ∀ g, (f g).state.follows = false) : (s.modGrant i f).LoadsLawful :=
  law.modGrant fun g _ _ =>
    ⟨⟨fun follows => absurd follows (by simp [still]), fun _ => counted g⟩, band g, by
      rw [counted]
      exact Nat.zero_le _⟩

/-- A grant that enters DRAINING holds its load as it stands (R123). -/
theorem State.LoadsLawful.drained (i : Fin 64) : (s.modGrant i Grant.drained).LoadsLawful :=
  law.modGrant fun _ _ _ =>
    ⟨⟨nofun, fun silent => silent.elim nofun nofun⟩, rfl, Nat.le_refl _⟩

/-- A grant whose record has been written is recounted, with room for the load. -/
theorem State.LoadsLawful.recounted {i : Fin 64} {g g' : Grant} (levels : t.levels = s.levels)
    (others : EntriesKept s t [i]) (hg : s.grant? i = some g) (hg' : t.grant? i = some g') (band : g'.band = g.band)
    (room : s.bandLoad g.band + (s.levels.recount g').counted ≤ s.budget g.band + g.counted) :
    (t.recount i).LoadsLawful := by
  have held : (t.recount i).grant? i = some (s.levels.recount g') := by
    rw [← levels]
    exact State.grant_modGrant_same t hg' _
  have sameBand : (s.levels.recount g').band = g.band := by
    obtain ⟨n, e⟩ := s.levels.recount_eq g'
    rw [e]
    exact band
  exact law.written ((State.modGrant_levels ..).trans levels) (others.twice (.modGrant t i _)) hg held
    (s.levels.recount_lawful g') sameBand room

theorem State.LoadsLawful.freeEntry (i : Fin 64) : (s.freeEntry i).LoadsLawful := by
  cases hg : s.grant? i with
  | none => simpa only [State.freeEntry, hg] using law
  | some g =>
    exact law.freed (by simp) (.freeEntry s i) (by rw [State.grant?, State.entry_freeEntry_same s hg])

end Law

end Sys2Proof.Machine
end


section
/-! ## Changes of levels, groups, trims and budgets keep the law of loads (R121 to R134) -/

namespace Sys2Proof.Machine

/-! ### One grant under a change of levels (R123) -/

/-- The record that a grant asks for, with the counted load that a change of the level unit leaves it (R123). -/
def Grant.releveled (g g' : Grant) (old new : LevelUnit) : Grant :=
  { g' with
    counted := if new.effective g' ≠ old.effective g ∧ g'.state.follows = true then new.loadOf g' else g'.counted }

/-- A record that asks for another level or group: all else that a load is counted from is as it was. -/
structure Grant.AsksLevel (g g' : Grant) : Prop where
  state : g'.state = g.state
  band : g'.band = g.band
  width : g'.width = g.width
  move : g'.move = g.move
  counted : g'.counted = g.counted

theorem Grant.AsksLevel.refl (g : Grant) : g.AsksLevel g := ⟨rfl, rfl, rfl, rfl, rfl⟩

section Record

variable {g g' : Grant} {old new : LevelUnit}

/-- A load that follows no level, or whose level stays, stays. -/
theorem Grant.releveled_counted_of_kept (h : new.effective g' = old.effective g ∨ g'.state.follows = false) :
    (g.releveled g' old new).counted = g'.counted := by
  refine if_neg fun ⟨changed, follows⟩ => ?_
  rcases h with same | still
  · exact changed same
  · rw [still] at follows
    cases follows

/-- A lawful load that follows its level follows it to the new one. -/
theorem Grant.releveled_counted_of_follows (law : g.LoadLawful old) (asks : g.AsksLevel g')
    (follows : g.state.follows = true) : (g.releveled g' old new).counted = new.loadOf g' := by
  by_cases same : new.effective g' = old.effective g
  · rw [Grant.releveled_counted_of_kept (.inl same), asks.counted, law.follows follows]
    simp only [LevelUnit.loadOf, Grant.copies, asks.move, asks.width, same]
  · exact if_pos ⟨same, asks.state ▸ follows⟩

theorem Grant.releveled_lawful (law : g.LoadLawful old) (asks : g.AsksLevel g') :
    (g.releveled g' old new).LoadLawful new where
  follows follows := Grant.releveled_counted_of_follows law asks (asks.state ▸ follows)
  silent silent := by
    have before : g.state = .reserved ∨ g.state = .quiet := asks.state ▸ silent
    have still : g'.state.follows = false :=
      Bool.eq_false_iff.2 fun follows => GrantState.loud_of_follows follows silent
    rw [Grant.releveled_counted_of_kept (.inr still), asks.counted, law.silent before]

end Record

/-! ### All grants under a change of levels -/

section Change

variable {u v : State} {levels : LevelUnit} {ask : Fin 64 → Grant → Grant} (change : Releveled u levels ask v)
include change

theorem Releveled.grant_eq (i : Fin 64) :
    v.grant? i = (u.grant? i).map fun g => g.releveled (ask i g) u.levels levels := by
  cases hg : u.grant? i with
  | none => rw [State.grant?, change.free i hg, Option.map_none, ← hg, State.grant?]
  | some g =>
    rw [State.grant?, change.grants i g hg]
    rfl

/-- A change of levels leaves every load lawful; the budgets are left to be checked. -/
theorem Releveled.wellLoaded (loads : u.WellLoaded) (asks : ∀ i (g : Grant), g.AsksLevel (ask i g))
    (within : ∀ b, v.bandLoad b ≤ levels.budget.get b) : v.WellLoaded where
  grants i g' hg' := by
    rw [change.grant_eq] at hg'
    obtain ⟨g, hg, rfl⟩ := Option.map_eq_some_iff.1 hg'
    rw [change.levels]
    exact Grant.releveled_lawful (loads.grants i g hg) (asks i g)
  budget b := by
    rw [State.budget, change.levels]
    exact within b

/-- A change of levels that leaves each entry its load, or its loads as another sum counts them. -/
theorem Releveled.bandLoad_eq (asks : ∀ i (g : Grant), g.AsksLevel (ask i g)) {f : Grant → Nat}
    (h : ∀ i g, u.grant? i = some g → (g.releveled (ask i g) u.levels levels).counted = f g) (b : Band) :
    v.bandLoad b = sumOver u b f := by
  rw [State.bandLoad_eq]
  refine sumOver_congr fun i => ?_
  rw [change.grant_eq]
  cases hg : u.grant? i with
  | none => rfl
  | some g =>
    simp only [shareOf, Option.map_some, Option.elim_some, h i g hg]
    rw [show (g.releveled (ask i g) u.levels levels).band = g.band from (asks i g).band]

end Change

/-! ### The trim found keeps the budgets (R133, R134) -/

/-- The trim moves the levels of P only. -/
theorem State.effective_trimmed (s : State) {g : Grant} (other : g.group ≠ .pilot) :
    s.trimmed.effective g = s.levels.effective g := by
  unfold LevelUnit.effective
  cases h : g.group with
  | pilot => exact absurd h other
  | _ => rfl

/-- The loads that the trim found leaves are those the search has tested. -/
theorem State.bandLoad_trackPilot {s : State} (loads : s.WellLoaded) (b : Band) :
    s.trackPilot.bandLoad b = sumOver s b (loadAtTrim s.trimFound) := by
  refine s.trackPilot_releveled.bandLoad_eq (fun _ g => .refl g) (fun i g hg => ?_) b
  have law := loads.grants i g hg
  unfold loadAtTrim
  by_cases follows : g.state.follows = true
  · rw [Grant.releveled_counted_of_follows law (.refl g) follows]
    by_cases member : g.group = .pilot
    · rw [if_pos ⟨member, follows⟩, LevelUnit.loadOf, LevelUnit.effective, member]
      rfl
    · rw [if_neg fun h => member h.1, law.follows follows, LevelUnit.loadOf, LevelUnit.loadOf, s.effective_trimmed member]
  · rw [if_neg fun h => follows h.2, Grant.releveled_counted_of_kept (.inr (by simpa using follows))]

/-- At trim 0 no member of P draws more than it does. -/
theorem Grant.LoadLawful.loadAtTrim_zero_le {u : LevelUnit} {g : Grant} (law : g.LoadLawful u) :
    loadAtTrim 0 g ≤ g.counted := by
  unfold loadAtTrim
  split
  · rename_i member
    have silent : ratioLevel g.level 0 = 0 := Nat.sub_eq_zero_of_le (Nat.le_of_lt_succ g.level.isLt)
    rw [law.follows member.2, LevelUnit.loadOf, silent]
    exact Nat.mul_le_mul_left _ (Nat.mul_le_mul_left _ (one_le_weight _))
  · exact Nat.le_refl _

theorem State.WellLoaded.loadAt_zero_le {s : State} (loads : s.WellLoaded) (b : Band) :
    sumOver s b (loadAtTrim 0) ≤ s.budget b := by
  refine Nat.le_trans ?_ (loads.budget b)
  rw [State.bandLoad_eq, sumOver_eq, sumOver_eq]
  refine List.sum_le_sum fun i _ => ?_
  cases hg : s.grant? i with
  | none => exact Nat.le_refl _
  | some g =>
    rw [shareOf, shareOf, Option.elim_some, Option.elim_some]
    split
    · exact (loads.grants i g hg).loadAtTrim_zero_le
    · exact Nat.le_refl _

/-- The search for the trim brings the pilot record to its law, and keeps the budgets: at the trim found both bands fit, or
it is 0, at which P draws least. -/
theorem State.WellLoaded.trackPilot {s : State} (loads : s.WellLoaded) : s.trackPilot.LoadsLawful := by
  obtain ⟨upTo, fits, -⟩ := s.trimFound_spec
  have change := s.trackPilot_releveled
  refine (State.loadsLawful_iff _).2 ⟨change.wellLoaded loads (fun _ g => .refl g) fun b => ?_, ?_⟩
  · rw [State.bandLoad_trackPilot loads]
    rcases fits with zero | fits
    · rw [zero]
      exact loads.loadAt_zero_le b
    · exact (s.fitsAt_iff _).1 fits b
  · rw [change.levels]
    exact ⟨upTo, decide_eq_true_iff⟩

/-- What a load is counted from does not change with a reading. -/
theorem State.WellLoaded.setReading {s : State} (loads : s.WellLoaded) (p : Byte) : (s.setReading p).WellLoaded where
  grants i g hg := ⟨(loads.grants i g hg).follows, (loads.grants i g hg).silent⟩
  budget := loads.budget

section Law

variable {s : State} (law : s.LoadsLawful)
include law

theorem State.LoadsLawful.loadDecreased : s.loadDecreased.LoadsLawful := by
  unfold State.loadDecreased
  split
  · exact law.loaded.trackPilot
  · exact law

theorem State.LoadsLawful.noteLoad (old : State) : (Machine.noteLoad old s).LoadsLawful := by
  unfold Machine.noteLoad
  split
  · exact law.loadDecreased
  · exact law

/-! ### The level requests (R127 to R131) -/

theorem State.LoadsLawful.done (payload : List Byte) : (answerDone s payload).1.LoadsLawful := law

theorem State.LoadsLawful.accepted (payload : List Byte) : (answerAccepted s payload).1.LoadsLawful := law

/-- A change of levels that leaves the pilot record and the budgets, and exceeds none. -/
theorem State.LoadsLawful.changed {v : State} {levels : LevelUnit} {ask : Fin 64 → Grant → Grant}
    (change : Releveled s levels ask v) (asks : ∀ i (g : Grant), g.AsksLevel (ask i g))
    (pilot : levels.pilot = s.levels.pilot) (budgets : levels.budget = s.levels.budget)
    (within : WithinBudget s v.bandLoad) : v.LoadsLawful := by
  obtain ⟨loads, lawful⟩ := s.loadsLawful_iff.1 law
  refine (State.loadsLawful_iff _).2 ⟨change.wellLoaded loads asks fun b => ?_, ?_⟩
  · rw [budgets]
    exact within b
  · rw [change.levels, pilot]
    exact lawful

/-- A change of the level or group of a grant whose load follows no level changes no load. -/
theorem State.LoadsLawful.within_of_still {i : Fin 64} {g : Grant} {f : Grant → Grant} (hg : s.grant? i = some g)
    (asks : ∀ g : Grant, g.AsksLevel (f g)) (still : g.state.follows = false) :
    WithinBudget s (s.releveled i f).bandLoad := by
  have asked : ∀ k (x : Grant), x.AsksLevel (if k = i then f x else x) := fun k x => by
    split
    · exact asks x
    · exact .refl x
  intro b
  rw [(s.releveled_spec i f).bandLoad_eq asked (f := (·.counted)) fun k x hx => ?_, ← State.bandLoad_eq]
  · exact law.budget b
  · by_cases hk : k = i
    · obtain rfl : g = x := by rw [hk, hg] at hx; exact Option.some.inj hx
      rw [Grant.releveled_counted_of_kept (.inr (by rw [(asked k g).state]; exact still)), (asked k g).counted]
    · simp only [if_neg hk]
      exact Grant.releveled_counted_of_kept (.inl rfl)

theorem State.LoadsLawful.relevel {i : Fin 64} {g : Grant} {f : Grant → Grant} (hg : s.grant? i = some g)
    (asks : ∀ g : Grant, g.AsksLevel (f g)) : (s.relevel i g f).1.LoadsLawful := by
  have made : WithinBudget s (s.releveled i f).bandLoad → (Machine.noteLoad s (s.releveled i f)).LoadsLawful :=
    fun within =>
      (law.changed (s.releveled_spec i f) (fun k x => by
        split
        · exact asks x
        · exact .refl x) rfl rfl within).noteLoad s
  rcases s.relevel_cases i g f with same | ⟨still | within, eq⟩
  · rwa [same]
  · rw [eq]
    exact made (law.within_of_still hg asks still)
  · rw [eq]
    exact made within

variable (r : Req)

theorem State.LoadsLawful.setLevel : (Machine.setLevel r s).1.LoadsLawful :=
  ownHandle_keeps law fun i g hg => by
    split
    · exact law
    · exact law.relevel hg fun _ => ⟨rfl, rfl, rfl, rfl, rfl⟩

theorem State.LoadsLawful.assignGroup : (Machine.assignGroup r s).1.LoadsLawful := by
  unfold Machine.assignGroup
  split
  · exact law
  · exact managementHandle_keeps law fun i g hg => law.relevel hg fun _ => ⟨rfl, rfl, rfl, rfl, rfl⟩

omit law in
/-- SET_GROUP replaces the record of a group, and beside it nothing of the level unit (R130). -/
theorem State.groupUnit_kept {levels : LevelUnit} (asked : s.groupUnit r = some levels) :
    levels.pilot = s.levels.pilot ∧ levels.budget = s.levels.budget := by
  unfold State.groupUnit LevelUnit.withGroup at asked
  split at asked
  · cases asked
  · split at asked <;> cases asked <;> exact ⟨rfl, rfl⟩

theorem State.LoadsLawful.setGroup : (Machine.setGroup r s).1.LoadsLawful := by
  unfold Machine.setGroup
  split
  · exact law
  · rename_i levels asked
    obtain ⟨pilot, budgets⟩ := State.groupUnit_kept r asked
    refine managementRequest_keeps law ?_
    dsimp only
    split
    · exact law
    · rename_i within
      have made := law.changed (applyLevels_unit_releveled s levels) (fun _ g => .refl g) pilot budgets
        ((s.overBudget_none_iff _).1 within)
      exact (made.noteLoad s).done _

/-- A budget that is not below the band's load (R131). -/
theorem State.LoadsLawful.budgeted {b : Band} {n : Nat} (fits : s.bandLoad b ≤ n) : (s.setBudget b n).LoadsLawful := by
  obtain ⟨loads, pilot⟩ := s.loadsLawful_iff.1 law
  refine (State.loadsLawful_iff _).2
    ⟨⟨fun i g hg => ⟨(loads.grants i g hg).follows, (loads.grants i g hg).silent⟩, fun c => ?_⟩, pilot⟩
  show s.bandLoad c ≤ (s.levels.budget.put b n).get c
  by_cases hc : c = b
  · rw [hc, PerBand.get_put]
    exact fits
  · rw [PerBand.get_put_ne _ hc]
    exact loads.budget c

theorem State.LoadsLawful.setBudget : (Machine.setBudget r s).1.LoadsLawful := by
  unfold Machine.setBudget
  split
  · exact law
  · refine managementRequest_keeps law ?_
    split
    · exact law
    · rename_i fits
      have written := law.budgeted (Nat.not_lt.1 fits)
      unfold answerDone
      dsimp only
      split
      · exact written.loadDecreased
      · exact written

end Law

end Sys2Proof.Machine
end


section
/-! ## Moves, repacks and grants given up keep the law of loads (R25, R57 to R66, R140 to R161) -/

namespace Sys2Proof.Machine

/-! ### The law of moves, where a handler has to have it -/

theorem State.MovesLawful.of_table {s t : State} (moves : s.MovesLawful) (table : t.table = s.table) : t.MovesLawful :=
  fun i g hg => moves i g ((State.grant_congr (by rw [table]) i).symm.trans hg)

/-- A grant in a move is MOVING, and its load follows its level. -/
theorem State.MovesLawful.follows {s : State} (moves : s.MovesLawful) {i : Fin 64} {g : Grant} (hg : s.grant? i = some g)
    {m : MoveContext} (hm : g.move = some m) : g.state.follows = true := by
  rw [(moves i g hg).2 (by rw [hm]; rfl)]
  rfl

/-! ### The budget that a seamless move asks for (R125, R138) -/

/-- Every band has room for one more load as counted, as a second carrier asks (R138). -/
def State.RoomForSecond (s : State) (g : Grant) : Prop := s.bandLoad g.band + g.counted ≤ s.budget g.band

theorem State.roomForSecond {s : State} {g : Grant} (fits : s.overBudget (s.loadWith g.band g.counted) = none) :
    s.RoomForSecond g := by
  have room := (s.overBudget_none_iff _).1 fits g.band
  rwa [State.loadWith, if_pos rfl] at room

theorem State.roomForSecond_of_seamlessSlot {s : State} {g : Grant} {j : SlotId} (h : s.seamlessSlot g = some j) :
    s.RoomForSecond g := by
  unfold State.seamlessSlot at h
  split at h
  · cases h
  · rename_i fits
    exact State.roomForSecond fits

theorem hardPlan_kind {g : Grant} {p : MovePlan} (h : hardPlan g = some p) : p.kind = .hard := by
  obtain ⟨_, -, rfl⟩ := Option.map_eq_some_iff.1 h
  rfl

theorem State.roomForSecond_of_anyPlan {s : State} {g : Grant} {p : MovePlan} (h : s.anyPlan g = some p)
    (seamless : p.kind = .seamless) : s.RoomForSecond g := by
  unfold State.anyPlan at h
  split at h
  · rename_i slot
    exact State.roomForSecond_of_seamlessSlot slot
  · rw [hardPlan_kind h] at seamless
    cases seamless

theorem State.roomForSecond_of_movePlan {s : State} {g : Grant} {kind : Option MoveKind} {p : MovePlan}
    (h : s.movePlan g kind = .ok p) (seamless : p.kind = .seamless) : s.RoomForSecond g := by
  unfold State.movePlan at h
  split at h
  · split at h
    · cases h
    · rename_i fits
      exact State.roomForSecond fits
  · split at h
    · cases h
    · rename_i plan
      cases h
      rw [hardPlan_kind plan] at seamless
      cases seamless
  · split at h
    · cases h
    · rename_i plan
      cases h
      exact State.roomForSecond_of_anyPlan plan seamless

/-- The record of a grant whose move begins (R141). -/
def Grant.setOut (g : Grant) (start : Nat) (kind : MoveKind) (origin : MoveOrigin) (j : SlotId) (byTenant : Bool) : Grant :=
  Grant.withNews
    { g with
      state := .moving
      move := some
        { target := start, kind, origin, phase := .targetTuning, second := if kind = .seamless then some j else none } }
    byTenant

theorem State.beginMove_eq (s : State) (i : Fin 64) (start : Nat) (kind : MoveKind) (origin : MoveOrigin) (j : SlotId)
    (byTenant : Bool) :
    s.beginMove i start kind origin j byTenant =
      ((s.modGrant i (·.setOut start kind origin j byTenant)).beginAttempt j i .moveTarget false start).recount i := rfl

/-- In a seamless move a grant draws twice what it does on one slot, in a hard move once (R122). -/
theorem LevelUnit.recount_setOut (u : LevelUnit) (g : Grant) (start : Nat) (kind : MoveKind) (origin : MoveOrigin)
    (j : SlotId) (byTenant : Bool) :
    (u.recount (g.setOut start kind origin j byTenant)).counted =
      (if kind = .seamless then 2 else 1) * (g.width * weight (u.effective g)) := by
  rw [u.recount_follows (g := g.setOut start kind origin j byTenant) rfl]
  cases kind <;> rfl

section Law

variable {s : State} (law : s.LoadsLawful)
include law

/-! ### Slots, levels of fragmentation, the record of the repack -/

theorem State.LoadsLawful.haltPart (p : Option SlotId) : (s.haltPart p).LoadsLawful := law.apart (by simp) (by simp)

theorem State.LoadsLawful.beginAttempt (j : SlotId) (i : Fin 64) (c : Caller) (second : Bool) (start : Nat) :
    (s.beginAttempt j i c second start).LoadsLawful := law.apart (by simp) (by simp)

theorem State.LoadsLawful.noteFrag (b : Band) : (s.noteFrag b).LoadsLawful := law.apart (by simp) (by simp)

theorem State.LoadsLawful.endRepack (r : EndReason) : (s.endRepack r).LoadsLawful := law.apart (by simp) (by simp)

theorem State.LoadsLawful.countMove : s.countMove.LoadsLawful := law.apart (by simp) (by simp)

theorem State.LoadsLawful.news (i : Fin 64) (x : Bool) :
    (s.modGrant i fun g => { g with news := x }).LoadsLawful :=
  law.modSame fun _ _ => ⟨rfl, rfl, fun _ => rfl, .inl rfl⟩

theorem State.LoadsLawful.withNews (i : Fin 64) (byTenant : Bool) : (s.modGrant i (·.withNews byTenant)).LoadsLawful :=
  law.modSame fun _ _ => ⟨rfl, rfl, fun _ => rfl, .inl rfl⟩

/-! ### Moves that begin (R140, R141) -/

theorem State.LoadsLawful.moveReserved {i : Fin 64} {g : Grant} (hg : s.grant? i = some g) (start : Nat)
    (byTenant : Bool) : (s.moveReserved i start byTenant).LoadsLawful := by
  have moved := s.moveReserved_spec hg start byTenant
  have same : g.SameLoad { g with start, impairing := 0, news := g.news || !byTenant } :=
    ⟨rfl, rfl, fun _ => rfl, .inl rfl⟩
  exact law.lightened (by simp) moved.others hg (by rw [State.grant?, moved.entry]) (same.lawful (law.grant hg)) rfl le_rfl

/-- A move begins within the budget: a hard one draws no more than the grant does, and a seamless one has its room. -/
theorem State.LoadsLawful.beginMove {i : Fin 64} {g : Grant} (hg : s.grant? i = some g) (follows : g.state.follows = true)
    {kind : MoveKind} (room : kind = .seamless → s.RoomForSecond g) (start : Nat) (origin : MoveOrigin) (j : SlotId)
    (byTenant : Bool) : (s.beginMove i start kind origin j byTenant).LoadsLawful := by
  have begun : ((s.modGrant i (·.setOut start kind origin j byTenant)).beginAttempt j i .moveTarget false start).grant? i =
      some (g.setOut start kind origin j byTenant) := by
    rw [← State.grant_modGrant_same s hg (·.setOut start kind origin j byTenant)]
    exact State.grant_congr (by simp) i
  have setOut : EntriesKept s (s.modGrant i (·.setOut start kind origin j byTenant)) [i] := .modGrant s i _
  rw [State.beginMove_eq]
  refine law.recounted (by simp) (setOut.twice (.of_table (by simp) _)) hg begun rfl ?_
  have single := (law.grant hg).single_le follows
  have within := law.budget g.band
  rw [LevelUnit.recount_setOut]
  cases kind with
  | hard =>
    rw [if_neg (by decide)]
    omega
  | seamless =>
    have second := room rfl
    rw [State.RoomForSecond] at second
    rw [if_pos rfl]
    omega

/-! ### Repack (R154 to R161) -/

omit law in
theorem State.LoadsLawful.repackSteps (b : Band) (n : Nat) : ∀ {s : State}, s.LoadsLawful →
    (State.repackSteps b n s).LoadsLawful := by
  induction n with
  | zero => exact fun law => law.endRepack _
  | succ n ih =>
    intro s law
    unfold State.repackSteps
    split
    · exact law.endRepack _
    · rename_i i start chosen
      split
      · exact law.endRepack _
      · rename_i g hg
        split
        · exact ih (((law.moveReserved hg _ _).countMove).noteFrag b)
        · rename_i carries
          have follows : g.state.follows = true := by
            obtain ⟨x, hx, candidate, -⟩ := State.chooseStep_spec chosen
            obtain rfl : g = x := Option.some.inj (hg.symm.trans hx)
            rw [(g.repackable_iff.1 candidate).2.2.resolve_left carries]
            rfl
          split
          · exact law.endRepack _
          · rename_i slot
            exact (law.beginMove hg follows (fun _ => State.roomForSecond_of_seamlessSlot slot) ..).noteFrag b

theorem State.LoadsLawful.continueRepack : s.continueRepack.LoadsLawful := by
  unfold State.continueRepack
  split
  · exact law
  · exact .repackSteps _ _ law

theorem State.LoadsLawful.startRepack (b : Band) : (s.startRepack b).LoadsLawful :=
  State.LoadsLawful.continueRepack (law.apart (by simp) (by simp))

theorem State.LoadsLawful.refreshFrag (b : Band) : (s.refreshFrag b).LoadsLawful := by
  unfold State.refreshFrag
  dsimp only
  split
  · exact (law.noteFrag b).startRepack b
  · exact law.noteFrag b

theorem State.LoadsLawful.repackAfter (o : MoveOrigin) (e : MoveEnd) : (s.repackAfter o e).LoadsLawful := by
  unfold State.repackAfter
  split
  · cases e with
    | onTarget => exact law.countMove.continueRepack
    | failed => exact law.endRepack _
    | left => exact law.continueRepack
  · exact law

theorem State.LoadsLawful.fallBack (i : Fin 64) : (s.fallBack i).LoadsLawful :=
  (law.silenced i (f := (·.fallenBack s.plan.settings.holdTime)) (fun _ => rfl) (fun _ => rfl) fun _ => rfl).noteLoad s

/-- A grant that carries on without its second slot is counted once again (R122). -/
theorem State.LoadsLawful.secondLeft {i : Fin 64} {g : Grant} (hg : s.grant? i = some g) (follows : g.state.follows = true)
    (p : Option SlotId) {f : Grant → Grant} (still : (f g).state.follows = true) (unmoved : (f g).move = none)
    (same : (f g).band = g.band ∧ (f g).width = g.width ∧ ∀ u : LevelUnit, u.effective (f g) = u.effective g) :
    (((s.haltPart p).modGrant i f).recount i).LoadsLawful := by
  obtain ⟨band, width, effective⟩ := same
  have left : (s.haltPart p).grant? i = some g := (State.grant_congr (by simp) i).trans hg
  have kept : EntriesKept s ((s.haltPart p).modGrant i f) [i] := EntriesKept.twice (.of_table (by simp) _) (.modGrant _ i f)
  refine law.recounted (by simp) kept hg (State.grant_modGrant_same _ left f) band ?_
  have single := (law.grant hg).single_le follows
  have within := law.budget g.band
  have once : (f g).copies = 1 := by rw [Grant.copies, unmoved]
  rw [s.levels.recount_follows still]
  simp only [once, width, effective]
  omega

theorem State.LoadsLawful.abandonMove (moves : s.MovesLawful) (i : Fin 64) : (s.abandonMove i).LoadsLawful := by
  unfold State.abandonMove
  split
  · exact law
  · rename_i g hg
    split
    · exact law
    · rename_i m hm
      refine State.LoadsLawful.noteFrag (.setOutcome ?_ i _) _
      split
      · exact (law.secondLeft hg (moves.follows hg hm) _ (f := Grant.stayed) g.carryState_follows rfl
          ⟨rfl, rfl, fun _ => rfl⟩).noteLoad s
      · exact (law.haltPart _).fallBack i

/-- A repack that is running is stopped: its move, if it has one, is abandoned. -/
theorem State.LoadsLawful.stopRepack (moves : s.engine.repack.running = true → s.MovesLawful) :
    s.stopRepack.LoadsLawful := by
  unfold State.stopRepack
  split
  · rename_i running
    refine State.LoadsLawful.endRepack ?_ _
    split
    · exact law
    · exact law.abandonMove (moves running) _
  · exact law

/-! ### Grants given up (R57 to R66) -/

theorem State.LoadsLawful.enterQuiet (i : Fin 64) : (s.enterQuiet i).LoadsLawful := by
  have quiet : (s.modGrant i (·.quieted s.plan.settings.quietInterval)).LoadsLawful :=
    law.silenced i (fun _ => rfl) (fun _ => rfl) fun _ => rfl
  unfold State.enterQuiet
  dsimp only
  split
  · exact quiet.freeEntry i
  · exact quiet

theorem State.LoadsLawful.haltedQuiet (p : Option SlotId) (i : Fin 64) :
    ((s.haltPart p).enterQuiet i).LoadsLawful := (law.haltPart p).enterQuiet i

theorem State.LoadsLawful.takeOffAir (i : Fin 64) (p : Option SlotId) (c : Cls) (cut : Bool) :
    (s.takeOffAir i p c cut).LoadsLawful := by
  unfold State.takeOffAir
  split
  · exact law.haltedQuiet p i
  · unfold State.enterDraining
    dsimp only
    split
    · exact law.drained i
    · exact (law.drained i).apart (by simp) (by simp)

theorem State.LoadsLawful.leaveSeamless {i : Fin 64} {g : Grant} (hg : s.grant? i = some g)
    (follows : g.state.follows = true) (p : Option SlotId) : (s.leaveSeamless i p).LoadsLawful :=
  law.secondLeft hg follows p (f := fun g => { g with state := g.carryState, move := none }) g.carryState_follows rfl
    ⟨rfl, rfl, fun _ => rfl⟩

/-- A grant is given up by the state of a record whose news may have changed. -/
theorem State.LoadsLawful.giveUp {i : Fin 64} {x : Grant} (hx : s.grant? i = some x) {g : Grant} (state : x.state = g.state)
    (cut : Bool) : (s.giveUp i g cut).LoadsLawful := by
  unfold State.giveUp
  split
  · exact law.freeEntry i
  · exact law.haltedQuiet _ i
  · exact law.takeOffAir ..
  · exact law.takeOffAir ..
  · rename_i moving
    split
    · exact law
    · split
      · exact (law.leaveSeamless hx (by rw [state, moving]; rfl) _).takeOffAir ..
      · exact law.haltedQuiet _ i
  · split
    · exact law.haltedQuiet _ i
    · exact law
  · exact law

theorem State.LoadsLawful.endGrant (i : Fin 64) (o : LastOutcome) (byTenant cut : Bool) :
    (s.endGrant i o byTenant cut).LoadsLawful := by
  unfold State.endGrant
  split
  · exact law
  · rename_i g hg
    have noted : ((s.setOutcome i o).modGrant i (·.withNews byTenant)).grant? i = some (g.withNews byTenant) :=
      State.grant_modGrant_same _ ((State.grant_setOutcome s i o i).trans hg) _
    have given := ((((law.setOutcome i o).withNews i byTenant).giveUp noted (g := g) rfl cut)).noteLoad s
    dsimp only
    split
    · split
      · exact given.refreshFrag _
      · exact given
    · split
      · exact (given.refreshFrag _).repackAfter ..
      · exact given.repackAfter ..

theorem State.LoadsLawful.endDrain (i : Fin 64) (g : Grant) : (s.endDrain i g).LoadsLawful := by
  have quiet := ((law.news i true).haltedQuiet g.slot i).noteLoad s
  unfold State.endDrain
  dsimp only
  split
  · exact quiet.refreshFrag _
  · exact quiet

theorem State.LoadsLawful.freeByTimer (i : Fin 64) (g : Grant) : (s.freeByTimer i g).LoadsLawful :=
  (law.freeEntry i).refreshFrag _

end Law

end Sys2Proof.Machine
end

section
/-! ## The outcomes of tunings keep the law of loads (R54, R55, R68, R69, R110 to R114, R143 to R148) -/

namespace Sys2Proof.Machine

/-! ### Records of tunings -/

/-- The slot of an attempt does not bear on the load (R122). -/
theorem Grant.SameLoad.pointTo (g : Grant) (c : Caller) (k : SlotId) : g.SameLoad (g.pointTo c k) := by
  rw [Grant.pointTo_eq]
  split
  · refine ⟨rfl, rfl, fun u => ?_, .inl rfl⟩
    cases hm : g.move <;> simp [LevelUnit.loadOf, LevelUnit.effective, Grant.copies, hm]
  · exact ⟨rfl, rfl, fun _ => rfl, .inl rfl⟩

/-- A tuning that comes up: the grant carries, and its load goes on following its level. -/
theorem Grant.SameLoad.carrierUp {g : Grant} (tuning : g.state = .tuning) (j : SlotId) :
    g.SameLoad { g with state := g.carryState, slot := some j, phaseTimer := none, news := true } :=
  ⟨rfl, rfl, fun _ => rfl, .inr ⟨by rw [tuning]; rfl, g.carryState_follows⟩⟩

/-- A carrier that is lost: the grant tunes again, and its load goes on following its level (R68). -/
theorem Grant.SameLoad.lost {g : Grant} (carries : g.carries = true) :
    g.SameLoad { g with state := .tuning, news := true } :=
  ⟨rfl, rfl, fun _ => rfl, .inr ⟨GrantState.follows_of_carrying (g.carries_iff.1 carries), rfl⟩⟩

theorem Grant.CarriesSingly.arrivedAt (g : Grant) (start : Nat) (j : SlotId) (u : LevelUnit) :
    g.CarriesSingly u (g.arrivedAt start j u) := ⟨rfl, rfl, rfl, rfl, rfl, rfl⟩

theorem Grant.CarriesSingly.stayedOn (g : Grant) (p : Option SlotId) (u : LevelUnit) :
    g.CarriesSingly u (g.stayedOn p u) := ⟨g.carryState_follows, rfl, rfl, rfl, rfl, rfl⟩

/-- A seamless move that loses its own slot goes on as a hard one (R145). -/
theorem Grant.CarriesSingly.hardened {g : Grant} (follows : g.state.follows = true) (m : MoveContext) (u : LevelUnit) :
    g.CarriesSingly u
      { g with
        slot := m.second, move := some { m with kind := .hard, second := none }
        counted := g.width * weight (u.effective g) } := ⟨follows, rfl, rfl, rfl, rfl, rfl⟩

variable {s : State} (law : s.LoadsLawful)
include law

/-! ### Tunings that end -/

theorem State.LoadsLawful.moveEnded (old : State) (b : Band) (o : MoveOrigin) (e : MoveEnd) :
    (((Machine.noteLoad old s).refreshFrag b).repackAfter o e).LoadsLawful :=
  ((law.noteLoad old).refreshFrag b).repackAfter o e

theorem State.LoadsLawful.carrierUp {i : Fin 64} (tuning : ∀ g, s.grant? i = some g → g.state = .tuning) (j : SlotId) :
    (s.carrierUp i j).LoadsLawful :=
  (law.modSame fun g hg => .carrierUp (tuning g hg) j).setOutcome i _

theorem State.LoadsLawful.arrive (moves : s.MovesLawful) (i : Fin 64) (j : SlotId) : (s.arrive i j).LoadsLawful := by
  cases hg : s.grant? i with
  | none => simpa only [State.arrive, hg] using law
  | some g =>
    cases hm : g.move with
    | none => simpa only [State.arrive, hg, hm] using law
    | some m =>
      obtain ⟨-, -, levels, -⟩ := s.arrivedOn_around i g m j
      obtain ⟨entry, -⟩ := State.arrivedOn_spec (m := m) (j := j) hg
      rw [State.arrive_eq hg hm]
      exact (law.single levels (.arrivedOn s i g m j) hg (by rw [State.grant?, entry]) (moves.follows hg hm)
        (.arrivedAt g m.target j s.levels)).moveEnded ..

theorem State.LoadsLawful.stayBehind (moves : s.MovesLawful) (i : Fin 64) (p : Option SlotId) :
    (s.stayBehind i p).LoadsLawful := by
  cases hg : s.grant? i with
  | none => simpa only [State.stayBehind, hg] using law
  | some g =>
    cases hm : g.move with
    | none => simpa only [State.stayBehind, hg, hm] using law
    | some m =>
      obtain ⟨v, eq, entry, entries, -, -, around⟩ := State.stayBehind_spec hg hm p
      rw [eq]
      exact (law.single around.levels entries hg (by rw [State.grant?, entry]) (moves.follows hg hm)
        (.stayedOn g p s.levels)).moveEnded ..

theorem State.LoadsLawful.fallbackFails (i : Fin 64) : (s.fallbackFails i).LoadsLawful := by
  unfold State.fallbackFails
  split
  · exact law
  · split
    · exact law
    · exact (((law.fallBack i).setOutcome i _).refreshFrag _).repackAfter ..

theorem State.LoadsLawful.attempt (j : SlotId) (i : Fin 64) (c : Caller) (second : Bool) (start : Nat) :
    ((s.beginAttempt j i c second start).modGrant i (·.pointTo c j)).LoadsLawful :=
  (law.beginAttempt ..).modSame fun g _ => .pointTo g c j

/-- A hard move that fails on its target goes on as a hard move (R144). -/
theorem State.LoadsLawful.beginFallback {i : Fin 64} {g : Grant} (hg : s.grant? i = some g) {m : MoveContext}
    (hm : g.move = some m) : (s.beginFallback i g m).LoadsLawful := by
  have falls : (s.modGrant i fun g => { g with move := some { m with phase := .fallbackTuning } }).LoadsLawful :=
    law.modSame fun x hx => by
      obtain rfl : g = x := Option.some.inj (hg.symm.trans hx)
      exact ⟨rfl, rfl, fun u => by simp [LevelUnit.loadOf, LevelUnit.effective, Grant.copies, hm], .inl rfl⟩
  unfold State.beginFallback
  dsimp only
  split
  · exact falls.fallbackFails i
  · exact falls.attempt ..

/-- A tuning that fails: of the callers, only a move's target leaves a grant that goes on carrying (R147). -/
theorem State.LoadsLawful.tuningFails {c : Caller} (moves : c = .moveTarget → s.MovesLawful) (i : Fin 64) :
    (s.tuningFails i c).LoadsLawful := by
  unfold State.tuningFails
  split
  · exact law
  · rename_i g hg
    cases c with
    | activation => exact (law.fallBack i).setOutcome i _
    | relock => exact law.fallBack i
    | moveTarget =>
      dsimp only
      split
      · exact law
      · rename_i m hm
        split
        · exact law.stayBehind (moves rfl) i _
        · exact law.beginFallback hg hm
    | fallback => exact law.fallbackFails i
    | test => exact law

theorem State.LoadsLawful.tuningSucceeds (moves : s.MovesLawful) {i : Fin 64} {c : Caller}
    (awaits : ∀ g, s.grant? i = some g → g.awaits c = true) (j : SlotId) : (s.tuningSucceeds i c j).LoadsLawful := by
  cases c with
  | activation => exact law.carrierUp (fun g hg => by simpa [Grant.awaits] using awaits g hg) j
  | relock => exact law.carrierUp (fun g hg => by simpa [Grant.awaits] using awaits g hg) j
  | moveTarget => exact law.arrive moves i j
  | fallback => exact law.stayBehind moves i _
  | test => exact law

theorem State.LoadsLawful.seekRetry {c : Caller} (moves : c = .moveTarget → s.MovesLawful) (i : Fin 64) (j : SlotId) :
    (s.seekRetry i c j).LoadsLawful := by
  unfold State.seekRetry
  split
  · exact law
  · split
    · exact law.tuningFails moves i
    · exact law.attempt ..

theorem State.LoadsLawful.attemptFails (moves : s.MovesLawful) (j : SlotId) (a : Attempt) :
    (s.attemptFails j a).LoadsLawful := by
  have failed : (s.failSlot j).LoadsLawful := law.apart (by simp) (by simp)
  have kept : (s.failSlot j).MovesLawful := moves.of_table (by simp)
  unfold State.attemptFails
  split
  · exact law.apart (by simp) (by simp)
  · split
    · exact failed
    · split
      · exact failed
      · split
        · split
          · exact failed.tuningFails (fun _ => kept) _
          · exact failed.seekRetry (fun _ => kept) ..
        · exact failed

theorem State.LoadsLawful.attemptLocks (moves : s.MovesLawful) (j : SlotId) (a : Attempt) :
    (s.attemptLocks j a).LoadsLawful := by
  have locked : (s.lockSlot j).LoadsLawful := law.apart (by simp) (by simp)
  unfold State.attemptLocks
  split
  · exact law.apart (by simp) (by simp)
  · split
    · exact locked
    · rename_i h _
      split
      · exact locked
      · rename_i g current
        split
        · rename_i awaits
          refine locked.tuningSucceeds (moves.of_table (by simp)) (fun x hx => ?_) j
          have same : (s.lockSlot j).grant? h.entry = s.grant? h.entry := State.grant_congr (by simp) _
          obtain rfl := Option.some.inj ((State.grantOf_some current).1.symm.trans (same.symm.trans hx))
          exact awaits
        · exact locked

/-! ### Loss of lock (R68, R114, R145) -/

theorem State.LoadsLawful.lockLoss {i : Fin 64} {g : Grant} (hg : s.grant? i = some g) (carries : g.carries = true)
    (j : SlotId) : (s.lockLoss j i g).LoadsLawful := by
  have same := Grant.SameLoad.lost carries
  have lost : (s.lockLost j i).LoadsLawful :=
    law.lightened (by simp [State.lockLost]) (.lockLost s j i) hg (by rw [State.grant?, State.entry_lockLost hg])
      (same.lawful (law.grant hg)) rfl le_rfl
  rw [State.lockLoss_eq]
  split
  · exact lost.seekRetry (c := .relock) nofun ..
  · exact lost.beginAttempt ..

theorem State.LoadsLawful.seamlessLoss (moves : s.MovesLawful) {i : Fin 64} {g : Grant} (hg : s.grant? i = some g)
    {m : MoveContext} (hm : g.move = some m) (j : SlotId) : (s.seamlessLoss j i m).LoadsLawful := by
  have moving : g.state = .moving := (moves i g hg).2 (by rw [hm]; rfl)
  obtain ⟨v, eq, -, entry, entries, -, around, -⟩ := State.seamlessLoss_spec (j := j) hg moving m
  have hard : v.LoadsLawful :=
    law.single around.levels entries hg (by rw [State.grant?, entry]) (moves.follows hg hm)
      (.hardened (moves.follows hg hm) m s.levels)
  rw [eq]
  exact (hard.noteLoad s).apart (by simp) (by simp)

theorem State.LoadsLawful.lossOfLock (moves : s.MovesLawful) (j : SlotId) : (s.lossOfLock j).LoadsLawful := by
  have counted : (s.countLoss j).LoadsLawful := law.apart (by simp) (by simp)
  unfold State.lossOfLock
  split
  · exact counted
  · split
    · exact counted
    · rename_i g current
      obtain ⟨hg, -⟩ := State.grantOf_some current
      split
      · rename_i carries
        exact law.lockLoss hg carries j
      · split
        · exact counted
        · rename_i m hm
          split
          · exact law.seamlessLoss moves hg hm j
          · exact counted

/-! ### Reports on the carrier link (R106) -/

theorem State.LoadsLawful.lockedOn (moves : s.MovesLawful) (j : SlotId) : (s.lockedOn j).LoadsLawful := by
  unfold State.lockedOn
  split
  · exact law.attemptLocks moves ..
  all_goals exact law

theorem State.LoadsLawful.failedOn (moves : s.MovesLawful) (j : SlotId) : (s.failedOn j).LoadsLawful := by
  unfold State.failedOn
  split
  · exact law.attemptFails moves ..
  all_goals exact law

theorem State.LoadsLawful.lostOn (moves : s.MovesLawful) (j : SlotId) : (s.lostOn j).LoadsLawful := by
  unfold State.lostOn
  split
  · exact law.attemptFails moves ..
  · exact law.lossOfLock moves ..
  all_goals exact law

end Sys2Proof.Machine
end

section
/-! ## Watches, restarts, pilot samples and timers keep the law of loads (R45, R75, R133, R165 to R181) -/

namespace Sys2Proof.Machine

/-! ### Records of counts and of timers -/

/-- A count that changes LIVE to IMPAIRED leaves the load (R47, R176). -/
theorem Grant.SameLoad.impairUp (g : Grant) : g.SameLoad g.impairUp := by
  unfold Grant.impairUp
  split
  · rename_i live
    exact ⟨rfl, rfl, fun _ => rfl, .inr ⟨by rw [live.1]; rfl, rfl⟩⟩
  · exact ⟨rfl, rfl, fun _ => rfl, .inl rfl⟩

theorem Grant.SameLoad.impairDown (g : Grant) : g.SameLoad g.impairDown := by
  unfold Grant.impairDown
  split
  · rename_i impaired
    exact ⟨rfl, rfl, fun _ => rfl, .inr ⟨by rw [impaired.1]; rfl, rfl⟩⟩
  · exact ⟨rfl, rfl, fun _ => rfl, .inl rfl⟩

/-- A millisecond changes the timers of a grant only (R75). -/
theorem Grant.SameLoad.tick (g : Grant) : g.SameLoad g.tick := by
  obtain ⟨_, _, lease⟩ := g.leaseTicked_eq
  obtain ⟨_, _, hold⟩ := g.leaseTicked.holdTicked_eq
  rw [Grant.tick_eq, hold, lease]
  exact ⟨rfl, rfl, fun _ => rfl, .inl rfl⟩

/-- So each share of a band's load is as it was. -/
theorem shareOf_tick (b : Band) (x : Option Grant) :
    shareOf b (·.counted) (x.map Grant.tick) = shareOf b (·.counted) x := by
  cases x with
  | none => rfl
  | some g =>
    have same := Grant.SameLoad.tick g
    simp only [shareOf, Option.map_some, Option.elim_some, same.band, same.counted]

theorem State.grant_tick_eq_map (s : State) (i : Fin 64) : s.tick.grant? i = (s.grant? i).map Grant.tick := by
  rw [State.grant?, s.entry_tick]
  rfl

@[simp] theorem State.haltSlots_levels (l : List SlotId) : ∀ s : State, (s.haltSlots l).levels = s.levels := by
  induction l with
  | nil => exact fun _ => rfl
  | cons j l ih => exact fun s => (ih _).trans (by simp)

theorem State.tick_levels (s : State) : s.tick.levels = s.levels := by
  unfold State.tick
  rfl

variable {s : State} (law : s.LoadsLawful)
include law

/-! ### Watches (R165, R167, R168, R176) -/

theorem State.LoadsLawful.modNamed (h : Handle) {f : Grant → Grant} (same : ∀ g : Grant, g.SameLoad (f g)) :
    (s.modNamed h f).LoadsLawful := by
  unfold State.modNamed
  split
  · exact law
  · exact law.modSame fun g _ => same g

theorem State.LoadsLawful.turned (w : Watch) (now : Bool) : (s.turned w now).LoadsLawful := by
  unfold State.turned
  split
  · exact law
  · rename_i h _
    split
    · split
      · have up := law.modNamed h Grant.SameLoad.impairUp
        dsimp only
        split
        · exact up.apart (by simp) (by simp)
        · exact up
      · exact law.modNamed h Grant.SameLoad.impairDown
    · exact law

theorem State.LoadsLawful.compareAt (n : Fin 32) (w : Watch) (r : Byte) : (s.compareAt n w r).LoadsLawful := by
  unfold State.compareAt
  extract_lets lower upper now s₁ s₂ s₃
  have compared : s₂.LoadsLawful := law.apart (by unfold s₂; split <;> simp [s₁]) (by unfold s₂; split <;> simp [s₁])
  have acted : s₃.LoadsLawful := by
    unfold s₃
    split
    · exact compared.turned ..
    · exact compared
  exact acted.apart (by simp) (by simp)

theorem State.LoadsLawful.actOn (n : Fin 32) (r : Byte) : (s.actOn n r).LoadsLawful := by
  unfold State.actOn
  split
  · split
    · exact law.compareAt ..
    · exact law.apart (by simp) (by simp)
    · exact State.LoadsLawful.compareAt (law.apart (by simp) (by simp)) ..
  · exact law

theorem State.LoadsLawful.withdrawWatch (w : Watch) : (s.withdrawWatch w).LoadsLawful := by
  unfold State.withdrawWatch
  split
  · exact law
  · split
    · exact law.modNamed _ Grant.SameLoad.impairDown
    · exact law

theorem State.LoadsLawful.emptyPosition (n : Fin 32) : (s.emptyPosition n).LoadsLawful := by
  unfold State.emptyPosition
  split
  · rename_i w _
    unfold State.removeWatch
    dsimp only
    split <;> exact (law.withdrawWatch w).apart (by simp) (by simp)
  · exact law
  · exact law

theorem State.LoadsLawful.continueSweep : s.continueSweep.LoadsLawful := law.apart (by simp) (by simp)

theorem State.LoadsLawful.takeReading (tag value : Byte) : (s.takeReading tag value).LoadsLawful := by
  unfold State.takeReading
  split
  · exact law
  · split
    · have ended : (s.withMonitor fun m => { m with inFlight := none }).LoadsLawful := law.apart (by simp) (by simp)
      dsimp only
      split
      · exact ended.continueSweep
      · exact (ended.actOn ..).continueSweep
    · exact law

/-! ### RESTART and pilot samples (R45, R133) -/

theorem State.LoadsLawful.restartEntry (i : Fin 64) : (s.restartEntry i).LoadsLawful := by
  rcases s.restartEntry_cases i with ⟨-, eq⟩ | ⟨g, -, -, eq⟩ | ⟨g, -, -, eq⟩
  · rwa [eq]
  · rw [eq]
    exact law.news i false
  · rw [eq]
    have halted : (s.haltSlots (slotsOf g)).LoadsLawful := law.apart (by simp) (by simp)
    exact (halted.setOutcome i .revoked).freeEntry i

omit law in
theorem State.LoadsLawful.restartEntries (l : List (Fin 64)) :
    ∀ {s : State}, s.LoadsLawful → (s.restartEntries l).LoadsLawful := by
  induction l with
  | nil => exact id
  | cons i l ih => exact fun law => ih (law.restartEntry i)

theorem State.LoadsLawful.warmRestart : s.warmRestart.1.LoadsLawful := by
  have engine : s.restartEngine.LoadsLawful := law.apart rfl rfl
  have freed : s.grantsRestarted.LoadsLawful := .restartEntries entryNumbers engine
  obtain ⟨table, -, levels, -⟩ := s.restarted_noteLoad
  have blocks : s.restarted.LoadsLawful := (freed.noteLoad s).apart table levels
  rw [State.warmRestart_eq]
  exact blocks.apart (by simp) (by simp)

/-- A pilot sample is written, and the trim sought for it (R133). -/
theorem State.LoadsLawful.takePilot (p : Byte) : (s.takePilot p).LoadsLawful :=
  (law.loaded.setReading p).trackPilot.apart (by simp [State.takePilot]) (by simp [State.takePilot])

/-! ### The millisecond (R75) -/

theorem State.LoadsLawful.tick : s.tick.LoadsLawful := by
  obtain ⟨loads, pilot⟩ := s.loadsLawful_iff.1 law
  refine s.tick.loadsLawful_iff.2 ⟨⟨fun i g' hg' => ?_, fun b => ?_⟩, by rwa [s.tick_levels]⟩
  · rw [s.grant_tick_eq_map] at hg'
    obtain ⟨g, hg, rfl⟩ := Option.map_eq_some_iff.1 hg'
    rw [s.tick_levels]
    exact (Grant.SameLoad.tick g).lawful (loads.grants i g hg)
  · have same : s.tick.bandLoad b = s.bandLoad b := by
      rw [State.bandLoad_eq, State.bandLoad_eq]
      refine sumOver_congr fun i => ?_
      rw [s.grant_tick_eq_map, shareOf_tick]
    rw [same, State.budget, s.tick_levels]
    exact loads.budget b

theorem State.LoadsLawful.idle : s.idle.LoadsLawful := by
  unfold State.idle
  split
  · exact law.apart rfl rfl
  · split
    · exact law
    · exact law.tick

omit law in
theorem State.coldStart_loadsLawful (s : State) : s.coldStart.LoadsLawful := State.loadsLawful_reset.apart rfl rfl

end Sys2Proof.Machine
end

section
/-! ## The requests keep the law of loads -/

namespace Sys2Proof.Machine

/-! ### Room for an activation and for a move -/

/-- An activation has passed the check of its band's budget (R51, R125). -/
theorem State.room_of_activation {s : State} {g : Grant} {j : SlotId} (h : s.activation g = .ok j) :
    s.bandLoad g.band + s.levels.loadOf g ≤ s.budget g.band := by
  unfold State.activation at h
  split at h
  · cases h
  · split at h
    · cases h
    · split at h
      · cases h
      · split at h
        · cases h
        · rename_i fits
          have room := (s.overBudget_none_iff _).1 fits g.band
          rwa [State.loadWith, if_pos rfl] at room

/-- An activated grant draws the load that its record asks for (R122). -/
theorem LevelUnit.recount_activated (u : LevelUnit) (g : Grant) (j : SlotId) (byTenant : Bool) :
    (u.recount (g.activated j byTenant)).counted = u.loadOf g := by
  rw [u.recount_follows (g := g.activated j byTenant) rfl]
  rfl

/-- A grant that a MOVE admits is RESERVED or follows its level (R137). -/
theorem State.follows_of_moveChecks {s : State} {r : Req} {g : Grant} {target : Option Nat} {start : Nat}
    (passed : s.moveChecks r g target = .ok start) (carries : g.state ≠ .reserved) : g.state.follows = true := by
  by_cases movable : g.state = .reserved ∨ g.state = .live ∨ g.state = .impaired
  · exact GrantState.follows_of_carrying (movable.resolve_left carries)
  · rw [State.moveChecks_badState movable] at passed
    cases passed

section Law

variable {s : State} (law : s.LoadsLawful)
include law

/-- A grant that RESERVE makes draws nothing (R38). -/
theorem State.LoadsLawful.grantAdded (r : Req) (w : Wish) (i : Fin 64) (start : Nat) :
    (s.grantAdded r w i start).LoadsLawful := by
  have made : (s.grantAdded r w i start).grant? i =
      some (newGrant r.port w start (s.wishWidth w) s.plan.settings.holdTime) := by
    rw [State.grant?, State.entry_grantAdded]
    rfl
  refine law.eased (by simp [State.grantAdded]) (.grantAdded s r w i start) (fun g hg => ?_) fun b => ?_
  · obtain rfl := Option.some.inj (made.symm.trans hg)
    exact ⟨nofun, fun _ => rfl⟩
  · have none : shareOf b (·.counted) ((s.grantAdded r w i start).grant? i) = 0 := by
      rw [made]
      exact ite_self _
    rw [none]
    exact Nat.zero_le _

theorem State.LoadsLawful.beginActivation {i : Fin 64} {g : Grant} (hg : s.grant? i = some g) {j : SlotId}
    (ok : s.activation g = .ok j) (byTenant : Bool) : (s.beginActivation i g j byTenant).LoadsLawful := by
  have activated : ((s.modGrant i (·.activated j byTenant)).recount i).LoadsLawful :=
    law.recounted (by simp) (.modGrant s i _) hg (State.grant_modGrant_same s hg _) rfl (by
      rw [LevelUnit.recount_activated]
      exact Nat.le_add_right_of_le (State.room_of_activation ok))
  exact activated.beginAttempt ..

variable (r : Req)

/-! ### The plan store, the profiles (R1 to R15, R93 to R96) -/

theorem State.LoadsLawful.plan (p : PlanStore) : (s.withPlan p).LoadsLawful := law.apart rfl rfl

theorem State.LoadsLawful.stageRegion : (Machine.stageRegion r s).1.LoadsLawful := by
  unfold Machine.stageRegion
  split
  · refine managementRequest_keeps law ?_
    split
    · exact law
    · exact law.plan _
  · exact law

theorem State.LoadsLawful.discardStaged : (Machine.discardStaged r s).1.LoadsLawful :=
  managementRequest_keeps law (law.plan _)

theorem State.LoadsLawful.freezeRegion : (Machine.freezeRegion r s).1.LoadsLawful := by
  unfold Machine.freezeRegion
  split
  · exact managementRequest_keeps law (law.plan _)
  · exact law

theorem State.LoadsLawful.setGuard : (Machine.setGuard r s).1.LoadsLawful := by
  refine managementRequest_keeps law ?_
  split
  · exact law
  · exact law.plan _

theorem State.LoadsLawful.setTenant : (Machine.setTenant r s).1.LoadsLawful := by
  unfold Machine.setTenant
  split
  · refine managementRequest_keeps law ?_
    split
    · exact law
    · exact law.plan _
  · exact law

theorem State.LoadsLawful.switchStart (old : Settings) (b : Band) : (s.switchStart old b).LoadsLawful := by
  unfold State.switchStart
  split
  · exact law.startRepack b
  · exact law

theorem State.LoadsLawful.setPlanSettings : (Machine.setPlanSettings r s).1.LoadsLawful := by
  unfold Machine.setPlanSettings
  split
  · exact law
  · exact managementRequest_keeps law (((law.plan _).switchStart _ .up).switchStart _ .down)

theorem State.LoadsLawful.writeProfile : (Machine.writeProfile r s).1.LoadsLawful := by
  unfold Machine.writeProfile
  split
  · refine managementRequest_keeps law ?_
    split
    · exact law
    · exact law.apart rfl rfl
  · exact law

theorem State.LoadsLawful.clearProfile : (Machine.clearProfile r s).1.LoadsLawful := by
  unfold Machine.clearProfile
  split
  · exact law
  · refine managementRequest_keeps law ?_
    split
    · exact law
    · exact law.apart rfl rfl

/-! ### The grant table (R31 to R44, R188) -/

theorem State.LoadsLawful.reserve : (Machine.reserve r s).1.LoadsLawful := by
  unfold Machine.reserve
  split
  · exact law
  · split
    · split
      · exact law
      · refine enabledTenant_keeps law ?_
        split
        · exact law
        · exact (law.grantAdded r ..).refreshFrag _
    · exact law

theorem State.LoadsLawful.lookup : (Machine.lookup r s).1.LoadsLawful :=
  ownHandle_keeps law fun i g _ => by
    unfold answerDone
    dsimp only
    split
    · exact law.news i false
    · exact law

omit law in
theorem State.LoadsLawful.clearNews (l : List (Fin 64)) :
    ∀ {s : State}, s.LoadsLawful → (s.clearNews l).LoadsLawful := by
  induction l with
  | nil => exact id
  | cons i l ih => exact fun law => ih (law.news i false)

theorem State.LoadsLawful.readNews : (Machine.readNews r s).1.LoadsLawful := by
  unfold Machine.readNews
  split
  · exact law
  · exact enabledTenant_keeps law (.clearNews _ law)

/-! ### The lives and the protection of grants (R51 to R61, R78 to R86) -/

theorem State.LoadsLawful.activate : (Machine.activate r s).1.LoadsLawful :=
  ownHandle_keeps law fun i g hg => by
    split
    · exact law
    · rename_i ok
      exact (law.beginActivation hg ok _).accepted _

theorem State.LoadsLawful.renew : (Machine.renew r s).1.LoadsLawful :=
  ownHandle_keeps law fun i g _ => by
    split
    · exact law
    · split
      · exact law
      · exact law.modSame fun _ _ => ⟨rfl, rfl, fun _ => rfl, .inl rfl⟩

theorem State.LoadsLawful.endedReply (i : Fin 64) (o : LastOutcome) (byTenant cut : Bool) :
    ((s.endGrant i o byTenant cut).endedReply i).1.LoadsLawful := by
  rw [State.endedReply_fst]
  exact law.endGrant ..

theorem State.LoadsLawful.withdraw : (Machine.withdraw r s).1.LoadsLawful :=
  ownHandle_keeps law fun i g _ => by
    split
    · exact law
    · split
      · exact law
      · split
        · exact law
        · exact law.endedReply ..

theorem State.LoadsLawful.revoke : (Machine.revoke r s).1.LoadsLawful := by
  unfold Machine.revoke
  split
  · exact law
  · refine managementHandle_keeps law fun i g _ => ?_
    split
    · exact law
    · split
      · exact law
      · exact law.endedReply ..

theorem State.LoadsLawful.hold : (Machine.hold r s).1.LoadsLawful :=
  managementHandle_keeps law fun i g _ => by
    split
    · exact law
    · exact law.modSame fun _ _ => ⟨rfl, rfl, fun _ => rfl, .inl rfl⟩

theorem State.LoadsLawful.unhold : (Machine.unhold r s).1.LoadsLawful :=
  managementHandle_keeps law fun i g _ => by
    split
    · exact law
    · exact law.modSame fun _ _ => ⟨rfl, rfl, fun _ => rfl, .inl rfl⟩

theorem State.LoadsLawful.pin : (Machine.pin r s).1.LoadsLawful :=
  managementHandle_keeps law fun i g _ => by
    split
    · exact law
    · split
      · exact law
      · exact law.modSame fun _ _ => ⟨rfl, rfl, fun _ => rfl, .inl rfl⟩

theorem State.LoadsLawful.setPlanFrozen (frozen : Bool) : (s.setPlanFrozen frozen).LoadsLawful := law.beside rfl rfl

/-- FREEZE_PLAN stops a repack that runs (R86). -/
theorem State.LoadsLawful.freezePlan (moves : s.engine.repack.running = true → s.MovesLawful) :
    (Machine.freezePlan r s).1.LoadsLawful := by
  unfold Machine.freezePlan
  split
  · exact law
  · refine managementRequest_keeps law ?_
    unfold answerDone
    dsimp only
    split
    · exact (law.setPlanFrozen true).stopRepack fun running i g hg => moves running i g hg
    · exact law.setPlanFrozen false

/-! ### Moves (R137 to R141, R151, R156, R160) -/

theorem State.LoadsLawful.carryOutMove {i : Fin 64} {g : Grant} (hg : s.grant? i = some g)
    (follows : g.state ≠ .reserved → g.state.follows = true) (start : Nat) (kind : Option MoveKind) :
    (s.carryOutMove r i g start kind).1.LoadsLawful := by
  unfold State.carryOutMove
  split
  · exact ((law.moveReserved hg ..).refreshFrag _).done _
  · rename_i carries
    split
    · exact law
    · rename_i plan
      exact ((law.beginMove hg (follows carries) (State.roomForSecond_of_movePlan plan) ..).refreshFrag _).accepted _

theorem State.LoadsLawful.move : (Machine.move r s).1.LoadsLawful := by
  unfold Machine.move
  split
  · refine ownHandle_keeps law fun i g hg => ?_
    split
    · exact law
    · rename_i passed
      exact law.carryOutMove r hg (State.follows_of_moveChecks passed) ..
  · exact law

theorem State.LoadsLawful.repack : (Machine.repack r s).1.LoadsLawful := by
  unfold Machine.repack
  split
  · exact law
  · refine managementRequest_keeps law ?_
    split
    · exact law
    · split
      · exact law
      · exact law.startRepack _

theorem State.LoadsLawful.stopRepackRequest (moves : s.engine.repack.running = true → s.MovesLawful) :
    (Machine.stopRepack r s).1.LoadsLawful :=
  managementRequest_keeps law (law.stopRepack moves)

theorem State.LoadsLawful.autoMove {i : Fin 64} {g : Grant} (hg : s.grant? i = some g) (follows : g.state.follows = true) :
    (s.autoMove i g).LoadsLawful := by
  unfold State.autoMove
  split
  · exact (law.setOutcome i .noTarget).news i true
  · split
    · exact law
    · rename_i plan
      exact (law.beginMove hg follows (State.roomForSecond_of_anyPlan plan) ..).refreshFrag _

theorem State.LoadsLawful.takeAsk : s.takeAsk.LoadsLawful := by
  unfold State.takeAsk
  split
  · exact law
  · rename_i a rest _
    have taken : ({ s with engine := { s.engine with asks := rest } } : State).LoadsLawful := law.apart rfl rfl
    dsimp only
    split
    · exact taken
    · rename_i g current
      obtain ⟨hg, -⟩ := State.grantOf_some current
      split
      · exact taken
      · rename_i permitted
        obtain ⟨-, carries, -⟩ := (State.askForbidden_eq_false_iff _ a g).1 (by simpa using permitted)
        exact taken.autoMove hg (GrantState.follows_of_carrying carries)

/-! ### The monitor and the ports (R166 to R175, R186) -/

theorem State.LoadsLawful.setWatch : (Machine.setWatch r s).1.LoadsLawful := by
  unfold Machine.setWatch
  split
  · exact law
  · rename_i n _
    split
    · exact law
    · refine managementRequest_keeps law ?_
      split
      · exact law
      · split
        · exact law
        · exact State.LoadsLawful.done ((law.emptyPosition n).apart (by simp) (by simp)) _

theorem State.LoadsLawful.clearWatch : (Machine.clearWatch r s).1.LoadsLawful := by
  unfold Machine.clearWatch
  split
  · exact law
  · refine managementRequest_keeps law ?_
    split
    · exact law
    · exact law.emptyPosition _

theorem State.LoadsLawful.setSweep : (Machine.setSweep r s).1.LoadsLawful := by
  unfold Machine.setSweep
  split
  · exact law
  · exact managementRequest_keeps law (State.LoadsLawful.done (law.apart (by simp) (by simp)) _)

theorem State.LoadsLawful.sweep : (Machine.sweep r s).1.LoadsLawful := by
  refine managementRequest_keeps law ?_
  split
  · exact law
  · exact State.LoadsLawful.accepted (law.apart (by simp) (by simp)) _

theorem State.LoadsLawful.clearHits : (Machine.clearHits r s).1.LoadsLawful :=
  managementRequest_keeps law (law.apart rfl rfl)

theorem State.LoadsLawful.readEvents : (Machine.readEvents r s).1.LoadsLawful :=
  managementRequest_keeps law (law.apart rfl rfl)

theorem State.LoadsLawful.setEventMask : (Machine.setEventMask r s).1.LoadsLawful :=
  managementRequest_keeps law (law.apart rfl rfl)

theorem State.LoadsLawful.restart : (Machine.restart r s).1.LoadsLawful :=
  managementRequest_keeps law (law.warmRestart.done _)

end Law

end Sys2Proof.Machine
end

section
/-! ## Every command keeps the law of loads -/

namespace Sys2Proof.Machine

/-! ### The state that a frame leaves for its handler -/

/-- The law of loads, and the law of moves as far as a handler needs it: the taking of a priority frame has stopped a
repack (R160), after which no handler abandons a move. -/
structure State.Served (s : State) : Prop where
  loads : s.LoadsLawful
  moves : s.engine.repack.running = true → s.MovesLawful

theorem State.stopRepack_running (s : State) : s.stopRepack.engine.repack.running = false := by
  unfold State.stopRepack
  split
  · rfl
  · rename_i idle
    simpa using idle

theorem State.removeFrame_table (s : State) (src : Source) : (s.removeFrame src).table = s.table := by
  cases src with
  | priority => rfl
  | queue p => simp [State.removeFrame]

theorem State.removeFrame_levels (s : State) (src : Source) : (s.removeFrame src).levels = s.levels := by
  cases src with
  | priority => rfl
  | queue p => simp [State.removeFrame]

section Events

variable {s : State} (law : s.LoadsLawful)
include law

theorem State.LoadsLawful.served (moves : s.MovesLawful) (src : Source) : (s.taken src).Served := by
  have removed : (s.removeFrame src).LoadsLawful := law.apart (s.removeFrame_table src) (s.removeFrame_levels src)
  have kept : (s.removeFrame src).MovesLawful := moves.of_table (s.removeFrame_table src)
  cases src with
  | priority =>
    have stopped : ((s.removeFrame .priority).stopRepack).engine.repack.running = false := State.stopRepack_running _
    exact ⟨removed.stopRepack fun _ => kept, fun running => absurd (stopped.symm.trans running) Bool.noConfusion⟩
  | queue p => exact ⟨removed, fun _ => kept⟩

/-- A request row whose handler keeps the law of loads keeps it. -/
theorem State.LoadsLawful.serve (moves : s.MovesLawful) {row : Instr} {handler : Handler}
    (h : ∀ r u, u.Served → (handler r u).1.LoadsLawful) : (s.serve row handler).LoadsLawful := by
  rcases s.serve_cases row handler with eq | ⟨src, f, -, -, eq⟩
  · rwa [eq]
  · rw [eq]
    have handled := h (requestOf src.port f) (s.taken src) (law.served moves src)
    exact handled.apart (by simp [State.answer]) (by simp [State.answer])

/-- So does a row whose handler only reads. -/
theorem State.LoadsLawful.serveReader (moves : s.MovesLawful) {row : Instr} {handler : Handler}
    (reads : ∀ r u, (handler r u).1 = u) : (s.serve row handler).LoadsLawful :=
  law.serve moves fun r u h => by
    rw [reads]
    exact h.loads

/-! ### Expiries -/

theorem State.LoadsLawful.whileRunning {run : State} (h : run.LoadsLawful) : (s.whileRunning run).LoadsLawful :=
  State.whileRunning_keeps law h

theorem State.LoadsLawful.holdExpiry (i : Fin 64) :
    (s.onGrant i fun g => if g.holdRuns then (s.setOutcome i .lapsed).freeByTimer i g else s).LoadsLawful :=
  State.onGrant_keeps law fun g _ => by
    split
    · exact (law.setOutcome i .lapsed).freeByTimer i g
    · exact law

theorem State.LoadsLawful.leaseExpiry (i : Fin 64) :
    (s.onGrant i fun g =>
      if g.leaseRuns then (s.endGrant i .expired false false).raise .leaseExpired else s).LoadsLawful :=
  State.onGrant_keeps law fun g _ => by
    split
    · exact (law.endGrant i .expired false false).apart rfl rfl
    · exact law

theorem State.LoadsLawful.drainExpiry (i : Fin 64) :
    (s.onGrant i fun g => if g.state = .draining then s.endDrain i g else s).LoadsLawful :=
  State.onGrant_keeps law fun g _ => by
    split
    · exact law.endDrain i g
    · exact law

theorem State.LoadsLawful.quietExpiry (i : Fin 64) :
    (s.onGrant i fun g => if g.state = .quiet then s.freeByTimer i g else s).LoadsLawful :=
  State.onGrant_keeps law fun g _ => by
    split
    · exact law.freeByTimer i g
    · exact law

theorem State.LoadsLawful.settleExpiry (k : Fin 8) :
    (s.whileRunning
      (if (s.profile k).state = .settling then s.setProfile k (s.profile k).settled else s)).LoadsLawful := by
  refine law.whileRunning ?_
  split
  · exact law.apart rfl rfl
  · exact law

theorem State.LoadsLawful.portsOnly {t : State} (h : PortsOnly s t) : t.LoadsLawful := by
  rw [h]
  exact law.apart rfl rfl

end Events

/-- Every command keeps the law of loads, when moves are lawful. -/
theorem exec_loadsLawful (c : Instr) {s : State} (moves : s.MovesLawful) (law : s.LoadsLawful) :
    ∃ t, exec c s = .next t ∧ t.LoadsLawful := by
  cases c with
  | writeRequest p part => exact ⟨_, rfl, law.portsOnly (.write s p false part)⟩
  | writeRequestPriority p part => exact ⟨_, rfl, law.portsOnly (.write s p true part)⟩
  | readResponse p part => exact ⟨_, rfl, law.portsOnly (.read (.readOldest p) s part)⟩
  | readStatus p part => exact ⟨_, rfl, law.portsOnly (.read (.readCounts p) s part)⟩
  | otherCommandByte p command part =>
    refine ⟨_, rfl, ?_⟩
    split
    · exact law.portsOnly (.read (fun _ t => .setPort t p _) s part)
    · exact law
  | badRequestFrame => exact ⟨_, rfl, law.serve moves fun _ _ h => h.loads⟩
  | notReadyAnswer => exact ⟨_, rfl, law.serve moves fun _ _ h => h.loads⟩
  | stageRegion => exact ⟨_, rfl, law.serve moves fun r _ h => h.loads.stageRegion r⟩
  | discardStaged => exact ⟨_, rfl, law.serve moves fun r _ h => h.loads.discardStaged r⟩
  | freezeRegion => exact ⟨_, rfl, law.serve moves fun r _ h => h.loads.freezeRegion r⟩
  | readRegion => exact ⟨_, rfl, law.serveReader moves readRegion_fst⟩
  | setGuard => exact ⟨_, rfl, law.serve moves fun r _ h => h.loads.setGuard r⟩
  | setTenant => exact ⟨_, rfl, law.serve moves fun r _ h => h.loads.setTenant r⟩
  | readTenant => exact ⟨_, rfl, law.serveReader moves readTenant_fst⟩
  | setPlanSettings => exact ⟨_, rfl, law.serve moves fun r _ h => h.loads.setPlanSettings r⟩
  | readSettings => exact ⟨_, rfl, law.serve moves fun _ _ h => managementRequest_keeps h.loads h.loads⟩
  | reserve => exact ⟨_, rfl, law.serve moves fun r _ h => h.loads.reserve r⟩
  | lookup => exact ⟨_, rfl, law.serve moves fun r _ h => h.loads.lookup r⟩
  | find => exact ⟨_, rfl, law.serveReader moves find_fst⟩
  | listOwn => exact ⟨_, rfl, law.serveReader moves listOwn_fst⟩
  | listBand => exact ⟨_, rfl, law.serveReader moves listBand_fst⟩
  | activate => exact ⟨_, rfl, law.serve moves fun r _ h => h.loads.activate r⟩
  | renew => exact ⟨_, rfl, law.serve moves fun r _ h => h.loads.renew r⟩
  | withdraw => exact ⟨_, rfl, law.serve moves fun r _ h => h.loads.withdraw r⟩
  | revoke => exact ⟨_, rfl, law.serve moves fun r _ h => h.loads.revoke r⟩
  | hold => exact ⟨_, rfl, law.serve moves fun r _ h => h.loads.hold r⟩
  | unhold => exact ⟨_, rfl, law.serve moves fun r _ h => h.loads.unhold r⟩
  | pin => exact ⟨_, rfl, law.serve moves fun r _ h => h.loads.pin r⟩
  | freezePlan => exact ⟨_, rfl, law.serve moves fun r _ h => h.loads.freezePlan r h.moves⟩
  | writeProfile => exact ⟨_, rfl, law.serve moves fun r _ h => h.loads.writeProfile r⟩
  | clearProfile => exact ⟨_, rfl, law.serve moves fun r _ h => h.loads.clearProfile r⟩
  | readProfile => exact ⟨_, rfl, law.serveReader moves readProfile_fst⟩
  | readSlot => exact ⟨_, rfl, law.serveReader moves readSlot_fst⟩
  | setLevel => exact ⟨_, rfl, law.serve moves fun r _ h => h.loads.setLevel r⟩
  | assignGroup => exact ⟨_, rfl, law.serve moves fun r _ h => h.loads.assignGroup r⟩
  | setGroup => exact ⟨_, rfl, law.serve moves fun r _ h => h.loads.setGroup r⟩
  | setBudget => exact ⟨_, rfl, law.serve moves fun r _ h => h.loads.setBudget r⟩
  | readLevels => exact ⟨_, rfl, law.serve moves fun _ _ h => managementRequest_keeps h.loads h.loads⟩
  | move => exact ⟨_, rfl, law.serve moves fun r _ h => h.loads.move r⟩
  | repack => exact ⟨_, rfl, law.serve moves fun r _ h => h.loads.repack r⟩
  | stopRepack => exact ⟨_, rfl, law.serve moves fun r _ h => h.loads.stopRepackRequest r h.moves⟩
  | setWatch => exact ⟨_, rfl, law.serve moves fun r _ h => h.loads.setWatch r⟩
  | clearWatch => exact ⟨_, rfl, law.serve moves fun r _ h => h.loads.clearWatch r⟩
  | readWatch => exact ⟨_, rfl, law.serveReader moves readWatch_fst⟩
  | setSweep => exact ⟨_, rfl, law.serve moves fun r _ h => h.loads.setSweep r⟩
  | sweep => exact ⟨_, rfl, law.serve moves fun r _ h => h.loads.sweep r⟩
  | readResults => exact ⟨_, rfl, law.serve moves fun _ _ h => managementRequest_keeps h.loads h.loads⟩
  | readHits => exact ⟨_, rfl, law.serve moves fun _ _ h => managementRequest_keeps h.loads h.loads⟩
  | clearHits => exact ⟨_, rfl, law.serve moves fun r _ h => h.loads.clearHits r⟩
  | readEvents => exact ⟨_, rfl, law.serve moves fun r _ h => h.loads.readEvents r⟩
  | setEventMask => exact ⟨_, rfl, law.serve moves fun r _ h => h.loads.setEventMask r⟩
  | readNews => exact ⟨_, rfl, law.serve moves fun r _ h => h.loads.readNews r⟩
  | status => exact ⟨_, rfl, law.serve moves fun _ _ h => enabledTenant_keeps h.loads h.loads⟩
  | restart => exact ⟨_, rfl, law.serve moves fun r _ h => h.loads.restart r⟩
  | holdTimerExpiry i => exact ⟨_, rfl, law.holdExpiry i⟩
  | leaseExpiry i => exact ⟨_, rfl, law.leaseExpiry i⟩
  | drainTimerExpiry i => exact ⟨_, rfl, law.drainExpiry i⟩
  | quietTimerExpiry i => exact ⟨_, rfl, law.quietExpiry i⟩
  | lockTimeout b n => exact ⟨_, rfl, State.onSlot_keeps law (law.failedOn moves)⟩
  | settleTimerExpiry k => exact ⟨_, rfl, law.settleExpiry k⟩
  | periodTimerExpiry => exact ⟨_, rfl, law.whileRunning (law.apart (by simp) (by simp))⟩
  | senseTimeout => exact ⟨_, rfl, law.whileRunning (law.apart s.senseElapsed_table s.senseElapsed_levels)⟩
  | pilotReading p => exact ⟨_, rfl, law.whileRunning (law.takePilot p)⟩
  | locked b n => exact ⟨_, rfl, State.onSlot_keeps law (law.lockedOn moves)⟩
  | failed b n => exact ⟨_, rfl, State.onSlot_keeps law (law.failedOn moves)⟩
  | lost b n => exact ⟨_, rfl, State.onSlot_keeps law (law.lostOn moves)⟩
  | reading tag value => exact ⟨_, rfl, law.whileRunning (law.takeReading tag value)⟩
  | automaticMove =>
    refine ⟨_, rfl, ?_⟩
    split
    · exact law
    · exact law.takeAsk
  | coldReset => exact ⟨_, rfl, law.apart rfl rfl⟩
  | resetNRelease =>
    refine ⟨_, rfl, ?_⟩
    split
    · exact s.coldStart_loadsLawful
    · exact law

/-- Every step keeps the law of loads, when moves are lawful. -/
theorem step_loadsLawful {s t : State} (moves : s.MovesLawful) (law : s.LoadsLawful) (h : step s = .next t) :
    t.LoadsLawful := by
  unfold step at h
  split at h
  · cases h
    exact law.idle
  · rename_i c rest _
    have taken : ({ s with pending := rest } : State).LoadsLawful := law.apart rfl rfl
    have kept : ({ s with pending := rest } : State).MovesLawful := moves.of_table rfl
    obtain ⟨u, hu, lawful⟩ := exec_loadsLawful c kept taken
    rw [hu] at h
    cases h
    exact lawful

end Sys2Proof.Machine

namespace Sys2Proof.Proofs
open Sys2Proof.Machine

/-- Settles O58: a load is written where its grant's state, level or number of slots changes, and by the amount that the
change asks; what draws more has passed the check of its band's budget, and the search for the trim keeps the rest within. -/
theorem loadsStayLawful : Obligations.LoadsStayLawful := fun _ _ moves law h => step_loadsLawful moves law h

end Sys2Proof.Proofs
end

section
/-! ## The request rows leave the frames of both ports to the request unit (R183 to R185) -/

namespace Sys2Proof.Machine

/-- The records of both ports, with their queues, are as they were. -/
structure FramesKept (s t : State) : Prop where
  management : t.ports.management = s.ports.management
  tenant : t.ports.tenant = s.ports.tenant

namespace FramesKept

variable {s t v : State}

theorem refl (s : State) : FramesKept s s := ⟨rfl, rfl⟩

theorem of_eq (h : t = s) : FramesKept s t := h ▸ refl s

theorem trans (h : FramesKept s t) (k : FramesKept t v) : FramesKept s v :=
  ⟨k.management.trans h.management, k.tenant.trans h.tenant⟩

theorem port (h : FramesKept s t) (p : Port) : t.port p = s.port p := by
  cases p
  · exact h.management
  · exact h.tenant

section Handlers

variable (r : Req) (s : State)

theorem modGrant (i : Fin 64) (f : Grant → Grant) : FramesKept s (s.modGrant i f) := ⟨by simp, by simp⟩

/-! ### The plan store, the profiles (R5 to R17, R93 to R96) -/

theorem stageRegion : FramesKept s (Machine.stageRegion r s).1 := by
  unfold Machine.stageRegion
  split
  · refine managementRequest_keeps (refl s) ?_
    split <;> exact ⟨rfl, rfl⟩
  · exact refl s

theorem discardStaged : FramesKept s (Machine.discardStaged r s).1 := managementRequest_keeps (refl s) ⟨rfl, rfl⟩

theorem freezeRegion : FramesKept s (Machine.freezeRegion r s).1 := by
  unfold Machine.freezeRegion
  split
  · exact managementRequest_keeps (refl s) ⟨rfl, rfl⟩
  · exact refl s

theorem setGuard : FramesKept s (Machine.setGuard r s).1 := by
  refine managementRequest_keeps (refl s) ?_
  split <;> exact ⟨rfl, rfl⟩

theorem setTenant : FramesKept s (Machine.setTenant r s).1 := by
  unfold Machine.setTenant
  split
  · refine managementRequest_keeps (refl s) ?_
    split <;> exact ⟨rfl, rfl⟩
  · exact refl s

theorem setPlanSettings : FramesKept s (Machine.setPlanSettings r s).1 := by
  unfold Machine.setPlanSettings
  split
  · exact refl s
  · exact managementRequest_keeps (refl s) ⟨by simp [answerDone], by simp [answerDone]⟩

theorem writeProfile : FramesKept s (Machine.writeProfile r s).1 := by
  unfold Machine.writeProfile
  split
  · refine managementRequest_keeps (refl s) ?_
    split <;> exact ⟨rfl, rfl⟩
  · exact refl s

theorem clearProfile : FramesKept s (Machine.clearProfile r s).1 := by
  unfold Machine.clearProfile
  split
  · exact refl s
  · refine managementRequest_keeps (refl s) ?_
    split <;> exact ⟨rfl, rfl⟩

/-! ### The grant table (R31 to R44, R188) -/

theorem reserve : FramesKept s (Machine.reserve r s).1 := by
  unfold Machine.reserve
  split
  · exact refl s
  · split
    · split
      · exact refl s
      · refine enabledTenant_keeps (refl s) ?_
        split
        · exact refl s
        · exact ⟨by simp [answerDone], by simp [answerDone]⟩
    · exact refl s

theorem lookup : FramesKept s (Machine.lookup r s).1 :=
  ownHandle_keeps (refl s) fun i _ _ => by
    unfold answerDone
    dsimp only
    split
    · exact modGrant s i _
    · exact refl s

theorem clearNews (l : List (Fin 64)) : ∀ s : State, FramesKept s (s.clearNews l) := by
  induction l with
  | nil => exact refl
  | cons i l ih => exact fun s => (modGrant s i _).trans (ih _)

theorem readNews : FramesKept s (Machine.readNews r s).1 := by
  unfold Machine.readNews
  split
  · exact refl s
  · exact enabledTenant_keeps (refl s) (clearNews _ s)

/-! ### The lives and the protection of grants (R51 to R61, R78 to R86) -/

theorem activate : FramesKept s (Machine.activate r s).1 :=
  ownHandle_keeps (refl s) fun i _ _ => by
    split
    · exact refl s
    · exact ⟨by simp [answerAccepted], by simp [answerAccepted]⟩

theorem renew : FramesKept s (Machine.renew r s).1 :=
  ownHandle_keeps (refl s) fun i _ _ => by
    split
    · exact refl s
    · split
      · exact refl s
      · exact modGrant s i _

theorem endedReply (i : Fin 64) (o : LastOutcome) (byTenant cut : Bool) :
    FramesKept s ((s.endGrant i o byTenant cut).endedReply i).1 := by
  rw [State.endedReply_fst]
  exact ⟨by simp, by simp⟩

theorem withdraw : FramesKept s (Machine.withdraw r s).1 :=
  ownHandle_keeps (refl s) fun i _ _ => by
    split
    · exact refl s
    · split
      · exact refl s
      · split
        · exact refl s
        · exact endedReply ..

theorem revoke : FramesKept s (Machine.revoke r s).1 := by
  unfold Machine.revoke
  split
  · exact refl s
  · refine managementHandle_keeps (refl s) fun i _ _ => ?_
    split
    · exact refl s
    · split
      · exact refl s
      · exact endedReply ..

theorem hold : FramesKept s (Machine.hold r s).1 :=
  managementHandle_keeps (refl s) fun i _ _ => by
    split
    · exact refl s
    · exact modGrant s i _

theorem unhold : FramesKept s (Machine.unhold r s).1 :=
  managementHandle_keeps (refl s) fun i _ _ => by
    split
    · exact refl s
    · exact modGrant s i _

theorem pin : FramesKept s (Machine.pin r s).1 :=
  managementHandle_keeps (refl s) fun i _ _ => by
    split
    · exact refl s
    · split
      · exact refl s
      · exact modGrant s i _

theorem freezePlan : FramesKept s (Machine.freezePlan r s).1 := by
  unfold Machine.freezePlan
  split
  · exact refl s
  · refine managementRequest_keeps (refl s) ?_
    unfold answerDone
    dsimp only
    split
    · exact ⟨by simp, by simp⟩
    · exact ⟨rfl, rfl⟩

/-! ### Levels and budgets (R127 to R131) -/

theorem relevel (i : Fin 64) (g : Grant) (f : Grant → Grant) : FramesKept s (s.relevel i g f).1 := by
  unfold State.relevel
  dsimp only
  split
  · exact refl s
  · exact ⟨by simp [answerDone, applyLevels], by simp [answerDone, applyLevels]⟩

theorem setLevel : FramesKept s (Machine.setLevel r s).1 :=
  ownHandle_keeps (refl s) fun i g _ => by
    split
    · exact refl s
    · exact relevel s i g _

theorem assignGroup : FramesKept s (Machine.assignGroup r s).1 := by
  unfold Machine.assignGroup
  split
  · exact refl s
  · exact managementHandle_keeps (refl s) fun i g _ => relevel s i g _

theorem setGroup : FramesKept s (Machine.setGroup r s).1 := by
  unfold Machine.setGroup
  split
  · exact refl s
  · refine managementRequest_keeps (refl s) ?_
    dsimp only
    split
    · exact refl s
    · exact ⟨by simp [answerDone, applyLevels], by simp [answerDone, applyLevels]⟩

theorem setBudget : FramesKept s (Machine.setBudget r s).1 := by
  unfold Machine.setBudget
  split
  · exact refl s
  · refine managementRequest_keeps (refl s) ?_
    unfold answerDone
    split
    · exact refl s
    · dsimp only
      split <;> exact ⟨by simp, by simp⟩

/-! ### Moves and repack (R137 to R141, R156, R160) -/

theorem carryOutMove (i : Fin 64) (g : Grant) (start : Nat) (kind : Option MoveKind) :
    FramesKept s (s.carryOutMove r i g start kind).1 := by
  unfold State.carryOutMove
  split
  · exact ⟨by simp [answerDone], by simp [answerDone]⟩
  · split
    · exact refl s
    · exact ⟨by simp [answerAccepted], by simp [answerAccepted]⟩

theorem move : FramesKept s (Machine.move r s).1 := by
  unfold Machine.move
  split
  · refine ownHandle_keeps (refl s) fun i g _ => ?_
    split
    · exact refl s
    · exact carryOutMove r s ..
  · exact refl s

theorem repack : FramesKept s (Machine.repack r s).1 := by
  unfold Machine.repack
  split
  · exact refl s
  · refine managementRequest_keeps (refl s) ?_
    split
    · exact refl s
    · split
      · exact refl s
      · exact ⟨by simp [answerAccepted], by simp [answerAccepted]⟩

theorem stopRepack : FramesKept s s.stopRepack := ⟨by simp, by simp⟩

theorem stopRepackRequest : FramesKept s (Machine.stopRepack r s).1 := managementRequest_keeps (refl s) (stopRepack s)

/-! ### The monitor and the events (R166 to R175, R186) -/

theorem setWatch : FramesKept s (Machine.setWatch r s).1 := by
  unfold Machine.setWatch
  split
  · exact refl s
  · split
    · exact refl s
    · refine managementRequest_keeps (refl s) ?_
      split
      · exact refl s
      · split
        · exact refl s
        · exact ⟨by simp [answerDone], by simp [answerDone]⟩

theorem clearWatch : FramesKept s (Machine.clearWatch r s).1 := by
  unfold Machine.clearWatch
  split
  · exact refl s
  · refine managementRequest_keeps (refl s) ?_
    split
    · exact refl s
    · exact ⟨by simp [answerDone], by simp [answerDone]⟩

theorem setSweep : FramesKept s (Machine.setSweep r s).1 := by
  unfold Machine.setSweep
  split
  · exact refl s
  · exact managementRequest_keeps (refl s) ⟨by simp [answerDone], by simp [answerDone]⟩

theorem sweep : FramesKept s (Machine.sweep r s).1 := by
  refine managementRequest_keeps (refl s) ?_
  split
  · exact refl s
  · exact ⟨by simp [answerAccepted], by simp [answerAccepted]⟩

theorem clearHits : FramesKept s (Machine.clearHits r s).1 := managementRequest_keeps (refl s) ⟨rfl, rfl⟩

theorem readEvents : FramesKept s (Machine.readEvents r s).1 := managementRequest_keeps (refl s) ⟨rfl, rfl⟩

theorem setEventMask : FramesKept s (Machine.setEventMask r s).1 := managementRequest_keeps (refl s) ⟨rfl, rfl⟩

end Handlers

/-! ### All rows -/

/-- The row is carried out by a handler that leaves the frames of both ports as they are. -/
def Handled (row : Instr) : Prop := ∃ handler, RunsHandler row handler ∧ ∀ r s, FramesKept s (handler r s).1

/-- A management request that only answers. -/
theorem answerOnly {reply : State → Reply} :
    ∀ (r : Req) (s : State), FramesKept s (managementRequest r s true (s, reply s)).1 :=
  fun _ s => managementRequest_keeps (refl s) (refl s)

theorem requestTable_handled : ∀ e ∈ requestTable, e.2.1 = .restart ∨ Handled e.2.1 := by
  simp only [requestTable, List.forall_mem_cons, List.not_mem_nil, false_imp_iff, implies_true, and_true]
  exact ⟨.inr ⟨_, fun _ => rfl, .stageRegion⟩, .inr ⟨_, fun _ => rfl, .discardStaged⟩,
    .inr ⟨_, fun _ => rfl, .freezeRegion⟩, .inr ⟨_, fun _ => rfl, fun r s => .of_eq (readRegion_fst r s)⟩,
    .inr ⟨_, fun _ => rfl, .setGuard⟩, .inr ⟨_, fun _ => rfl, .setTenant⟩,
    .inr ⟨_, fun _ => rfl, fun r s => .of_eq (readTenant_fst r s)⟩, .inr ⟨_, fun _ => rfl, .setPlanSettings⟩,
    .inr ⟨_, fun _ => rfl, answerOnly⟩, .inr ⟨_, fun _ => rfl, .reserve⟩, .inr ⟨_, fun _ => rfl, .lookup⟩,
    .inr ⟨_, fun _ => rfl, fun r s => .of_eq (find_fst r s)⟩,
    .inr ⟨_, fun _ => rfl, fun r s => .of_eq (listOwn_fst r s)⟩,
    .inr ⟨_, fun _ => rfl, fun r s => .of_eq (listBand_fst r s)⟩, .inr ⟨_, fun _ => rfl, .activate⟩,
    .inr ⟨_, fun _ => rfl, .renew⟩, .inr ⟨_, fun _ => rfl, .withdraw⟩, .inr ⟨_, fun _ => rfl, .revoke⟩,
    .inr ⟨_, fun _ => rfl, .hold⟩, .inr ⟨_, fun _ => rfl, .unhold⟩, .inr ⟨_, fun _ => rfl, .pin⟩,
    .inr ⟨_, fun _ => rfl, .freezePlan⟩, .inr ⟨_, fun _ => rfl, .writeProfile⟩, .inr ⟨_, fun _ => rfl, .clearProfile⟩,
    .inr ⟨_, fun _ => rfl, fun r s => .of_eq (readProfile_fst r s)⟩,
    .inr ⟨_, fun _ => rfl, fun r s => .of_eq (readSlot_fst r s)⟩, .inr ⟨_, fun _ => rfl, .setLevel⟩,
    .inr ⟨_, fun _ => rfl, .assignGroup⟩, .inr ⟨_, fun _ => rfl, .setGroup⟩, .inr ⟨_, fun _ => rfl, .setBudget⟩,
    .inr ⟨_, fun _ => rfl, answerOnly⟩, .inr ⟨_, fun _ => rfl, .move⟩, .inr ⟨_, fun _ => rfl, .repack⟩,
    .inr ⟨_, fun _ => rfl, .stopRepackRequest⟩, .inr ⟨_, fun _ => rfl, .setWatch⟩,
    .inr ⟨_, fun _ => rfl, .clearWatch⟩, .inr ⟨_, fun _ => rfl, fun r s => .of_eq (readWatch_fst r s)⟩,
    .inr ⟨_, fun _ => rfl, .setSweep⟩, .inr ⟨_, fun _ => rfl, .sweep⟩, .inr ⟨_, fun _ => rfl, answerOnly⟩,
    .inr ⟨_, fun _ => rfl, answerOnly⟩, .inr ⟨_, fun _ => rfl, .clearHits⟩, .inr ⟨_, fun _ => rfl, .readEvents⟩,
    .inr ⟨_, fun _ => rfl, .setEventMask⟩, .inr ⟨_, fun _ => rfl, .readNews⟩,
    .inr ⟨_, fun _ => rfl, fun _ s => enabledTenant_keeps (refl s) (refl s)⟩, .inl trivial⟩

/-- The row of a frame that is taken, but RESTART: NOT_READY_ANSWER, BAD_REQUEST_FRAME or a request of the index. -/
theorem rowOf_handled (s : State) (src : Source) (f : Frame) (other : s.rowOf src f ≠ .restart) :
    Handled (s.rowOf src f) := by
  unfold State.rowOf at other ⊢
  split
  · exact ⟨_, fun _ => rfl, fun _ s => refl s⟩
  · split
    · exact ⟨_, fun _ => rfl, fun _ s => refl s⟩
    · rename_i started _ row form
      rw [if_neg started, form] at other
      obtain ⟨n, indexed⟩ := (Proofs.badFrames ..).2 row form
      exact (requestTable_handled _ indexed).resolve_left other

end FramesKept

/-! ### The frame taken, and the response placed -/

/-- Beside its frame, the taking of a frame leaves the frames of both ports. -/
theorem FramesKept.taken (s : State) (src : Source) : FramesKept (s.removeFrame src) (s.taken src) := by
  cases src with
  | priority => exact .stopRepack _
  | queue p => exact .refl _

theorem State.responses_removeFrame (s : State) (src : Source) (p : Port) :
    ((s.removeFrame src).port p).responses = (s.port p).responses := by
  cases src with
  | priority => cases p <;> rfl
  | queue q => cases q <;> cases p <;> rfl

/-- The response frame holds what the request echoes, the result code, the length, and payload and trailer (R183, R185). -/
theorem responseFrame_eq (s : State) (src : Source) (f : Frame) (code : ResultCode) (payload : List Byte) :
    responseFrame f ⟨code, payload⟩ (s.trailer src) = responseTo s src f code payload := by
  cases src with
  | priority =>
    unfold responseTo responseFrame State.trailer flagByte be16
    rfl
  | queue p => simp [responseTo, responseFrame, State.trailer]

theorem State.answered_eq (s : State) (src : Source) (f : Frame) (t : State) (code : ResultCode) (payload : List Byte) :
    s.answered src f t code payload =
      t.setPort src.port
        { t.port src.port with responses := (t.port src.port).responses ++ [responseTo s src f code payload] } := by
  rw [State.answered, responseFrame_eq, State.place]

/-- Placing a response adds it to its port's responses; it leaves the other port's and every request. -/
theorem State.frames_answered (s : State) (src : Source) (f : Frame) (t : State) (code : ResultCode) (payload : List Byte) :
    let v := s.answered src f t code payload
    (v.port src.port).responses = (t.port src.port).responses ++ [responseTo s src f code payload] ∧
      (v.port (otherPort src.port)).responses = (t.port (otherPort src.port)).responses ∧
      ∀ p, (v.port p).requests = (t.port p).requests := by
  rw [State.answered_eq]
  cases src.port
  all_goals exact ⟨rfl, rfl, fun p => by cases p <;> rfl⟩

/-- A frame of a row that a handler carries out is answered by it. -/
theorem State.exec_rowOf {s : State} {src : Source} {f : Frame} {handler : Handler} (next : s.nextFrame = some (src, f))
    (runs : RunsHandler (s.rowOf src f) handler) : exec (s.rowOf src f) s = .next (s.answer handler src f) := by
  rw [runs s, State.serve, next]
  exact congrArg Host.Outcome.next (if_pos rfl)

end Sys2Proof.Machine

namespace Sys2Proof.Proofs
open Sys2Proof.Machine

theorem oneResponsePlaced : OneResponsePlaced := by
  intro s src f next other
  obtain ⟨handler, runs, kept⟩ := FramesKept.rowOf_handled s src f other
  have frames := (FramesKept.taken s src).trans (kept (requestOf src.port f) (s.taken src))
  obtain ⟨own, others, requests⟩ := s.frames_answered src f (handler (requestOf src.port f) (s.taken src)).1
    (handler (requestOf src.port f) (s.taken src)).2.code (handler (requestOf src.port f) (s.taken src)).2.payload
  simp only [frames.port, State.responses_removeFrame] at own others requests
  exact ⟨_, _, _, State.exec_rowOf next runs, own, others, requests⟩

theorem takenAndAnswered : TakenAndAnswered := by
  refine fun s src f t code payload => ⟨?_, fun _ => rfl, rfl, s.answered_eq src f t code payload⟩
  unfold State.rowOf
  cases goodForm src.port f <;> rfl

theorem resultCodesOnTheWire : ResultCodesOnTheWire := rfl

/-- Settles O12: every handler but RESTART's leaves both ports' queues as the taking of the frame left them, and the answer
adds the one response. -/
theorem oneResponsePerFrameTaken : Obligations.OneResponsePerFrameTaken :=
  ⟨oneResponsePlaced, takenAndAnswered, resultCodesOnTheWire⟩

end Sys2Proof.Proofs
end

section
/-! ## MOVE carried out, and where an AUTO target lies (R88, R137 to R141) -/

namespace Sys2Proof.Machine

/-! ### The slot of a seamless move (R125, R138) -/

section Slot

variable {u : State} {g : Grant}

theorem State.seamlessSlot_within (within : WithinBudget u (u.loadWith g.band g.counted)) :
    u.seamlessSlot g = u.selectSlot g.band 0 none := by
  rw [State.seamlessSlot, (u.overBudget_none_iff _).2 within]

theorem State.seamlessSlot_exceeded (exceeds : ¬WithinBudget u (u.loadWith g.band g.counted)) :
    u.seamlessSlot g = none := by
  unfold State.seamlessSlot
  split
  · rfl
  · rename_i within
    exact absurd ((u.overBudget_none_iff _).1 within) exceeds

theorem State.seamlessSlot_eq_some_iff (j : SlotId) :
    u.seamlessSlot g = some j ↔ WithinBudget u (u.loadWith g.band g.counted) ∧ u.selectSlot g.band 0 none = some j := by
  by_cases within : WithinBudget u (u.loadWith g.band g.counted)
  · simp only [State.seamlessSlot_within within, within, true_and]
  · simp [State.seamlessSlot_exceeded within, within]

theorem State.seamlessSlot_eq_none_iff :
    u.seamlessSlot g = none ↔ ¬WithinBudget u (u.loadWith g.band g.counted) ∨ u.selectSlot g.band 0 none = none := by
  by_cases within : WithinBudget u (u.loadWith g.band g.counted)
  · simp only [State.seamlessSlot_within within, within, not_true_eq_false, false_or]
  · simp only [State.seamlessSlot_exceeded within, within, not_false_eq_true, true_or]

/-! ### The plan of a move, by the kind asked (R138) -/

theorem State.movePlan_budget {payload : List Byte} (exceeds : BudgetRefusal u (u.loadWith g.band g.counted) payload) :
    u.movePlan g (some .seamless) = .error ⟨.budget, payload⟩ := by
  rw [State.movePlan, State.overBudget_some exceeds]

theorem State.movePlan_noSlot (within : WithinBudget u (u.loadWith g.band g.counted))
    (none : u.selectSlot g.band 0 none = none) : u.movePlan g (some .seamless) = .error ⟨.noSlot, []⟩ := by
  rw [State.movePlan, (u.overBudget_none_iff _).2 within]
  dsimp only
  rw [none]

/-- The kinds SEAMLESS and ANY take the second slot that budget and slots allow. -/
theorem State.movePlan_seamless {kind : Option MoveKind} (asked : kind = some .seamless ∨ kind = none)
    (within : WithinBudget u (u.loadWith g.band g.counted)) {j : SlotId} (free : u.selectSlot g.band 0 none = some j) :
    u.movePlan g kind = .ok ⟨.seamless, j⟩ := by
  obtain rfl | rfl := asked
  · rw [State.movePlan, (u.overBudget_none_iff _).2 within]
    dsimp only
    rw [free]
  · have any : u.anyPlan g = some ⟨.seamless, j⟩ := by
      rw [State.anyPlan, (State.seamlessSlot_eq_some_iff j).2 ⟨within, free⟩]
    rw [State.movePlan, any]

/-- The kind HARD, and the kind ANY when budget or slots rule a second slot out, take the grant's own slot. -/
theorem State.movePlan_hard {kind : Option MoveKind} (asked : kind = some .hard ∨ kind = none ∧ u.seamlessSlot g = none)
    {j : SlotId} (own : g.slot = some j) : u.movePlan g kind = .ok ⟨.hard, j⟩ := by
  have hard : hardPlan g = some ⟨.hard, j⟩ := by rw [hardPlan, own]; rfl
  obtain rfl | ⟨rfl, none⟩ := asked
  · rw [State.movePlan, hard]
  · have any : u.anyPlan g = some ⟨.hard, j⟩ := by rw [State.anyPlan, none]; exact hard
    rw [State.movePlan, any]

end Slot

/-! ### The target (R139) -/

section Target

variable {r : Req} {u : State} {g : Grant} {start : Nat}

/-- The AUTO target is the least start of the unfrozen candidate regions at which the span is legal. -/
theorem targetAt_iff (s : State) (g : Grant) (n : Nat) :
    TargetAt s g n ↔ StartsIn (s.moveSite g) (s.openCandidates g) n ∧ (s.moveSite g).test n = .legal := by
  constructor
  · rintro ⟨k, x, hx, band, has, thawed, first, last, legal⟩
    exact ⟨⟨x, (s.mem_openCandidates_iff g x).2 ⟨⟨k, hx, band, has⟩, thawed⟩, first, last⟩, legal⟩
  · rintro ⟨⟨x, hx, first, last⟩, legal⟩
    obtain ⟨⟨k, hx, band, has⟩, thawed⟩ := (s.mem_openCandidates_iff g x).1 hx
    exact ⟨k, x, hx, band, has, thawed, first, last, legal⟩

theorem State.moveTarget_auto (wide : 1 ≤ g.width) (found : u.autoTarget g = some start) :
    u.moveTarget g none = .ok start := by
  obtain ⟨⟨x, hx, first, last⟩, -⟩ := (Site.search_eq_some_iff (x := u.moveSite g) wide start).1 found
  have last : start + g.width ≤ x.last + 1 := last
  have fits : g.width ≤ x.size := by
    unfold Region.size
    omega
  refine (if_pos (List.any_eq_true.2 ⟨x, hx, decide_eq_true fits⟩)).trans ?_
  rw [found]

theorem State.moveTarget_explicit (allowed : u.plan.active.allowsSpan g.band start g.width g.cls = true)
    (legal : (u.moveSite g).test start = .legal) : u.moveTarget g (some start) = .ok start := by
  refine (if_neg (by simp [allowed])).trans ?_
  rw [legal]

/-- The target that passes steps 12 and 13 is the one the request asks for. -/
theorem MovesTo.asked (moves : MovesTo u r g start) (wide : 1 ≤ g.width) :
    ∃ target, moveAsked r = some target ∧ u.moveTarget g target = .ok start := by
  obtain ⟨explicit, rfl, cell, allowed, legal⟩ | ⟨auto, found⟩ := moves
  · exact ⟨_, moveAsked_explicit explicit cell, State.moveTarget_explicit allowed legal⟩
  · exact ⟨_, moveAsked_auto auto, State.moveTarget_auto wide found⟩

end Target

/-! ### The effect (R140, R141) -/

section Effect

variable {r : Req} {u : State} {i : Fin 64} {g : Grant} {start : Nat} {kind : Option MoveKind}

/-- A MOVE that passes steps 1 to 13 is carried out. -/
theorem move_carriedOut {target : Option Nat} (names : Names r u i g) (may : MayAct r u i)
    (asked : moveAsked r = some target) (kinded : moveKindOfCode (r.byte 5) = some kind)
    (passed : u.moveChecks r g target = .ok start) : move r u = u.carryOutMove r i g start kind := by
  simp only [move, asked, kinded, ownHandle_pass names may, passed]

theorem State.carryOutMove_reserved (reserved : g.state = .reserved) :
    u.carryOutMove r i g start kind =
      ((u.moveReserved i start r.byTenant).refreshFrag g.band,
        ⟨.done, [1, 255, byte (start / 256), byte start, 255]⟩) := if_pos reserved

theorem State.carryOutMove_refused {reply : Reply} (carrying : g.state ≠ .reserved)
    (refused : u.movePlan g kind = .error reply) : u.carryOutMove r i g start kind = (u, reply) := by
  rw [State.carryOutMove, if_neg carrying, refused]

theorem State.carryOutMove_planned {p : MovePlan} (carrying : g.state ≠ .reserved)
    (planned : u.movePlan g kind = .ok p) :
    u.carryOutMove r i g start kind =
      ((u.beginMove i start p.kind .request p.slot r.byTenant).refreshFrag g.band,
        ⟨.accepted, [5, byte p.kind.code, byte (start / 256), byte start, byte (slotNumber p.slot)]⟩) := by
  rw [State.carryOutMove, if_neg carrying, planned]
  rfl

end Effect

/-- Management's requests, and they alone, set news on the grant they name (R72). -/
theorem requestOf_byTenant (p : Port) (f : Frame) : (!(requestOf p f).byTenant) = decide (p = .management) := by
  cases p <;> rfl

end Sys2Proof.Machine

namespace Sys2Proof.Proofs
open Sys2Proof.Machine

theorem moveCarriedOut : MoveCarriedOut := by
  intro s src f takes
  dsimp only
  intro i g start names may loose unguarded wide thawed moves known
  rw [← requestOf_byTenant src.port f]
  obtain ⟨target, asked, placed⟩ := moves.asked wide
  obtain ⟨kind, kinded⟩ := Option.isSome_iff_exists.1 ((isSome_moveKindOfCode _).2 known)
  have does (movable : g.state = .reserved ∨ g.state = .live ∨ g.state = .impaired) {t code payload}
      (carried : (s.taken src).carryOutMove (requestOf src.port f) i g start kind = (t, ⟨code, payload⟩)) :
      Does .move s src f t code payload :=
    have passed := (State.moveChecks_thawed movable loose unguarded asked thawed).trans placed
    does_of_handler takes rfl ((move_carriedOut names may asked kinded passed).trans carried)
  refine ⟨fun reserved => ⟨_, does (.inl reserved) (State.carryOutMove_reserved reserved), ?_⟩, fun carries => ?_⟩
  · exact State.moveReserved_spec _ names.grant ..
  have carrying : g.state ≠ .reserved := by
    rintro reserved
    simp [reserved] at carries
  have refused {code payload} (h : (s.taken src).movePlan g kind = .error ⟨code, payload⟩) :=
    does (.inr carries) (State.carryOutMove_refused carrying h)
  have planned {p} (h : (s.taken src).movePlan g kind = .ok p) :=
    does (.inr carries) (State.carryOutMove_planned carrying h)
  have kind_of {n k} (code : (requestOf src.port f).byte 5 = n) (h : moveKindOfCode n = some k) : kind = k := by
    rw [code, h] at kinded
    exact (Option.some.inj kinded).symm
  have seamless code := kind_of (n := 0) (k := some .seamless) code rfl
  have any code := kind_of (n := 2) (k := none) code rfl
  refine ⟨fun code payload exceeds => refused ?_, fun code within none => refused ?_,
    fun code within j free => ⟨_, planned (State.movePlan_seamless (code.imp seamless any) within free), ?_⟩,
    fun code j own live => ⟨_, planned (State.movePlan_hard ?_ own), ?_⟩⟩
  · rw [seamless code, State.movePlan_budget exceeds]
  · rw [seamless code, State.movePlan_noSlot within none]
  · refine State.beginMove_spec _ names.grant start .seamless .request ?_ _
    rw [(s.taken src).selectSlot_idle free]
    exact SlotState.noConfusion
  · exact code.imp (kind_of · rfl) fun ⟨code, ruledOut⟩ => ⟨any code, State.seamlessSlot_eq_none_iff.2 ruledOut⟩
  · exact State.beginMove_spec _ names.grant start .hard .request live _

theorem autoTargets : AutoTargets := by
  intro s g
  dsimp only
  refine ⟨s.mem_openCandidates_iff g, ?_, fun _ => rfl, fun wide => ⟨fun n => ?_, ?_⟩⟩
  · simp only [State.allCandidatesFrozen, Bool.and_eq_true, Bool.not_eq_true', List.isEmpty_eq_false_iff_exists_mem,
      List.isEmpty_iff, List.eq_nil_iff_forall_not_mem, State.mem_openCandidates_iff, Plan.mem_candidates_iff, not_and,
      Bool.not_eq_false]
  · simp only [State.autoTarget, Site.search_eq_some_iff (x := s.moveSite g) wide, targetAt_iff, not_and, and_assoc]
  · simp only [State.autoTarget, Site.search_eq_none_iff (x := s.moveSite g) wide, targetAt_iff, not_and, ne_eq]

/-- Settles O45, by the state of the grant and the kind asked; the AUTO target is the lowest start that the search gives. -/
theorem moveByState : Obligations.MoveByState := ⟨moveCarriedOut, autoTargets⟩

end Sys2Proof.Proofs
end

section
/-! ## The steps of a repack: how they are chosen, and what a stop leaves (R140, R141, R150, R153 to R161) -/

namespace Sys2Proof.Machine

variable {s : State} {b : Band}

/-! ### The step chosen (R157) -/

/-- The lower start to which a step moves the grant of an item, where the grant is a candidate with such a start. -/
def State.itemStep (s : State) (it : OccItem) : Option Nat :=
  match s.grant? it.handle.entry with
  | none => none
  | some g => if g.repackable then s.lowerStart g else none

theorem State.itemStep_eq_some_iff {it : OccItem} {n : Nat} :
    s.itemStep it = some n ↔
      ∃ g, s.grant? it.handle.entry = some g ∧ g.repackable = true ∧ s.lowerStart g = some n := by
  unfold State.itemStep
  cases s.grant? it.handle.entry <;> simp

theorem State.chooseStep_eq (s : State) (b : Band) :
    s.chooseStep b = (s.occupancy b).findSome? fun it => (s.itemStep it).map fun n => (it.handle.entry, n) := by
  unfold State.chooseStep State.itemStep
  congr 1
  funext it
  cases s.grant? it.handle.entry with
  | none => rfl
  | some g => exact (apply_ite (Option.map _) _ (s.lowerStart g) none).symm

/-- The start found for an item is the least to which a step could lower its grant. -/
theorem State.itemStep_least {it : OccItem} {n : Nat} :
    s.itemStep it = some n ↔ StepsTo s it n ∧ ∀ m, m < n → ¬StepsTo s it m := by
  simp only [State.itemStep_eq_some_iff, Grant.repackable_iff, State.lowerStart_eq_some_iff]
  constructor
  · rintro ⟨g, hg, ⟨loose, free, still⟩, k, x, here, thawed, first, last, below, legal, least⟩
    refine ⟨⟨g, k, x, hg, loose, free, still, here, thawed, first, last, below, legal⟩, fun m lt => ?_⟩
    rintro ⟨g', k', x', hg', -, -, -, here', -, first', -, -, legal'⟩
    obtain rfl := Option.some.inj (hg.symm.trans hg')
    cases here.symm.trans here'
    exact least m first' lt legal'
  · rintro ⟨⟨g, k, x, hg, loose, free, still, here, thawed, first, last, below, legal⟩, least⟩
    refine ⟨g, hg, ⟨loose, free, still⟩, k, x, here, thawed, first, last, below, legal, fun m low lt legal' => ?_⟩
    exact least m lt ⟨g, k, x, hg, loose, free, still, here, thawed, low, by omega, by omega, legal'⟩

theorem State.itemStep_eq_none_iff {it : OccItem} : s.itemStep it = none ↔ ∀ n, ¬StepsTo s it n := by
  constructor
  · intro none n steps
    classical
    have found : ∃ n, StepsTo s it n := ⟨n, steps⟩
    rw [State.itemStep_least.2 ⟨Nat.find_spec found, fun m => Nat.find_min found⟩] at none
    cases none
  · intro nowhere
    rw [Option.eq_none_iff_forall_ne_some]
    exact fun n found => nowhere n (State.itemStep_least.1 found).1

theorem State.chooseStep_eq_none_iff : s.chooseStep b = none ↔ ∀ it ∈ s.occupancy b, ∀ n, ¬StepsTo s it n := by
  simp only [State.chooseStep_eq, List.findSome?_eq_none_iff, Option.map_eq_none_iff, State.itemStep_eq_none_iff]

theorem State.chooseStep_eq_some_iff {i : Fin 64} {start : Nat} :
    s.chooseStep b = some (i, start) ↔
      ∃ before it after, s.occupancy b = before ++ it :: after ∧ it.handle.entry = i ∧
        (∀ x ∈ before, ∀ n, ¬StepsTo s x n) ∧ StepsTo s it start ∧ ∀ n, n < start → ¬StepsTo s it n := by
  rw [State.chooseStep_eq, List.findSome?_eq_some_iff]
  refine exists_congr fun before => exists_congr fun it => exists_congr fun after => and_congr_right fun _ => ?_
  simp only [Option.map_eq_some_iff, Prod.mk.injEq, Option.map_eq_none_iff, State.itemStep_eq_none_iff]
  constructor
  · rintro ⟨⟨n, found, entry, rfl⟩, passed⟩
    exact ⟨entry, passed, State.itemStep_least.1 found⟩
  · rintro ⟨entry, passed, steps⟩
    exact ⟨⟨start, State.itemStep_least.2 steps, entry, rfl⟩, passed⟩

/-! ### The step made (R155, R158) -/

theorem State.repackSteps_complete (n : Nat) (none : s.chooseStep b = none) :
    s.repackSteps b (n + 1) = s.endRepack .complete := by
  rw [State.repackSteps, none]

theorem State.repackSteps_chosen (n : Nat) {i : Fin 64} {start : Nat} {g : Grant} (chosen : s.chooseStep b = some (i, start))
    (hg : s.grant? i = some g) :
    s.repackSteps b (n + 1) =
      if g.state = .reserved then State.repackSteps b n (((s.moveReserved i start false).countMove).noteFrag b)
      else
        (s.seamlessSlot g).elim (s.endRepack .blocked) fun j =>
          (s.beginMove i start .seamless .repack j false).noteFrag b := by
  rw [State.repackSteps, chosen]
  dsimp only
  rw [hg]
  dsimp only
  cases s.seamlessSlot g with
  | none => simp only [Option.elim_none]
  | some j => simp only [Option.elim_some]

theorem State.flagged_raise (s : State) (e : Event) : (s.raise e).flagged e = true := by
  have own : e.mask.getLsbD e.bit = true := (Event.mask_getLsbD e e).2 rfl
  simp [State.flagged, State.raise, own]

theorem State.endRepack_spec (s : State) (r : EndReason) :
    (s.endRepack r).engine.repack = { s.engine.repack with running := false, reason := r } ∧
      (s.endRepack r).flagged .repackEnd = true ∧ (s.endRepack r).table = s.table ∧ (s.endRepack r).pool = s.pool :=
  ⟨rfl, State.flagged_raise _ _, rfl, rfl⟩

/-! ### The move in flight (R155, R161) -/

/-- The grant of an entry has a move of origin REPACK. -/
def State.RepackMoves (s : State) (i : Fin 64) : Prop :=
  ∃ g m, s.grant? i = some g ∧ g.move = some m ∧ m.origin = .repack

/-- The same, as the search for the mover asks it. -/
def State.movesForRepack (s : State) (i : Fin 64) : Bool :=
  (s.grant? i).any fun g => g.move.any fun m => m.origin == .repack

theorem State.movesForRepack_iff (i : Fin 64) : s.movesForRepack i = true ↔ s.RepackMoves i := by
  simp [State.movesForRepack, State.RepackMoves, Option.any_eq_true]

theorem State.repackMover_eq (s : State) : s.repackMover = entryNumbers.find? s.movesForRepack := by
  unfold State.repackMover State.movesForRepack
  congr 1
  funext i
  cases s.grant? i with
  | none => rfl
  | some g => cases hm : g.move <;> simp [hm]

theorem State.repackMover_eq_some_iff (i : Fin 64) :
    s.repackMover = some i ↔ s.RepackMoves i ∧ ∀ k, k < i → ¬s.RepackMoves k := by
  have first := List.find?_ofFn_eq_some_of_injective (p := s.movesForRepack) (i := i) Function.injective_id
  simpa only [State.movesForRepack_iff, List.ofFn_id, id_eq, s.repackMover_eq, entryNumbers] using first

theorem State.repackMover_eq_none_iff : s.repackMover = none ↔ ∀ i, ¬s.RepackMoves i := by
  simp only [s.repackMover_eq, List.find?_eq_none, State.movesForRepack_iff, mem_entryNumbers, true_implies]

/-! ### The re-evaluation of the clamp, beside what it may change (R126, R128) -/

/-- The clamp is left alone, or re-evaluated. -/
theorem noteLoad_cases (old new : State) : noteLoad old new = new ∨ noteLoad old new = new.trackPilot := by
  unfold noteLoad State.loadDecreased
  split
  · split
    · exact .inr rfl
    · exact .inl rfl
  · exact .inl rfl

/-- A slot without a holder is sent no LEVEL. -/
theorem noteLoad_sent {old new : State} {j : SlotId} (free : (new.slot j).holder = none) :
    (noteLoad old new).pool.sent[j] = new.pool.sent[j] := by
  obtain same | tracked := noteLoad_cases old new
  · rw [same]
  · rw [tracked, new.trackPilot_releveled.untold j fun h g held => by rw [free] at held; cases held]

/-- The record of a grant whose load does not follow its level stays. -/
theorem noteLoad_entry {old new : State} {i : Fin 64} {g : Grant} (hg : new.grant? i = some g)
    (still : g.state.follows = false) : (noteLoad old new).entry i = new.entry i := by
  obtain same | tracked := noteLoad_cases old new
  · rw [same]
  · rw [tracked, new.trackPilot_releveled.grants i g hg]
    simp only [still, Bool.false_eq_true, and_false, if_false]
    rw [← hg]
    rfl

/-! ### The move abandoned (R150) -/

/-- The slot on which the move of a grant tunes: the second of a seamless move, the slot part of a hard one. -/
def Grant.tunedSlot (g : Grant) (m : MoveContext) : Option SlotId := if m.kind = .seamless then m.second else g.slot

/-- The record of a grant whose move is abandoned, but for its load: it stays carrying, or falls back to RESERVED. -/
def Grant.abandoned (g : Grant) (m : MoveContext) (holdTime : Nat) : Grant :=
  if m.kind = .seamless then g.stayed else g.fallenBack holdTime

/-- A grant that is no longer on the move: its record, but for the load, the HALT of its slot, and nothing else but what the
re-evaluation of the clamp changes. -/
theorem State.abandonMove_spec {i : Fin 64} {g : Grant} {m : MoveContext} (hg : s.grant? i = some g)
    (hm : g.move = some m) :
    ∃ old v n, s.abandonMove i = ((noteLoad old v).setOutcome i .moveAbandoned).noteFrag g.band ∧
      v.entry i =
        { s.entry i with grant := some { g.abandoned m s.plan.settings.holdTime with counted := n } } ∧
      (m.kind = .hard → n = 0) ∧ v.pool = (s.haltPart (g.tunedSlot m)).pool := by
  have halted (p) : (s.haltPart p).grant? i = some g := (State.grant_congr (by simp) i).trans hg
  have entry (p) : (s.haltPart p).entry i = s.entry i := State.entry_congr (by simp) i
  unfold State.abandonMove Grant.abandoned Grant.tunedSlot
  rw [hg]
  dsimp only
  rw [hm]
  dsimp only
  cases m.kind with
  | seamless =>
    have stays : ((s.haltPart m.second).modGrant i Grant.stayed).grant? i = some g.stayed :=
      State.grant_modGrant_same _ (halted _) _
    obtain ⟨n, counted⟩ := ((s.haltPart m.second).modGrant i Grant.stayed).levels.recount_eq g.stayed
    refine ⟨s, _, n, rfl, ?_, nofun, by simp⟩
    refine (State.entry_modGrant_same _ stays _).trans ?_
    rw [counted, State.entry_modGrant_same _ (halted _), entry]
    rfl
  | hard =>
    refine ⟨s.haltPart g.slot, _, 0, rfl, ?_, fun _ => rfl, by simp⟩
    rw [State.entry_modGrant_same _ (halted _), entry, State.haltPart_plan]
    rfl

/-- The slot that a HALT of a part reaches, when it is not RETIRED. -/
theorem State.haltPart_sent (s : State) {p : Option SlotId} {j : SlotId} (named : p = some j)
    (live : (s.slot j).state ≠ .retired) :
    SlotSent s (s.haltPart p) j { s.slot j with state := .idle, holder := none } .halt := by
  subst named
  exact (State.haltSlot_spec s live).1

/-- The record of the repack is left to its end. -/
theorem State.repack_abandonMove (s : State) (i : Fin 64) : (s.abandonMove i).engine.repack = s.engine.repack := by
  unfold State.abandonMove
  split
  · rfl
  · split
    · rfl
    · split <;> simp [State.noteFrag, State.setFrag]

/-- A running repack that is stopped ends with reason STOPPED, its move abandoned if one is in flight. -/
theorem State.stopRepack_ends (running : s.engine.repack.running = true) :
    s.stopRepack = (s.repackMover.elim s s.abandonMove).endRepack .stopped := by
  rw [State.stopRepack, if_pos running]
  cases s.repackMover <;> rfl

theorem State.repack_stopRepack (running : s.engine.repack.running = true) :
    s.stopRepack.engine.repack = { s.engine.repack with running := false, reason := .stopped } := by
  rw [State.stopRepack_ends running, (State.endRepack_spec _ _).1]
  cases s.repackMover with
  | none => rfl
  | some i => rw [Option.elim_some, State.repack_abandonMove]

/-- A running repack that is stopped with a move in flight: the record of the mover, its slot, and every other slot. -/
theorem State.stopRepack_mover {i : Fin 64} {g : Grant} {m : MoveContext} (running : s.engine.repack.running = true)
    (mover : s.repackMover = some i) (hg : s.grant? i = some g) (hm : g.move = some m) :
    (∀ j, g.tunedSlot m = some j → (s.slot j).state ≠ .retired →
        SlotSent s s.stopRepack j { s.slot j with state := .idle, holder := none } .halt) ∧
      (∀ j, g.tunedSlot m ≠ some j → s.stopRepack.slot j = s.slot j) ∧
      ∃ n, s.stopRepack.entry i =
          { s.entry i with
            lastOutcome := .moveAbandoned
            grant := some { g.abandoned m s.plan.settings.holdTime with counted := n } } ∧
        (m.kind = .hard → n = 0) := by
  obtain ⟨old, v, n, left, entry, hard, pool⟩ := State.abandonMove_spec hg hm
  have stopped : s.stopRepack = (((noteLoad old v).setOutcome i .moveAbandoned).noteFrag g.band).endRepack .stopped := by
    rw [State.stopRepack_ends running, mover, Option.elim_some, left]
  have after : s.stopRepack.pool = (noteLoad old v).pool := by rw [stopped]; simp
  have slot (j) : s.stopRepack.slot j = (s.haltPart (g.tunedSlot m)).slot j := by
    rw [State.slot_congr after, State.slot, noteLoad_pool_slots, pool]
    rfl
  have held : v.grant? i = some { g.abandoned m s.plan.settings.holdTime with counted := n } := by
    rw [State.grant?, entry]
  refine ⟨fun j tuned live => ?_, fun j other => ?_, ?_⟩
  · obtain ⟨idle, halt⟩ := s.haltPart_sent tuned live
    have free : (v.slot j).holder = none := by rw [State.slot_congr pool, idle]
    refine ⟨(slot j).trans idle, ?_⟩
    rw [after, noteLoad_sent free, pool, halt]
  · rw [slot]
    exact (SlotsKept.haltPart s (g.tunedSlot m) j fun mem => other (Option.mem_toList.1 mem)).1
  · have outcome : s.stopRepack.entry i = { (noteLoad old v).entry i with lastOutcome := .moveAbandoned } := by
      rw [← State.entry_setOutcome_same, stopped]
      exact State.entry_congr (by simp) i
    cases kind : m.kind with
    | seamless =>
      obtain ⟨n', counted⟩ := noteLoad_sameButLoads old v i
      exact ⟨n', by rw [outcome, counted, held, entry]; rfl, nofun⟩
    | hard =>
      have still : ({ g.abandoned m s.plan.settings.holdTime with counted := n } : Grant).state.follows = false := by
        simp [Grant.abandoned, kind, Grant.fallenBack, GrantState.follows]
      exact ⟨n, by rw [outcome, noteLoad_entry held still, entry], fun _ => hard kind⟩

end Sys2Proof.Machine

namespace Sys2Proof.Proofs
open Sys2Proof.Machine

theorem repackStepsInOrder : RepackStepsInOrder := by
  refine fun s b n => ⟨fun _ _ => State.chooseStep_eq_some_iff, State.chooseStep_eq_none_iff,
    State.repackSteps_complete n, fun i start g chosen hg => ?_, State.endRepack_spec s⟩
  rw [State.repackSteps_chosen n chosen hg]
  refine ⟨fun reserved => if_pos reserved, fun carrying => ⟨fun j slot => ?_, fun none => ?_⟩⟩
  · rw [if_neg carrying, slot, Option.elim_some]
  · rw [if_neg carrying, none, Option.elim_none]

theorem repackStopAbandonsItsMove : RepackStopAbandonsItsMove := by
  intro s
  refine ⟨fun idle => if_neg (by simp [idle]), fun running => ?_⟩
  have ends := State.stopRepack_ends running
  refine ⟨State.repack_stopRepack running, ?_, fun none => ?_, fun i g m mover hg hm => ?_⟩
  · rw [ends]
    exact State.flagged_raise _ _
  · rw [ends, none]
    exact ⟨rfl, rfl⟩
  · obtain ⟨halted, others, n, entry, hard⟩ := State.stopRepack_mover running mover hg hm
    have grant : s.stopRepack.grant? i = some { g.abandoned m s.plan.settings.holdTime with counted := n } := by
      rw [State.grant?, entry]
    refine ⟨⟨halted, others⟩, by rw [entry], _, grant, ?_⟩
    cases kind : m.kind with
    | seamless =>
      rw [Grant.abandoned, if_pos kind]
      exact ⟨rfl, rfl, rfl, fun _ => ⟨rfl, rfl⟩, nofun⟩
    | hard =>
      rw [Grant.abandoned, if_neg (by simp [kind])]
      exact ⟨rfl, rfl, rfl, nofun, fun _ => ⟨rfl, rfl, hard kind, rfl⟩⟩

theorem repackStartedAndContinued : RepackStartedAndContinued := by
  refine fun s b => ⟨rfl, fun band => by rw [State.continueRepack, band]; rfl, rfl, fun origin how => ?_⟩
  dsimp only
  refine ⟨fun other => if_neg other, ?_, ?_, ?_⟩
  all_goals
    rintro mine rfl
    exact if_pos mine

theorem repackStepsMove : RepackStepsMove := fun s b _ _ start hg =>
  ⟨s.moveReserved_spec hg start false, fun _ live => s.beginMove_spec hg start .seamless .repack live false,
    s.noteFrag_eq b⟩

theorem repackMoverFound : RepackMoverFound := fun s => ⟨s.repackMover_eq_some_iff, s.repackMover_eq_none_iff⟩

theorem seamlessSlotFound : SeamlessSlotFound := fun _ _ =>
  ⟨State.seamlessSlot_eq_some_iff, State.seamlessSlot_eq_none_iff⟩

/-- Settles O35: the search takes the first item with a lower start, a step is what is done to its grant, and a stop is the
move abandoned. -/
theorem repackStepsAndStop : Obligations.RepackStepsAndStop :=
  ⟨repackStepsInOrder, repackStopAbandonsItsMove, repackStartedAndContinued, repackStepsMove, repackMoverFound,
    seamlessSlotFound⟩

end Sys2Proof.Proofs
end

section
/-! ## SET_WATCH and CLEAR_WATCH (R164, R166 to R168) -/

namespace Sys2Proof.Machine

theorem Watch.isWindow_iff (w : Watch) : w.mode.isWindow = true ↔ Window w := by
  cases h : w.mode <;> simp [CompareMode.isWindow, Window, h]

theorem WatchAction.impairs_iff (a : WatchAction) : a.impairs = true ↔ a = .impair ∨ a = .impairAndMove := by
  cases a <;> simp [WatchAction.impairs]

/-! ### The contribution of a watch withdrawn (R47, R168) -/

theorem Grant.impairDown_eq (g : Grant) : g.impairDown = impairedLess g := by
  unfold Grant.impairDown impairedLess
  split
  · rename_i down
    simp [down]
  · rename_i stays
    simp [stays]

theorem State.modNamed_some {s : State} {h : Handle} {g : Grant} (current : s.grantOf h = some g) (f : Grant → Grant) :
    s.modNamed h f = s.setEntry h.entry { s.entry h.entry with grant := some (f g) } := by
  rw [State.modNamed, current]
  exact s.modGrant_some (State.grantOf_some current).1 f

theorem State.modNamed_none {s : State} {h : Handle} (gone : s.grantOf h = none) (f : Grant → Grant) :
    s.modNamed h f = s := by
  rw [State.modNamed, gone]

/-- A watch contributes to the impairing count of the grant that it names (R176). -/
def Watch.Contributes (w : Watch) : Prop :=
  w.enabled = true ∧ w.condition = true ∧ (w.action = .impair ∨ w.action = .impairAndMove)

theorem State.withdrawWatch_contributing {s : State} {w : Watch} {h : Handle} (target : w.target = .grant h)
    (contributes : w.Contributes) : s.withdrawWatch w = s.modNamed h Grant.impairDown := by
  obtain ⟨enabled, condition, action⟩ := contributes
  simp [State.withdrawWatch, target, enabled, condition, w.action.impairs_iff.2 action]

theorem State.withdrawWatch_idle {s : State} {w : Watch}
    (idle : ∀ h, w.target = .grant h → w.Contributes → s.grantOf h = none) : s.withdrawWatch w = s := by
  unfold State.withdrawWatch
  split
  · rfl
  · rename_i h target
    split
    · rename_i acts
      simp only [Bool.and_eq_true, WatchAction.impairs_iff, and_assoc] at acts
      exact State.modNamed_none (idle h target acts) _
    · rfl

/-! ### A watch removed (R168) -/

theorem State.threshold_setThreshold (s : State) (n : Fin 32) (v : Byte) (k : Fin 32) :
    (s.setThreshold n v).monitor.thresholds[k] = if k = n then v else s.monitor.thresholds[k] := by
  by_cases h : k = n
  · subst h
    simp [State.setThreshold, State.withMonitor]
  · have ne : (n : Nat) ≠ k := fun e => h (Fin.ext e.symm)
    simp [State.setThreshold, State.withMonitor, h, ne]

theorem State.setPosition_thresholds (s : State) (n : Fin 32) (p : Position) :
    (s.setPosition n p).monitor.thresholds = s.monitor.thresholds := rfl

theorem State.removeWatch_table (s : State) (n : Fin 32) (w : Watch) :
    (s.removeWatch n w).table = (s.withdrawWatch w).table := by
  unfold State.removeWatch
  dsimp only
  split <;> simp

/-- Beside its positions and thresholds, a removal changes of the monitor the measurement in flight only. -/
theorem State.removeWatch_monitor (s : State) (n : Fin 32) (w : Watch) :
    (s.removeWatch n w).monitor =
      { s.monitor.voidAt n with
        positions := (s.removeWatch n w).monitor.positions
        thresholds := (s.removeWatch n w).monitor.thresholds } := by
  rw [← s.withdrawWatch_monitor w]
  unfold State.removeWatch
  generalize s.withdrawWatch w = t
  dsimp only
  split <;> rfl

theorem State.threshold_removeWatch (s : State) (n : Fin 32) (w : Watch) (k : Fin 32) :
    (s.removeWatch n w).monitor.thresholds[k] =
      if k = n ∨ (w.mode.isWindow = true ∧ k = upperPosition n) then 0 else s.monitor.thresholds[k] := by
  rw [← s.withdrawWatch_monitor w]
  unfold State.removeWatch
  generalize s.withdrawWatch w = t
  have cleared : (((t.withMonitor (·.voidAt n)).setPosition n .empty).setThreshold n 0).monitor.thresholds[k] =
      if k = n then 0 else t.monitor.thresholds[k] := State.threshold_setThreshold ..
  dsimp only
  split
  · rename_i window
    rw [State.threshold_setThreshold, State.setPosition_thresholds, cleared]
    by_cases above : k = upperPosition n <;> simp [above, window]
  · rename_i plain
    rw [cleared]
    simp [plain]

theorem State.removeWatch_removed (s : State) (n : Fin 32) (w : Watch) : WatchRemoved s (s.removeWatch n w) n w where
  positions k := by simp only [s.position_removeWatch, w.isWindow_iff, upperPosition]
  thresholds k := by simp only [s.threshold_removeWatch, w.isWindow_iff, upperPosition]
  inFlight := by rw [s.removeWatch_monitor]; rfl
  hits := by rw [s.removeWatch_monitor]; rfl
  withdrawn h g target enabled condition action current := by
    rw [s.removeWatch_table, State.withdrawWatch_contributing target ⟨enabled, condition, action⟩,
      State.modNamed_some current, g.impairDown_eq]
  kept none := by
    rw [s.removeWatch_table, State.withdrawWatch_idle fun h target contributes => ?_]
    by_contra current
    obtain ⟨g, hg⟩ := Option.ne_none_iff_exists'.1 current
    obtain ⟨enabled, condition, action⟩ := contributes
    exact none ⟨h, g, target, enabled, condition, action, hg⟩
  rest := by
    rw [s.removeWatch_monitor]
    simp [Monitor.voidAt]

/-! ### The requests, once their fields are read -/

theorem Monitor.pairingRefuses_iff (m : Monitor) (n : Fin 32) (w : Watch) :
    m.pairingRefuses n w = true ↔ m.position n = .paired ∨ (Window w ∧ ∃ x, m.position (n + 16) = .watch x) := by
  rw [Monitor.pairingRefuses, upperPosition, Bool.or_eq_true, beq_iff_eq, Bool.and_eq_true, w.isWindow_iff]
  cases m.position (n + 16) <;> simp

theorem State.staleTarget_gone {s : State} {w : Watch} {h : Handle} (target : w.target = .grant h)
    (gone : s.grantOf h = none) : s.staleTarget w = some h := by
  simp [State.staleTarget, target, gone]

theorem State.staleTarget_current {s : State} {w : Watch} (current : ∀ h, w.target = .grant h → s.grantOf h ≠ none) :
    s.staleTarget w = none := by
  unfold State.staleTarget
  split
  · rfl
  · rename_i h target
    simp [current h target]

/-- The final outcome that a STALE response gives to management (R23). -/
theorem stalePayload_management {r : Req} (port : r.port = .management) (s : State) (i : Fin 64) :
    stalePayload r (s.entry i) =
      [(s.entry i).generation, byte (s.entry i).stateCode,
        if s.grant? i = none then byte (s.entry i).lastOutcome.code else 0] := by
  rw [stalePayload, finalOutcome, State.grant?]
  by_cases free : (s.entry i).grant = none
  · simp [free, port]
  · simp [free, LastOutcome.code, byte]

theorem State.writeWatch_eq (s : State) (n : Fin 32) (w : Watch) (lower upper : Byte) :
    s.writeWatch n w lower upper =
      { s with
        monitor :=
          { s.monitor with
            positions :=
              if Window w then (s.monitor.positions.set n (.watch w)).set (n + 16 : Fin 32) .paired
              else s.monitor.positions.set n (.watch w)
            thresholds :=
              if Window w then (s.monitor.thresholds.set n lower).set (n + 16 : Fin 32) upper
              else s.monitor.thresholds.set n lower } } := by
  unfold State.writeWatch
  dsimp only
  by_cases window : Window w
  · rw [if_pos (w.isWindow_iff.2 window), if_pos window, if_pos window]
    rfl
  · rw [if_neg (mt w.isWindow_iff.1 window), if_neg window, if_neg window]
    rfl

theorem State.emptyPosition_watch {s : State} {n : Fin 32} {w : Watch} (stands : s.monitor.position n = .watch w) :
    s.emptyPosition n = s.removeWatch n w := by
  rw [State.emptyPosition, stands]

theorem State.emptyPosition_none {s : State} {n : Fin 32} (none : ∀ w, s.monitor.position n ≠ .watch w) :
    s.emptyPosition n = s := by
  unfold State.emptyPosition
  split
  · rename_i w stands
    exact absurd stands (none w)
  all_goals rfl

/-- Emptying a position leaves the sweep and its settings. -/
theorem State.emptyPosition_sweep (s : State) (n : Fin 32) :
    (s.emptyPosition n).monitor.sweep = s.monitor.sweep ∧
      (s.emptyPosition n).monitor.settings = s.monitor.settings := by
  unfold State.emptyPosition
  split
  · rename_i w _
    obtain ⟨-, -, -, -, -, -, kept⟩ := (s.removeWatch_removed n w).rest
    exact kept
  all_goals exact ⟨rfl, rfl⟩

section Requests

variable {r : Req} {s : State} {n : Fin 32} (port : r.port = .management)
include port

/-- SET_WATCH from management with its fields in range (R166). -/
theorem setWatch_eq {w : Watch} (fields : WatchFields r n w) :
    setWatch r s =
      if s.monitor.pairingRefuses n w then refuse s .positionPaired
      else
        (s.staleTarget w).elim
          (answerDone
            ((s.emptyPosition n).writeWatch n w (r.params.getD 9 0) (r.params.getD 10 0)).sweepIfContinuous
            [flagByte (s.monitor.position n).holdsWatch])
          fun h => refuse s .stale (stalePayload r (s.entry h.entry)) := by
  simp only [setWatch, (positionOf_eq_some_iff ..).2 fields.position,
    (writtenWatch_eq_some_iff fields.position w).2 fields, managementRequest_pass port]
  cases s.staleTarget w <;> rfl

/-- CLEAR_WATCH from management with its position in range (R168). -/
theorem clearWatch_eq (position : r.byte 0 = n.val) :
    clearWatch r s =
      if s.monitor.position n = .paired then refuse s .positionPaired
      else answerDone (s.emptyPosition n) [flagByte (s.monitor.position n).holdsWatch] := by
  simp only [clearWatch, (positionOf_eq_some_iff ..).2 position, managementRequest_pass port]

end Requests

end Sys2Proof.Machine

namespace Sys2Proof.Proofs
open Sys2Proof.Machine

theorem watchRequests : WatchRequests := by
  intro s src f port u r
  refine ⟨fun n w takes fields => ?_, fun n takes position => ?_⟩
  · have answer := setWatch_eq (s := u) port fields
    intro paired
    have refuses : u.monitor.pairingRefuses n w = true ↔ paired := Monitor.pairingRefuses_iff ..
    refine ⟨fun clash => ?_, fun clear => ?_⟩
    · rw [if_pos (refuses.2 clash)] at answer
      exact does_of_handler takes rfl answer
    rw [if_neg (mt refuses.1 clear)] at answer
    refine ⟨fun h target gone => ?_, fun current => ?_⟩
    · rw [State.staleTarget_gone target gone] at answer
      rw [← stalePayload_management (r := r) port]
      exact does_of_handler takes rfl answer
    · rw [State.staleTarget_current current] at answer
      refine ⟨u.emptyPosition n, State.emptyPosition_none, fun x stands => ?_, ?_⟩
      · rw [State.emptyPosition_watch stands]
        exact u.removeWatch_removed n x
      · intro window upper positions thresholds t starts
        have written : (u.emptyPosition n).writeWatch n w (r.params.getD 9 0) (r.params.getD 10 0) = t :=
          State.writeWatch_eq ..
        have sweeps : t.sweepIfContinuous = if starts then t.startSweep else t := by
          obtain ⟨sweep, settings⟩ := u.emptyPosition_sweep n
          simp only [starts, ← sweep, ← settings]
          rfl
        have byte : flagByte (u.monitor.position n).holdsWatch =
            match u.monitor.position n with
            | .watch _ => 1
            | .paired => 0
            | .empty => 0 := by cases u.monitor.position n <;> rfl
        rw [written, sweeps, byte] at answer
        exact does_of_handler takes rfl answer
  · have answer := clearWatch_eq (s := u) port position
    refine ⟨fun paired => ?_, fun empty => ?_, fun w stands => ⟨_, u.removeWatch_removed n w, ?_⟩⟩
    · rw [if_pos paired] at answer
      exact does_of_handler takes rfl answer
    · rw [empty, if_neg nofun, State.emptyPosition_none (by simp [empty])] at answer
      exact does_of_handler takes rfl answer
    · rw [State.emptyPosition_watch stands, stands, if_neg nofun] at answer
      exact does_of_handler takes rfl answer

/-- Settles O49: a watch is removed before another is written in its place, and each code is that of R166. -/
theorem watchesSetAndCleared : Obligations.WatchesSetAndCleared := ⟨watchRequests, rfl, rfl, rfl⟩

end Sys2Proof.Proofs
end

section
/-! ## READ_WATCH, READ_RESULTS, READ_HITS and CLEAR_HITS (R169, R175) -/

namespace Sys2Proof.Machine

/-- READ_WATCH from management with its position in range (R169). -/
theorem readWatch_eq {r : Req} (port : r.port = .management) (s : State) {n : Fin 32} (position : r.byte 0 = n.val) :
    readWatch r s = answerDone s (s.monitor.watchPayload n) := by
  simp only [readWatch, (positionOf_eq_some_iff ..).2 position, managementRequest_pass port]

section Payload

variable {m : Monitor} {n : Fin 32}

theorem Monitor.watchPayload_empty (empty : m.position n = .empty) :
    m.watchPayload n = [0, 0, 0, 0, 0, 0, 0, 0, 0, 0, 0, 0, 0, 0, 0, flagByte (m.hits.getLsbD n.val)] := by
  simp only [Monitor.watchPayload, empty]
  rfl

theorem Monitor.watchPayload_paired (paired : m.position n = .paired) :
    m.watchPayload n =
      [2, 0, 0, 0, 0, 0, byte (n.val - 16), 0, 0, m.thresholds[n], 0, 0, 0, 0, 0, flagByte (m.hits.getLsbD n.val)] := by
  have high : (n.val - 16) / 256 = 0 := Nat.div_eq_of_lt (by omega)
  simp only [Monitor.watchPayload, paired, be16, high]
  rfl

/-- The bytes of a watch after those of its target (R169). -/
def Monitor.watchTail (m : Monitor) (n : Fin 32) (w : Watch) : List Byte :=
  [byte w.mode.code, m.thresholds[n], if Window w then m.thresholds[(n + 16 : Fin 32)] else 0,
    byte w.disposition.code, byte w.action.code, flagByte w.enabled, flagByte w.condition,
    flagByte (m.hits.getLsbD n.val)]

theorem Monitor.watchPayload_watch {w : Watch} (stands : m.position n = .watch w) :
    m.watchPayload n = 1 :: w.target.bytes ++ m.watchTail n w := by
  simp only [Monitor.watchPayload, stands, Monitor.watchTail, w.isWindow_iff, upperPosition]
  simp

end Payload

/-- The payload of READ_RESULTS: the half that is not the fill half, entry by entry (R175). -/
theorem Monitor.resultsPayload_eq (m : Monitor) :
    m.resultsPayload =
      (if m.fill = .a then 1 else 0) ::
        (List.finRange 32).flatMap fun n =>
          [(if m.fill = .a then m.halfB else m.halfA)[n].reading,
            if (if m.fill = .a then m.halfB else m.halfA)[n].valid then 1 else 0] := by
  have entries (v : Vector ResultEntry 32) :
      v.toList.flatMap ResultEntry.bytes = (List.finRange 32).flatMap fun n => v[n].bytes := by
    have : v.toList = (List.finRange 32).map fun n => v[n] := by
      apply List.ext_getElem <;> simp
    rw [this, List.flatMap_map]
  cases fill : m.fill <;> simp only [Monitor.resultsPayload, fill, entries, Half.other, Monitor.half] <;> rfl

/-- One position more in a set of positions. -/
theorem getLsbD_withPosition (set : BitVec 32) (n k : Fin 32) :
    (set ||| 1#32 <<< n.val).getLsbD k.val = (set.getLsbD k.val || decide (k = n)) := by
  have bit : (1#32 <<< n.val).getLsbD k.val = decide (k = n) := by
    rw [Bool.eq_iff_iff]
    simp [Fin.ext_iff, ← Fin.val_fin_le]
    omega
  rw [BitVec.getLsbD_or, bit]

/-- The positions of a list that pass a test, as a set. -/
theorem getLsbD_foldr_positions (p : Fin 32 → Bool) (l : List (Fin 32)) (k : Fin 32) :
    (l.foldr (fun n set => if p n then set ||| 1#32 <<< n.val else set) 0).getLsbD k.val = (decide (k ∈ l) && p k) := by
  induction l with
  | nil => exact BitVec.getLsbD_zero
  | cons n l ih =>
    rw [List.foldr_cons]
    split
    · rename_i passes
      rw [getLsbD_withPosition, ih]
      by_cases own : k = n <;> simp [own, passes]
    · rename_i fails
      rw [ih]
      by_cases own : k = n <;> simp [own, fails]

theorem Monitor.conditions_iff (m : Monitor) (n : Fin 32) :
    m.conditions.getLsbD n.val = true ↔ ∃ w, m.position n = .watch w ∧ w.condition = true := by
  rw [Monitor.conditions, getLsbD_foldr_positions]
  cases m.position n <;> simp [Position.condition]

/-- The four parameter bytes of CLEAR_HITS, most significant first (R175, R183). -/
theorem Req.positions_eq (r : Req) :
    r.positions = r.params.getD 0 0 ++ r.params.getD 1 0 ++ r.params.getD 2 0 ++ r.params.getD 3 0 := by
  apply BitVec.eq_of_toNat_eq
  have append (n : Nat) (x : BitVec n) (y : Byte) : (x ++ y).toNat = x.toNat * 256 + y.toNat := by
    rw [BitVec.toNat_append, ← Nat.shiftLeft_add_eq_or_of_lt y.isLt, Nat.shiftLeft_eq]
  have first := (r.params.getD 0 0).isLt
  have second := (r.params.getD 1 0).isLt
  have third := (r.params.getD 2 0).isLt
  have fourth := (r.params.getD 3 0).isLt
  simp only [Req.positions, Req.word, Req.byte, append, BitVec.toNat_ofNat, Nat.reduceAdd]
  omega

end Sys2Proof.Machine

namespace Sys2Proof.Proofs
open Sys2Proof.Machine

/-- Settles O50: each read by its payload, CLEAR_HITS by the set of positions in its parameters. -/
theorem monitorReadAndHitsCleared : Obligations.MonitorReadAndHitsCleared := by
  intro s src f port u r
  refine ⟨fun n takes position => ?_, fun takes => ?_, fun takes => ?_, fun takes => ?_⟩
  · have read : Does .readWatch s src f u .done (u.monitor.watchPayload n) :=
      does_of_handler takes rfl (readWatch_eq port u position)
    refine ⟨fun empty => ?_, fun paired => ?_, fun w stands => ⟨fun h target => ?_, fun b start width target => ?_⟩⟩
    · rwa [Monitor.watchPayload_empty empty] at read
    · rwa [Monitor.watchPayload_paired paired] at read
    all_goals
      rw [Monitor.watchPayload_watch stands, target] at read
      exact read
  · have read : Does .readResults s src f u .done u.monitor.resultsPayload :=
      does_of_handler takes rfl (managementRequest_pass port rfl)
    rwa [Monitor.resultsPayload_eq] at read
  · exact ⟨u.monitor.conditions, u.monitor.conditions_iff, does_of_handler takes rfl (managementRequest_pass port rfl)⟩
  · rw [← r.positions_eq]
    exact does_of_handler takes rfl (managementRequest_pass port rfl)

end Sys2Proof.Proofs
end

section
/-! ## SET_SWEEP, SWEEP and the period timer (R170 to R172) -/

namespace Sys2Proof.Machine

/-! ### The settings (R170) -/

theorem sweepModeOfCode_eq (n : Nat) : sweepModeOfCode n = [SweepMode.off, .periodic, .continuous][n]? := by
  match n with
  | 0 | 1 | 2 | _ + 3 => rfl

theorem sweepOrderOfCode_eq (n : Nat) : sweepOrderOfCode n = [SweepOrder.sequential, .interleaved][n]? := by
  match n with
  | 0 | 1 | _ + 2 => rfl

theorem reportOfCode_eq (n : Nat) :
    reportOfCode n = [ReportCondition.none, .eachSweep, .sweepWithHit, .eachHit][n]? := by
  match n with
  | 0 | 1 | 2 | 3 | _ + 4 => rfl

theorem sweepSettingsOf_eq {r : Req} {mode : SweepMode} {order : SweepOrder} {start : Fin 32} {report : ReportCondition}
    (hm : sweepModeOfCode (r.byte 0) = some mode) (least : 100 ≤ r.word 1) (most : r.word 1 ≤ 60000)
    (ho : sweepOrderOfCode (r.byte 3) = some order) (hs : r.byte 4 = start.val)
    (hr : reportOfCode (r.byte 5) = some report) :
    sweepSettingsOf r = some { mode, period := r.word 1, order, start, report } := by
  simp only [sweepSettingsOf, hm, ho, hr, (positionOf_eq_some_iff ..).2 hs, Option.bind_eq_bind, Option.bind_some]
  exact if_pos ⟨least, most⟩

/-- The settings replaced, and the period timer loaded or stopped with them (R170). -/
def State.withSweepSettings (s : State) (x : SweepSettings) : State :=
  s.withMonitor fun m => { m with settings := x, periodTimer := x.timer }

theorem State.sweepIfContinuous_withSweepSettings (s : State) (x : SweepSettings) :
    (s.withSweepSettings x).sweepIfContinuous =
      if x.mode = .continuous ∧ s.monitor.sweep = none then (s.withSweepSettings x).startSweep
      else s.withSweepSettings x := rfl

section Requests

variable {r : Req} {s : State} (port : r.port = .management)
include port

/-- SET_SWEEP from management with its fields in range (R170, R171). -/
theorem setSweep_eq {x : SweepSettings} (settings : sweepSettingsOf r = some x) :
    setSweep r s =
      answerDone
        (if x.mode = .continuous ∧ s.monitor.sweep = none then (s.withSweepSettings x).startSweep
         else s.withSweepSettings x) := by
  simp only [setSweep, settings, managementRequest_pass port]
  exact congrArg answerDone (State.sweepIfContinuous_withSweepSettings s x)

/-- SWEEP from management (R171). -/
theorem sweep_eq :
    sweep r s =
      if s.monitor.sweep.isSome then refuse s .sweepBusy
      else answerAccepted s.startSweep [if s.monitor.fill = .a then 0 else 1] := by
  have half : byte s.monitor.fill.code = if s.monitor.fill = .a then 0 else 1 := by cases s.monitor.fill <;> rfl
  rw [sweep, managementRequest_pass port rfl, half]

end Requests

/-! ### The period timer (R171) -/

section Period

variable {s : State} (running : s.ports.resetHeld = false)
include running

theorem periodTimerExpiry_stopped (stopped : s.monitor.periodTimer = none) : exec .periodTimerExpiry s = .next s := by
  have idle : s.periodElapsed = s := by rw [State.periodElapsed, stopped]
  exact congrArg _ ((State.whileRunning_eq running _).trans idle)

theorem periodTimerExpiry_eq {n : Nat} (runs : s.monitor.periodTimer = some n) :
    let v := s.withMonitor fun m => { m with periodTimer := some m.settings.period }
    exec .periodTimerExpiry s = .next (if s.monitor.sweep.isSome then v.raise .sweepOverrun else v.startSweep) := by
  refine congrArg _ ((State.whileRunning_eq running _).trans ?_)
  rw [State.periodElapsed, runs]

end Period

/-! ### The order of a sweep (R172) -/

/-- A SEQUENTIAL sweep is at a position at the one step that is its distance from the start. -/
theorem sequential_visits_once (start n : Fin 32) :
    ∃ k < 32, Fin.ofNat 32 (start.val + k) = n ∧ ∀ k' < 32, Fin.ofNat 32 (start.val + k') = n → k' = k := by
  have hs := start.isLt
  have hn := n.isLt
  refine ⟨(n.val + 32 - start.val) % 32, Nat.mod_lt _ (by omega), ?_, fun k' hk' visits => ?_⟩
  · rw [Fin.ext_iff, Fin.val_ofNat]
    omega
  · rw [Fin.ext_iff, Fin.val_ofNat] at visits
    omega

/-- An INTERLEAVED sweep is at a position at the one step whose bits are those in which it differs from the start. -/
theorem interleaved_visits_once (start n : Fin 32) :
    ∃ k < 32, Fin.ofNat 32 (start.val ^^^ k) = n ∧ ∀ k' < 32, Fin.ofNat 32 (start.val ^^^ k') = n → k' = k := by
  have inRange {k : Nat} (hk : k < 32) : start.val ^^^ k < 32 := Nat.xor_lt_two_pow (n := 5) start.isLt hk
  have visit {k : Nat} (hk : k < 32) : Fin.ofNat 32 (start.val ^^^ k) = n ↔ start.val ^^^ k = n.val := by
    rw [Fin.ext_iff, Fin.val_ofNat, Nat.mod_eq_of_lt (inRange hk)]
  refine ⟨start.val ^^^ n.val, inRange n.isLt, ?_, fun k' hk' visits => ?_⟩
  · rw [visit (inRange n.isLt), Nat.xor_xor_cancel_left]
  · rw [← (visit hk').1 visits, Nat.xor_xor_cancel_left]

theorem Sweep.visits_once (w : Sweep) (n : Fin 32) : ∃ k < 32, w.visit k = n ∧ ∀ k' < 32, w.visit k' = n → k' = k := by
  unfold Sweep.visit
  cases w.order with
  | sequential => exact sequential_visits_once w.start n
  | interleaved => exact interleaved_visits_once w.start n

end Sys2Proof.Machine

namespace Sys2Proof.Proofs
open Sys2Proof.Machine

theorem sweepsSetAndStarted : SweepsSetAndStarted := by
  refine ⟨fun s src f port => ⟨fun mode order start report takes hm least most ho hs hr => ?_, fun takes => ?_⟩,
    fun s running => ?_, State.startSweep_started, fun w => ⟨fun k => ?_, w.visits_once⟩⟩
  · rw [← sweepModeOfCode_eq] at hm
    rw [← sweepOrderOfCode_eq] at ho
    rw [← reportOfCode_eq] at hr
    have does := does_of_handler takes rfl
      (setSweep_eq (s := s.taken src) port (sweepSettingsOf_eq hm least most ho hs hr))
    refine ⟨fun waits => ?_, fun continuous idle => ⟨_, State.startSweep_started _, ?_⟩⟩
    · rwa [if_neg waits] at does
    · rwa [if_pos ⟨continuous, idle⟩] at does
  · have answer := sweep_eq (s := s.taken src) (r := requestOf src.port f) port
    refine ⟨fun busy => ?_, fun idle => ⟨_, State.startSweep_started _, ?_⟩⟩
    · rw [if_pos (Option.isSome_iff_ne_none.2 busy)] at answer
      exact does_of_handler takes rfl answer
    · rw [if_neg (by simp [idle])] at answer
      exact does_of_handler takes rfl answer
  · refine ⟨periodTimerExpiry_stopped running, fun n runs => ?_⟩
    have expires := periodTimerExpiry_eq running runs
    refine ⟨fun busy => ?_, fun idle => ⟨_, State.startSweep_started _, ?_⟩⟩
    · exact expires.trans (by rw [if_pos (Option.isSome_iff_ne_none.2 busy)]; rfl)
    · exact expires.trans (by rw [if_neg (by simp [idle])]; rfl)
  · unfold Sweep.visit
    cases w.order <;> rfl

end Sys2Proof.Proofs
end

section
/-! ## Readings and sense timeouts (R165, R173 to R176, R180) -/

namespace Sys2Proof.Machine

/-! ### A sweep that goes on (R171, R172) -/

theorem sweepEnded_settings (u : State) (w : Sweep) : (sweepEnded u w).monitor.settings = u.monitor.settings := by
  unfold sweepEnded
  dsimp only
  split <;> rfl

theorem State.continueSweep_goesOn (u : State) : SweepGoesOn u u.continueSweep where
  idle none := by rw [State.continueSweep, none]
  next w k b start width h sweep above hk passed measured := by
    have found : u.nextStep w (31 - w.step) (w.step + 1) = some (k, b, start, width, h) :=
      State.nextStep_of_first ((u.measurable_eq_some_iff ..).2 measured) above (by omega)
        fun k' after before => (u.measurable_eq_none_iff _).2 (passed k' after before)
    simp only [State.continueSweep, sweep, found]
    rfl
  ends w sweep passed := by
    have none : u.nextStep w (31 - w.step) (w.step + 1) = none :=
      State.nextStep_of_none fun k after before => (u.measurable_eq_none_iff _).2 (passed k after (by omega))
    simp only [State.continueSweep, sweep, none, State.endSweep_eq, sweepEnded_settings]
    refine ⟨fun last => if_neg last, fun continuous sent => ?_⟩
    rw [if_pos ⟨continuous, sent⟩]
    exact State.startSweep_started _

/-! ### A turn (R176) -/

theorem Grant.impairUp_eq (g : Grant) :
    g.impairUp =
      { g with
        impairing := g.impairing + 1
        state := if g.state = .live ∧ g.impairing = 0 then .impaired else g.state
        news := g.news || decide (g.state = .live ∧ g.impairing = 0) } := by
  unfold Grant.impairUp
  split
  · rename_i first
    simp [first]
  · rename_i other
    simp [other]

theorem State.mayAsk_iff (s : State) (g : Grant) :
    s.mayAsk g = true ↔
      g.hold ≠ .pinned ∧ g.fixed = false ∧ (g.state = .live ∨ g.state = .impaired) ∧ s.table.planFrozen = false ∧
        s.plan.active.frozenAt g.band g.start = false := by
  simp [State.mayAsk, Grant.carries, and_assoc]

/-- The record that a turn to TRUE leaves may ask by its state; the rest it shares with the record before. -/
theorem State.mayAsk_impairUp_iff (s : State) (g : Grant) :
    s.mayAsk g.impairUp = true ↔
      g.hold ≠ .pinned ∧ g.fixed = false ∧ (g.impairUp.state = .live ∨ g.impairUp.state = .impaired) ∧
        s.table.planFrozen = false ∧ s.plan.active.frozenAt g.band g.start = false := by
  rw [State.mayAsk_iff]
  unfold Grant.impairUp
  split <;> rfl

/-- A watch without an impairing action, or disabled, drives nothing when it turns. -/
theorem State.turned_idle {s : State} {w : Watch} (idle : w.enabled = false ∨ w.action.impairs = false) (now : Bool) :
    s.turned w now = s := by
  unfold State.turned
  split
  · rfl
  · rw [if_neg]
    rcases idle with idle | idle <;> simp [idle]

section Turn

variable {s : State} {w : Watch} {h : Handle} {g : Grant} (target : w.target = .grant h) (enabled : w.enabled = true)
  (impairs : w.action.impairs = true)
include target enabled impairs

theorem State.turned_true :
    s.turned w true =
      if w.action = .impairAndMove then (s.modNamed h Grant.impairUp).askMove h else s.modNamed h Grant.impairUp := by
  simp [State.turned, target, enabled, impairs]

theorem State.turned_false : s.turned w false = s.modNamed h Grant.impairDown := by
  simp [State.turned, target, enabled, impairs]

variable (current : s.grantOf h = some g)
include current

theorem State.turned_table (now : Bool) :
    (s.turned w now).table =
      (s.setEntry h.entry
        { s.entry h.entry with grant := some (if now then g.impairUp else impairedLess g) }).table := by
  cases now with
  | true =>
    show _ = (s.setEntry h.entry { s.entry h.entry with grant := some g.impairUp }).table
    rw [State.turned_true target enabled impairs, ← State.modNamed_some current Grant.impairUp]
    split <;> simp
  | false =>
    rw [State.turned_false target enabled impairs, State.modNamed_some current, g.impairDown_eq]
    rfl

/-- The ask follows a turn to TRUE, by the record that the turn leaves (R151, R176). -/
theorem State.turned_engine (now : Bool) :
    (s.turned w now).engine =
      if now = true ∧ w.action = .impairAndMove ∧ s.mayAsk g.impairUp = true then
        { s.engine with asks := s.engine.asks ++ [{ handle := h, spanChanged := false }] }
      else s.engine := by
  cases now with
  | true =>
    have after : (s.modNamed h Grant.impairUp).grantOf h = some g.impairUp := by
      rw [State.modNamed_some current, State.grantOf_eq_some_iff]
      simp [(State.grantOf_some current).2]
    have may : (s.modNamed h Grant.impairUp).mayAsk g.impairUp = s.mayAsk g.impairUp := by simp [State.mayAsk]
    rw [State.turned_true target enabled impairs]
    by_cases moves : w.action = .impairAndMove
    · rw [if_pos moves, State.askMove, after]
      dsimp only
      rw [may]
      by_cases asks : s.mayAsk g.impairUp = true <;> simp [asks, moves]
    · simp [moves]
  | false =>
    rw [State.turned_false target enabled impairs]
    simp

end Turn

/-! ### A compare (R165, R174, R175, R180) -/

theorem compareReading_iff (mode : CompareMode) (lower upper r : Byte) :
    compareReading mode lower upper r = true ↔ Compares mode lower upper r := by
  cases mode <;> simp [compareReading, Compares]

/-- The condition that a reading gives a watch at a position (R165). -/
def State.conditionAt (s : State) (n : Fin 32) (w : Watch) (r : Byte) : Bool :=
  compareReading w.mode s.monitor.thresholds[n] s.monitor.thresholds[upperPosition n] r

/-- The monitor when the compare at a position has given `now`: condition, hit flags, and the sweep's hit indication. -/
def Monitor.compared (m : Monitor) (n : Fin 32) (w : Watch) (r : Byte) (now : Bool) : Monitor :=
  let hit := m.hits ||| 1#32 <<< n.val
  { m with
    positions := m.positions.set n (.watch { w with condition := now })
    hits :=
      if now then
        if w.mode = .outside ∧ m.thresholds[upperPosition n] < r then hit ||| 1#32 <<< (upperPosition n).val else hit
      else m.hits
    sweep := if now then m.sweep.map fun x => { x with hit := true } else m.sweep }

theorem Monitor.hits_compared (m : Monitor) (n : Fin 32) (w : Watch) (r : Byte) (now : Bool) (k : Fin 32) :
    (m.compared n w r now).hits.getLsbD k.val = true ↔
      m.hits.getLsbD k.val = true ∨ (now = true ∧ k = n) ∨
        (now = true ∧ w.mode = .outside ∧ m.thresholds[upperPosition n] < r ∧ k = upperPosition n) := by
  unfold Monitor.compared
  cases now with
  | false => simp
  | true =>
    dsimp only
    rw [if_pos rfl]
    split
    · rename_i beyond
      obtain ⟨outside, above⟩ := beyond
      simp only [getLsbD_withPosition, Bool.or_eq_true, decide_eq_true_eq, outside, above, true_and, or_assoc]
    · rename_i within
      simp only [getLsbD_withPosition, Bool.or_eq_true, decide_eq_true_eq, true_and]
      tauto

/-- What a compare with the result `now` drives beside the monitor (R176). -/
def State.comparedTurn (s : State) (n : Fin 32) (w : Watch) (r : Byte) (now : Bool) : State :=
  let t := s.withMonitor (·.compared n w r now)
  if now ≠ w.condition then t.turned w now else t

section Compare

variable (s : State) (n : Fin 32) (w : Watch) (r : Byte) (now : Bool)

theorem State.comparedTurn_monitor :
    (s.comparedTurn n w r now).monitor = s.monitor.compared n w r now := by
  unfold State.comparedTurn
  dsimp only
  split
  · rw [State.turned_monitor]
    rfl
  · rfl

theorem State.comparedTurn_ports : (s.comparedTurn n w r now).ports = s.ports := by
  unfold State.comparedTurn
  dsimp only
  split <;> simp

/-- A compare that gives the condition anew, or whose watch does not act, drives nothing. -/
theorem State.comparedTurn_same (same : now = w.condition ∨ w.enabled = false ∨ w.action = .flag ∨ w.action = .block) :
    s.comparedTurn n w r now = s.withMonitor (·.compared n w r now) := by
  unfold State.comparedTurn
  dsimp only
  split
  · rename_i turns
    refine State.turned_idle ?_ now
    rcases same with held | disabled | flag | block
    · exact absurd held turns
    · exact .inl disabled
    · exact .inr (by rw [flag]; rfl)
    · exact .inr (by rw [block]; rfl)
  · rfl

/-- A turn of a watch that acts on its grant drives what a turn of the condition does. -/
theorem State.comparedTurn_acts {h : Handle} {g : Grant} (target : w.target = .grant h) (enabled : w.enabled = true)
    (impairs : w.action.impairs = true) (current : s.grantOf h = some g) (turns : now ≠ w.condition) :
    (s.comparedTurn n w r now).table =
        (s.setEntry h.entry
          { s.entry h.entry with grant := some (if now then g.impairUp else impairedLess g) }).table ∧
      (s.comparedTurn n w r now).engine =
        if now = true ∧ w.action = .impairAndMove ∧ s.mayAsk g.impairUp = true then
          { s.engine with asks := s.engine.asks ++ [{ handle := h, spanChanged := false }] }
        else s.engine := by
  let t := s.withMonitor (·.compared n w r now)
  have turn : s.comparedTurn n w r now = t.turned w now := if_pos turns
  rw [turn]
  exact ⟨State.turned_table (s := t) target enabled impairs current now,
    State.turned_engine (s := t) target enabled impairs current now⟩

end Compare

/-- A compare writes the monitor, then the turn of the condition acts on it, then the report is made. -/
theorem State.compareAt_eq (s : State) (n : Fin 32) (w : Watch) (r : Byte) :
    s.compareAt n w r =
      (s.comparedTurn n w r (s.conditionAt n w r)).raiseIf
        (s.conditionAt n w r && s.monitor.settings.report == .eachHit) .watchHit := by
  unfold State.compareAt
  extract_lets lower upper now s₁ s₂ s₃
  have written : s₂ = s.withMonitor (·.compared n w r now) := by
    unfold s₂ s₁ Monitor.compared upper
    cases now with
    | false => rfl
    | true =>
      simp only [State.setPosition, State.withMonitor, Monitor.setHit, if_true]
      split <;> rfl
  have driven : s₃ = s.comparedTurn n w r now := by
    unfold s₃
    rw [written]
    rfl
  rw [driven, s.comparedTurn_monitor]
  rfl

theorem State.compareAt_compared (s : State) (n : Fin 32) (w : Watch) (r : Byte) :
    Compared s (s.compareAt n w r) n w r (s.conditionAt n w r) := by
  have condition : s.conditionAt n w r = true ↔ _ := compareReading_iff ..
  rw [s.compareAt_eq]
  generalize s.conditionAt n w r = now at condition
  have monitor := s.comparedTurn_monitor n w r now
  exact
    { condition
      positions := by rw [State.raiseIf_monitor, monitor]; rfl
      hits := by rw [State.raiseIf_monitor, monitor]; exact s.monitor.hits_compared n w r now
      report := by
        have ports := s.comparedTurn_ports n w r now
        simp only [State.raiseIf, Bool.and_eq_true, beq_iff_eq]
        split
        · simp only [State.raise, ports]
        · exact ports
      same := fun same => by
        rw [State.raiseIf_table, State.raiseIf_engine, State.comparedTurn_same s n w r now same]
        exact ⟨rfl, rfl⟩
      turned := fun h g turns enabled action target current => by
        obtain ⟨table, engine⟩ :=
          s.comparedTurn_acts n w r now target enabled (w.action.impairs_iff.2 action) current turns
        rw [State.raiseIf_table, State.raiseIf_engine]
        intro up g'
        have record : (if now then g.impairUp else impairedLess g) = g' := by rw [g.impairUp_eq]
        refine ⟨by rw [table, record], ?_⟩
        intro asks
        have acts : (now = true ∧ w.action = .impairAndMove ∧ s.mayAsk g.impairUp = true) ↔ asks := by
          refine and_congr_right fun risen => and_congr_right fun _ => ?_
          rw [State.mayAsk_impairUp_iff, ← record, if_pos risen]
        exact ⟨fun h => engine.trans (if_pos (acts.2 h)), fun h => engine.trans (if_neg (mt acts.1 h))⟩
      sweep := by rw [State.raiseIf_monitor, monitor]; rfl
      monitor := by rw [State.raiseIf_monitor, monitor]; rfl
      rest := by
        unfold State.comparedTurn
        dsimp only
        split <;> simp }

/-! ### Readings and timeouts (R173, R174) -/

section Ends

variable {s : State} (running : s.ports.resetHeld = false)
include running

theorem senseTimeout_idle (none : s.monitor.inFlight = none) : exec .senseTimeout s = .next s := by
  have idle : s.senseElapsed = s := by rw [State.senseElapsed, none]
  exact congrArg _ ((State.whileRunning_eq running _).trans idle)

/-- A reading whose tag is not in flight is ignored. -/
theorem reading_ignored {tag : Byte} (value : Byte) (other : ∀ x, s.monitor.inFlight = some x → x.tag ≠ tag) :
    exec (.reading tag value) s = .next s := by
  have ignored : s.takeReading tag value = s := by
    unfold State.takeReading
    split
    · rfl
    · rename_i x flight
      exact if_neg (other x flight)
  exact congrArg _ ((State.whileRunning_eq running _).trans ignored)

variable {x : Measurement} (flight : s.monitor.inFlight = some x)
include flight

theorem senseTimeout_eq :
    exec .senseTimeout s =
      .next
        ((s.withMonitor fun m => { m with inFlight := none }).raiseIf (!x.void) .measureMissed).continueSweep := by
  refine congrArg _ ((State.whileRunning_eq running _).trans ?_)
  rw [State.senseElapsed, flight]

theorem reading_eq (value : Byte) :
    exec (.reading x.tag value) s =
      .next
        (if x.void then s.withMonitor fun m => { m with inFlight := none }
          else (s.withMonitor fun m => { m with inFlight := none }).actOn x.position value).continueSweep := by
  refine congrArg _ ((State.whileRunning_eq running _).trans ?_)
  simp only [State.takeReading, flight, if_true]

end Ends

/-- A reading stored in its position's entry of the fill half (R174). -/
theorem State.store_eq (s : State) (n : Fin 32) (r : Byte) :
    s.withMonitor (·.store n r) =
      if s.monitor.fill = .a then
        { s with monitor := { s.monitor with halfA := s.monitor.halfA.set n { reading := r, valid := true } } }
      else { s with monitor := { s.monitor with halfB := s.monitor.halfB.set n { reading := r, valid := true } } } := by
  cases h : s.monitor.fill <;> simp [State.withMonitor, Monitor.store, Monitor.setHalf, Monitor.half, h]

section Disposition

variable {s : State} {n : Fin 32} {w : Watch} (stands : s.monitor.position n = .watch w) (r : Byte)
include stands

theorem State.actOn_storeOnly (h : w.disposition = .storeOnly) : s.actOn n r = s.withMonitor (·.store n r) := by
  simp only [State.actOn, stands, h]

theorem State.actOn_compares (h : w.disposition ≠ .storeOnly) :
    s.actOn n r = (if w.disposition = .compareStore then s.withMonitor (·.store n r) else s).compareAt n w r := by
  cases hd : w.disposition with
  | compareOnly => simp only [State.actOn, stands, hd, reduceCtorEq, if_false]
  | compareStore => simp only [State.actOn, stands, hd, if_true]
  | storeOnly => exact absurd hd h

end Disposition

end Sys2Proof.Machine

namespace Sys2Proof.Proofs
open Sys2Proof.Machine

theorem measurementsEnd : MeasurementsEnd := by
  refine fun s running => ⟨senseTimeout_idle running, fun tag => reading_ignored running, fun x flight => ?_⟩
  intro u
  refine ⟨⟨_, senseTimeout_eq running flight, ?_⟩, fun value => ?_⟩
  · have missed : u.raiseIf (!x.void) .measureMissed = if x.void then u else u.raise .measureMissed := by
      cases x.void <;> rfl
    exact missed ▸ State.continueSweep_goesOn _
  · have arrives := reading_eq running flight value
    refine ⟨fun void => ⟨_, arrives, ?_⟩, fun kept w stands => ?_⟩
    · rw [if_pos void]
      exact State.continueSweep_goesOn _
    · intro entry stored
      have store : u.withMonitor (·.store x.position value) = stored := State.store_eq ..
      rw [if_neg (by simp [kept])] at arrives
      change exec _ s = .next (u.actOn x.position value).continueSweep at arrives
      refine ⟨fun only => ⟨_, arrives, ?_⟩, fun compares => ⟨_, _, _, State.compareAt_compared .., arrives, ?_⟩⟩
      · rw [State.actOn_storeOnly (s := u) stands value only, store]
        exact State.continueSweep_goesOn _
      · rw [State.actOn_compares (s := u) stands value compares, store]
        exact State.continueSweep_goesOn _

/-- Settles O51: sweeps start and go on by one search for the next position measured; a reading is compared, and a turn
drives the count and the ask, before the sweep goes on. -/
theorem sweepsAndMeasurements : Obligations.SweepsAndMeasurements := ⟨sweepsSetAndStarted, measurementsEnd⟩

end Sys2Proof.Proofs
end

section
/-! ## What a transaction and its parts do on their port (R182, R184, R192) -/

namespace Sys2Proof.Machine

/-! ### A port written twice, and the counter of free values -/

@[simp] theorem State.setPort_setPort (s : State) (p : Port) (x y : PortState) :
    (s.setPort p x).setPort p y = s.setPort p y := by
  cases p <;> rfl

@[simp] theorem State.port_spendFree (s : State) (n : Nat) (p : Port) : (s.spendFree n).port p = s.port p :=
  State.port_congr rfl p

theorem State.setPort_spendFree (s : State) (n : Nat) (p : Port) (x : PortState) :
    (s.spendFree n).setPort p x = (s.setPort p x).spendFree n := by
  cases p <;> rfl

@[simp] theorem State.length_freeBytes (s : State) (n : Nat) : (s.freeBytes n).length = n := by simp [State.freeBytes]

/-- A port's writes leave the free values that come next. -/
@[simp] theorem State.freeBytes_setPort (s : State) (p : Port) (x : PortState) (n : Nat) :
    (s.setPort p x).freeBytes n = s.freeBytes n := by
  simp [State.freeBytes]

/-! ### Transactions that begin, and that go on -/

section Begin

variable {s : State} {p : Port}

/-- What a transaction that begins does, while RESET_N is not held low. -/
theorem State.transaction_running (running : s.ports.resetHeld = false) (idle : (s.port p).progress = none) (n : Nat)
    (run : State) : s.transaction p n run = run := by
  simp [State.transaction, running, idle]

/-- While RESET_N is held low it returns zeros, the status byte included (R192). -/
theorem State.transaction_held (held : s.ports.resetHeld = true) (idle : (s.port p).progress = none) (n : Nat)
    (run : State) : s.transaction p n run = s.setPort p { s.port p with returned := List.replicate (n + 1) 0 } := by
  simp [State.transaction, held, idle, State.silent]

theorem State.afterSelect_running (running : s.ports.resetHeld = false)
    (selected : (s.port p).progress = some .selected) (n : Nat) (run : State) : s.afterSelect p n run = run := by
  simp [State.afterSelect, running, selected]

theorem State.afterSelect_held (held : s.ports.resetHeld = true) (n : Nat) (run : State) :
    s.afterSelect p n run = s.silentBytes p n := by
  simp [State.afterSelect, held]

theorem State.release_running (running : s.ports.resetHeld = false) (f : Frame) : s.release p f = s.endWrite p f := by
  simp [State.release, running]

theorem State.release_held (held : s.ports.resetHeld = true) (f : Frame) : s.release p f = s.silentBytes p f.length := by
  simp [State.release, held]

theorem State.silentBytes_zero (s : State) (p : Port) : s.silentBytes p 0 = s := by
  rw [State.silentBytes, List.replicate_zero, List.append_nil]
  exact s.setPort_self p

@[simp] theorem State.port_select (s : State) (p : Port) :
    (s.select p).port p = { s.port p with progress := some .selected, returned := [s.statusByte p] } :=
  State.port_setPort_same ..

@[simp] theorem State.select_resetHeld (s : State) (p : Port) :
    (s.select p).ports.resetHeld = s.ports.resetHeld := State.setPort_ports_resetHeld ..

/-- A write on the port replaces what its start wrote there. -/
@[simp] theorem State.setPort_select (s : State) (p : Port) (x : PortState) :
    (s.select p).setPort p x = s.setPort p x := State.setPort_setPort ..

@[simp] theorem State.freeBytes_select (s : State) (p : Port) (n : Nat) : (s.select p).freeBytes n = s.freeBytes n :=
  State.freeBytes_setPort ..

end Begin

/-! ### The rows that parts of transactions are -/

section Rows

variable {p : Port} {c : Instr} (s : State)

theorem exec_otherCommandByte {command : Byte} (other : otherCommand command = true) (part : ReadPart) :
    exec (.otherCommandByte p command part) s =
      .next (s.read p (fun n t => t.returns p (List.replicate n 0)) part) :=
  congrArg Host.Outcome.next (if_pos other)

/-- The start of a transaction is the same in all five rows. -/
theorem exec_begins (h : Begins p c) : exec c s = .next (s.transaction p 0 (s.select p)) := by
  obtain rfl | rfl | rfl | rfl | ⟨x, other, rfl⟩ := h
  case inr.inr.inr.inr => exact exec_otherCommandByte s other .select
  all_goals rfl

/-- So is the release of select. -/
theorem exec_releases (h : Releases p c) : exec c s = .next (s.release p []) := by
  obtain rfl | rfl | rfl | rfl | ⟨x, other, rfl⟩ := h
  case inr.inr.inr.inr => exact exec_otherCommandByte s other .release
  all_goals rfl

/-- The rest of a transaction that is no write waits for its start. -/
theorem exec_goesOn {n : Nat} (h : GoesOn p n c) : ∃ run, exec c s = .next (s.afterSelect p n run) := by
  obtain rfl | rfl | ⟨x, other, rfl⟩ := h
  · exact ⟨_, rfl⟩
  · exact ⟨_, rfl⟩
  · exact ⟨_, exec_otherCommandByte s other (.rest n)⟩

/-- The release of select ends a write whichever of its two rows names it. -/
theorem exec_finish {f : Frame} (h : c = .writeRequest p (.finish f) ∨ c = .writeRequestPriority p (.finish f)) :
    exec c s = .next (s.release p f) := by
  obtain rfl | rfl := h <;> rfl

end Rows

/-! ### Transactions that are no write -/

section Read

variable {s : State} {p : Port} (running : s.ports.resetHeld = false)
include running

theorem State.read_whole (idle : (s.port p).progress = none) (run : Nat → State → State) (n : Nat) :
    s.read p run (.whole n) = run n (s.select p) := State.transaction_running running idle n _

theorem State.read_rest (selected : (s.port p).progress = some .selected) (run : Nat → State → State) (n : Nat) :
    s.read p run (.rest n) = run n s := State.afterSelect_running running selected n _

/-- The two parts with nothing between them are the whole (log entry 2). -/
theorem State.read_parts (idle : (s.port p).progress = none) (run : Nat → State → State) (n : Nat) :
    s.read p run .select = s.select p ∧ (s.select p).read p run (.rest n) = s.read p run (.whole n) := by
  refine ⟨State.transaction_running running idle 0 _, ?_⟩
  rw [State.read_whole running idle,
    State.read_rest ((s.select_resetHeld p).trans running) (congrArg PortState.progress (s.port_select p))]

end Read

/-- The oldest response leaves its queue and is shifted out. -/
theorem State.readOldest_cons {s : State} {p : Port} {f : Frame} {rest : List Frame}
    (h : (s.port p).responses = f :: rest) (n : Nat) :
    s.readOldest p n =
      (s.setPort p
        { s.port p with
          responses := rest, progress := none
          returned := (s.port p).returned ++ (f.take n ++ s.freeBytes (n - f.length)) }).spendFree (n - f.length) := by
  simp [State.readOldest, h, State.returns]

theorem State.readOldest_nil {s : State} {p : Port} (h : (s.port p).responses = []) (n : Nat) :
    s.readOldest p n = s.returns p (List.replicate n 0) := by
  simp [State.readOldest, h]

/-- With no byte clocked after the status byte the counts are not returned. -/
theorem State.readCounts_zero (s : State) (p : Port) : s.readCounts p 0 = s.returns p [] := rfl

theorem State.readCounts_succ (s : State) (p : Port) (n : Nat) :
    s.readCounts p (n + 1) = (s.returns p (s.countByte p :: s.freeBytes n)).spendFree n := by
  rw [State.readCounts, Nat.add_sub_cancel, List.take_of_length_le (by simp)]

/-- The start of a transaction leaves both counts. -/
@[simp] theorem State.countByte_select (s : State) (p : Port) : (s.select p).countByte p = s.countByte p := by
  simp [State.countByte]

/-- A transaction that began while none was in progress returns its bytes after the status byte, and is over. -/
theorem State.returns_select {s : State} {p : Port} (idle : (s.port p).progress = none) (later : List Byte) :
    (s.select p).returns p later = s.setPort p { s.port p with returned := s.statusByte p :: later } := by
  simp [State.returns, idle]

/-! ### Write transactions -/

/-- What a write claims in the request queue: its next place, unless it holds 4. -/
theorem State.claimFor_queue (s : State) {p : Port} {priority : Bool} (h : ¬(priority = true ∧ p = .management)) :
    s.claimFor p priority = if (s.port p).requests.length < 4 then .queuePlace else .nothing := if_neg h

/-- What a priority write on the management port claims: the priority slot, unless it is occupied. -/
theorem State.claimFor_priority (s : State) :
    s.claimFor .management true = if s.ports.priority = none then .prioritySlot else .nothing := by
  cases h : s.ports.priority <;> simp [State.claimFor, h]

theorem State.claimFor_ne_selected (s : State) (p : Port) (priority : Bool) : s.claimFor p priority ≠ .selected := by
  unfold State.claimFor
  split <;> split <;> exact Progress.noConfusion

@[simp] theorem State.claimFor_select (s : State) (p : Port) (priority : Bool) :
    (s.select p).claimFor p priority = s.claimFor p priority := by
  have slot : (s.select p).ports.priority = s.ports.priority := State.setPort_ports_priority ..
  simp [State.claimFor, slot]

/-- A frame whose write has claimed a place in the request queue joins it. -/
theorem State.storeFrame_queuePlace (s : State) (p : Port) (x : PortState) (f : Frame) (room : x.requests.length < 4) :
    (s.setPort p x).storeFrame p f .queuePlace = s.setPort p { x with requests := x.requests ++ [f] } := by
  simp [State.storeFrame, Config.queueDepth, room]

theorem State.storeFrame_spendFree (s : State) (n : Nat) (p : Port) (f : Frame) (claim : Progress) :
    (s.spendFree n).storeFrame p f claim = (s.storeFrame p f claim).spendFree n := by
  cases claim with
  | queuePlace =>
    simp only [State.storeFrame, State.port_spendFree, State.setPort_spendFree]
    split <;> rfl
  | _ => rfl

/-- The end of a write that has made its claim: the bytes received are its frame, those returned meanwhile are free. -/
theorem State.endWrite_claimed {s : State} {p : Port} {claim : Progress} (made : (s.port p).progress = some claim)
    (h : claim ≠ .selected) (f : Frame) :
    s.endWrite p f =
      ((s.setPort p { s.port p with
          progress := none, returned := (s.port p).returned ++ s.freeBytes f.length }).storeFrame p f claim).spendFree
        f.length := by
  rw [← State.storeFrame_spendFree, State.endWrite, made]
  cases claim with
  | selected => exact absurd rfl h
  | _ => rfl

theorem State.startWrite_select (s : State) (p : Port) (priority : Bool) :
    (s.select p).startWrite p priority =
      s.setPort p { s.port p with progress := some (s.claimFor p priority), returned := [s.statusByte p] } := by
  simp [State.startWrite]

/-- A write transaction with nothing between its parts. -/
theorem State.wholeWrite_eq {s : State} {p : Port} (idle : (s.port p).progress = none) (priority : Bool) (f : Frame) :
    ((s.select p).startWrite p priority).endWrite p f =
      ((s.setPort p { s.port p with returned := s.statusByte p :: s.freeBytes f.length }).storeFrame p f
        (s.claimFor p priority)).spendFree f.length := by
  rw [State.startWrite_select,
    State.endWrite_claimed (congrArg PortState.progress (s.port_setPort_same p _)) (s.claimFor_ne_selected p priority)]
  simp [idle]

/-- A write that fills no priority slot adds its frame to the request queue, unless it holds 4. -/
theorem State.wholeWrite_queue {s : State} {p : Port} (idle : (s.port p).progress = none) {priority : Bool}
    (h : ¬(priority = true ∧ p = .management)) (f : Frame) :
    ((s.select p).startWrite p priority).endWrite p f =
      (s.setPort p
        { s.port p with
          requests := if (s.port p).requests.length < 4 then (s.port p).requests ++ [f] else (s.port p).requests
          returned := s.statusByte p :: s.freeBytes f.length }).spendFree f.length := by
  rw [State.wholeWrite_eq idle, s.claimFor_queue h]
  split
  · rename_i room
    exact congrArg (·.spendFree f.length)
      (State.storeFrame_queuePlace s p ⟨_, _, _, s.statusByte p :: s.freeBytes f.length⟩ f room)
  · rfl

end Sys2Proof.Machine
end

section
/-! ## The transactions of R182, and what RESET_N held low makes of them (R182, R184, R192) -/

namespace Sys2Proof.Proofs
open Sys2Proof.Machine

theorem writeJoinsQueue : WriteJoinsQueue := by
  intro s p f c running idle row
  refine ⟨s.freeBytes f.length, s.length_freeBytes _, ?_⟩
  have joins : ∀ priority, ¬(priority = true ∧ p = .management) →
      s.write p priority (.whole f) = _ := fun priority h =>
    (State.transaction_running running idle ..).trans (State.wholeWrite_queue idle h f)
  obtain rfl | ⟨rfl, tenant⟩ := row
  · exact congrArg Host.Outcome.next (joins false (by simp))
  · exact congrArg Host.Outcome.next (joins true (by simp [tenant]))

theorem priorityWriteFillsSlot : PriorityWriteFillsSlot := by
  intro s f running idle
  have whole := State.wholeWrite_eq (p := .management) idle true f
  rw [s.claimFor_priority] at whole
  refine ⟨_, congrArg Host.Outcome.next ((State.transaction_running (p := .management) running idle ..).trans whole), ?_⟩
  cases slot : s.ports.priority with
  | none => exact ⟨rfl, rfl, rfl, rfl, rfl, rfl, rfl, rfl, rfl, rfl, rfl, rfl, rfl⟩
  | some frame => exact ⟨slot, rfl, rfl, rfl, rfl, rfl, rfl, rfl, rfl, rfl, rfl, rfl, rfl⟩

theorem writeInThreeParts : WriteInThreeParts := by
  intro s p f running idle
  have started : s.transaction p 0 (s.select p) = s.select p := State.transaction_running running idle ..
  have claimed : ∀ priority, (s.select p).write p priority .command = (s.select p).startWrite p priority :=
    fun priority => State.afterSelect_running ((s.select_resetHeld p).trans running)
      (congrArg PortState.progress (s.port_select p)) ..
  have ended : ∀ priority,
      ((s.select p).startWrite p priority).release p f = s.write p priority (.whole f) := fun priority => by
    rw [State.release_running (by simp [State.startWrite, running])]
    exact (State.transaction_running running idle ..).symm
  refine ⟨⟨_, _, congrArg Host.Outcome.next started, congrArg Host.Outcome.next (claimed false),
    congrArg Host.Outcome.next (ended false)⟩, ⟨_, _, congrArg Host.Outcome.next started,
    congrArg Host.Outcome.next (claimed true), congrArg Host.Outcome.next (ended true)⟩⟩

theorem writePartsAct : WritePartsAct := by
  intro s p running
  refine ⟨fun c idle begins => ?_, fun selected => ?_, fun f c ends => ?_⟩
  · exact (exec_begins s begins).trans (congrArg Host.Outcome.next (State.transaction_running running idle ..))
  · have claims : ∀ priority,
        s.write p priority .command = s.setPort p { s.port p with progress := some (s.claimFor p priority) } :=
      fun priority => State.afterSelect_running running selected ..
    refine ⟨?_, fun tenant => ?_, fun management => ?_⟩
    · rw [← s.claimFor_queue (p := p) (priority := false) (by simp)]
      exact congrArg Host.Outcome.next (claims false)
    · rw [← s.claimFor_queue (p := p) (priority := true) (by simp [tenant])]
      exact congrArg Host.Outcome.next (claims true)
    · subst management
      rw [← s.claimFor_priority]
      exact congrArg Host.Outcome.next (claims true)
  · rw [exec_finish s ends, State.release_running running]
    refine ⟨s.freeBytes f.length, s.length_freeBytes _, fun place room => ?_, fun slot => ?_, fun nothing => ?_⟩
    · rw [State.endWrite_claimed place Progress.noConfusion, State.storeFrame_queuePlace]
      exact room
    · rw [State.endWrite_claimed slot Progress.noConfusion, State.storeFrame]
    · rw [State.endWrite_claimed nothing Progress.noConfusion, State.storeFrame]

theorem releaseEndsTransaction : ReleaseEndsTransaction := by
  refine fun s p running => ⟨fun c releases => ?_, fun selected f => ?_⟩
  · rw [exec_releases s releases]
    refine ⟨fun idle => ?_, fun selected => ?_, rfl⟩
    · rw [State.release_idle idle]
    · rw [State.release_selected running selected]
  · rw [← State.release_selected running selected f]
    exact ⟨exec_finish s (.inl rfl), exec_finish s (.inr rfl)⟩

/-- Settles O5: a whole write is its parts with nothing between, and each part is said by one equation: the start, the
claim, the end of a write that has made its claim, and the release of select before that. -/
theorem writeTransactions : Obligations.WriteTransactions :=
  ⟨writeJoinsQueue, priorityWriteFillsSlot, writeInThreeParts, writePartsAct, releaseEndsTransaction⟩

/-- Settles O6, by whether a response waits when the command byte arrives. -/
theorem readResponseShiftsOldestOut : Obligations.ReadResponseShiftsOldestOut := by
  intro s p n running
  have whole : (s.port p).progress = none →
      exec (.readResponse p (.whole n)) s = .next ((s.select p).readOldest p n) := fun idle =>
    congrArg Host.Outcome.next (State.read_whole running idle (State.readOldest p) n)
  have rest : (s.port p).progress = some .selected →
      exec (.readResponse p (.rest n)) s = .next (s.readOldest p n) := fun selected =>
    congrArg Host.Outcome.next (State.read_rest running selected (State.readOldest p) n)
  refine ⟨fun f others waiting => ⟨s.freeBytes (n - f.length), s.length_freeBytes _, fun idle => ?_, fun selected => ?_⟩,
    fun empty => ⟨fun idle => ?_, fun selected => ?_⟩, fun idle => ?_⟩
  · rw [whole idle, State.readOldest_cons (f := f) (rest := others) (by simp [waiting])]
    simp [idle]
  · rw [rest selected, State.readOldest_cons waiting]
  · rw [whole idle, State.readOldest_nil (by simp [empty]), State.returns_select idle]
  · rw [rest selected, State.readOldest_nil empty, State.returns]
  · obtain ⟨start, parts⟩ := State.read_parts running idle (State.readOldest p) n
    exact ⟨_, congrArg Host.Outcome.next start, congrArg Host.Outcome.next parts⟩

theorem coldResetAndRelease : ColdResetAndRelease := by
  refine ⟨fun s => ⟨_, rfl, rfl, fun p => ?_, rfl, rfl⟩, fun s held => congrArg Host.Outcome.next (if_pos held)⟩
  cases p <;> rfl

theorem heldResetReturnsZeros : HeldResetReturnsZeros := by
  intro s p held idle zeros more
  have whole : ∀ n run, s.transaction p n run = zeros n := State.transaction_held held idle
  have rest : ∀ n run, s.afterSelect p n run = more n := State.afterSelect_held held
  have command : ∀ run, s.afterSelect p 0 run = s := fun run => (rest 0 run).trans (s.silentBytes_zero p)
  have finish : ∀ f : Frame, s.release p f = more f.length := State.release_held held
  refine ⟨fun n => congrArg Host.Outcome.next (whole n _), fun n => congrArg Host.Outcome.next (whole n _),
    fun c n other => (exec_otherCommandByte s other _).trans (congrArg Host.Outcome.next (whole n _)),
    fun f => congrArg Host.Outcome.next (whole f.length _), fun f => congrArg Host.Outcome.next (whole f.length _),
    fun c begins => (exec_begins s begins).trans (congrArg Host.Outcome.next (whole 0 _)), fun n c goesOn => ?_,
    fun c releases => (exec_releases s releases).trans (congrArg Host.Outcome.next (State.release_idle idle)),
    congrArg Host.Outcome.next (command _), congrArg Host.Outcome.next (command _),
    fun f => congrArg Host.Outcome.next (finish f), fun f => congrArg Host.Outcome.next (finish f)⟩
  obtain ⟨run, eq⟩ := exec_goesOn s goesOn
  exact eq.trans (congrArg Host.Outcome.next (rest n run))

/-- Settles O4: RESET_N held low lets no frame be taken, and every part of a transaction comes to zeros. -/
theorem coldResetHoldsAndReleases : Obligations.ColdResetHoldsAndReleases :=
  ⟨coldResetAndRelease, heldResetReturnsZeros⟩

end Sys2Proof.Proofs
end

section
/-! ## The link status byte, the IRQ lines and the command bytes (R182, R187) -/

namespace Sys2Proof.Machine

/-! ### Bytes of flags -/

/-- Five flags in the low bits of a byte. -/
theorem getLsbD_byte_flags (a b c d e : Bool) :
    let w := byte (a.toNat + 2 * b.toNat + 4 * c.toNat + 8 * d.toNat + 16 * e.toNat)
    w.getLsbD 0 = a ∧ w.getLsbD 1 = b ∧ w.getLsbD 2 = c ∧ w.getLsbD 3 = d ∧ w.getLsbD 4 = e ∧
      ∀ k, 5 ≤ k → w.getLsbD k = false := by
  have low : ∀ a b c d e : Bool, let w := byte (a.toNat + 2 * b.toNat + 4 * c.toNat + 8 * d.toNat + 16 * e.toNat)
      w.getLsbD 0 = a ∧ w.getLsbD 1 = b ∧ w.getLsbD 2 = c ∧ w.getLsbD 3 = d ∧ w.getLsbD 4 = e ∧ w.toNat < 2 ^ 5 := by
    decide
  obtain ⟨h0, h1, h2, h3, h4, small⟩ := low a b c d e
  exact ⟨h0, h1, h2, h3, h4, fun k hk =>
    Nat.testBit_lt_two_pow (small.trans_le (Nat.pow_le_pow_right (by decide) hk))⟩

/-! ### The IRQ lines -/

/-- Each of the thirteen bits is that of a flag (R186). -/
theorem Event.bit_surjective {k : Nat} (h : k < 13) : ∃ e : Event, e.bit = k := by
  have all : List.range 13 = ([.ready, .planApplied, .planRejected, .slotRetired, .carrierLost, .pilotClamp, .fragUrgent,
    .repackEnd, .sweepDone, .watchHit, .sweepOverrun, .measureMissed, .leaseExpired] : List Event).map Event.bit := rfl
  have listed := List.mem_range.2 h
  rw [all] at listed
  obtain ⟨e, -, bit⟩ := List.mem_map.1 listed
  exact ⟨e, bit⟩

theorem ne_zero_iff_event (w : BitVec 13) : w ≠ 0 ↔ ∃ e : Event, w.getLsbD e.bit = true := by
  constructor
  · intro nonzero
    by_contra clear
    refine nonzero (BitVec.eq_of_getLsbD_eq fun k hk => ?_)
    obtain ⟨e, rfl⟩ := Event.bit_surjective hk
    rw [BitVec.ofNat_eq_ofNat, BitVec.getLsbD_zero, ← Bool.not_eq_true]
    exact fun set => clear ⟨e, set⟩
  · rintro ⟨e, set⟩ rfl
    rw [BitVec.ofNat_eq_ofNat, BitVec.getLsbD_zero] at set
    cases set

/-- A flag counts for the management line when it is set and not masked. -/
theorem getLsbD_unmasked (summary mask : BitVec 13) (e : Event) :
    (summary &&& ~~~mask).getLsbD e.bit = true ↔ summary.getLsbD e.bit = true ∧ mask.getLsbD e.bit = false := by
  have inside : e.bit < 13 := by cases e <;> decide
  simp [inside]

theorem State.managementIrq_iff (s : State) :
    s.managementIrq = true ↔
      s.ports.management.responses ≠ [] ∨ ∃ e : Event, s.flagged e = true ∧ s.ports.mask.getLsbD e.bit = false := by
  rw [State.managementIrq, Bool.or_eq_true, Bool.not_eq_true', List.isEmpty_eq_false_iff, bne_iff_ne, ne_zero_iff_event]
  simp only [getLsbD_unmasked]
  rfl

theorem State.newsPending_iff (s : State) :
    s.newsPending = true ↔
      ∃ i g, s.grant? i = some g ∧ g.news = true ∧ s.tenantEnabled (s.entry i).tenant.val = true := by
  rw [State.newsPending, List.any_eq_true]
  refine exists_congr fun i => ?_
  cases s.grant? i with
  | none => simp
  | some g => simp [mem_entryNumbers]

theorem State.tenantIrq_iff (s : State) :
    s.tenantIrq = true ↔
      s.ports.tenant.responses ≠ [] ∨
        ∃ i g, s.grant? i = some g ∧ g.news = true ∧ s.tenantEnabled (s.entry i).tenant.val = true := by
  rw [State.tenantIrq, Bool.or_eq_true, Bool.not_eq_true', List.isEmpty_eq_false_iff, s.newsPending_iff]

/-! ### The command bytes -/

theorem spiCommand_of_other {c : Byte} (h : otherCommand c = true) : spiCommand c = .other := beq_iff_eq.1 h

theorem Instr.ofTransaction_of_other {c : Byte} (h : otherCommand c = true) (p : Port) (later : List Byte) :
    Instr.ofTransaction p c later = .otherCommandByte p c (.whole later.length) := by
  rw [Instr.ofTransaction, spiCommand_of_other h]

theorem Instr.ofCommandByte_of_other {c : Byte} (h : otherCommand c = true) (p : Port) (n : Nat) :
    Instr.ofCommandByte p c n = .otherCommandByte p c (.rest n) := by
  rw [Instr.ofCommandByte, spiCommand_of_other h]

end Sys2Proof.Machine

namespace Sys2Proof.Proofs
open Sys2Proof.Machine

theorem readStatusReturns : ReadStatusReturns := by
  intro s p n running idle
  have status : ∀ n, exec (.readStatus p (.whole n)) s = .next ((s.select p).readCounts p n) := fun n =>
    congrArg Host.Outcome.next (State.read_whole running idle (State.readCounts p) n)
  refine ⟨?_, ⟨s.freeBytes n, s.length_freeBytes n, ?_⟩, fun c other => ?_⟩
  · rw [status, State.readCounts_zero, State.returns_select idle]
  · rw [status, State.readCounts_succ, State.returns_select idle, State.countByte_select, State.freeBytes_select]
    rfl
  · rw [exec_otherCommandByte s other, State.read_whole running idle, State.returns_select idle]

theorem readStatusInParts : ReadStatusInParts := by
  refine fun s p n running => ⟨fun selected => ⟨⟨s.freeBytes n, s.length_freeBytes n, ?_⟩, fun c other => ?_⟩,
    fun idle => ⟨?_, fun c other => ?_⟩⟩
  · have rest : exec (.readStatus p (.rest (n + 1))) s = .next (s.readCounts p (n + 1)) :=
      congrArg Host.Outcome.next (State.read_rest running selected (State.readCounts p) (n + 1))
    rw [rest, State.readCounts_succ]
    rfl
  · rw [exec_otherCommandByte s other, State.read_rest running selected]
    rfl
  · obtain ⟨start, parts⟩ := State.read_parts running idle (State.readCounts p) n
    exact ⟨_, congrArg Host.Outcome.next start, congrArg Host.Outcome.next parts⟩
  · obtain ⟨start, parts⟩ := State.read_parts running idle (fun n t => t.returns p (List.replicate n 0)) n
    refine ⟨_, (exec_otherCommandByte s other _).trans (congrArg Host.Outcome.next start), ?_⟩
    rw [exec_otherCommandByte _ other, exec_otherCommandByte _ other, parts]

theorem statusByteBits : StatusByteBits := by
  intro s p
  obtain ⟨ready, full, waiting, busy, irq, rest⟩ := getLsbD_byte_flags (!s.pool.startUp)
    (decide ((s.port p).requests.length = 4)) (!(s.port p).responses.isEmpty) (s.priorityBusy p) (s.irq p)
  refine ⟨ready, full, waiting, busy.trans ?_, irq, rest⟩
  cases p <;> rfl

theorem irqLines : IrqLines := fun s => ⟨s.managementIrq_iff, s.tenantIrq_iff⟩

theorem commandBytes : CommandBytes := fun p later n =>
  ⟨rfl, rfl, rfl, rfl, rfl, rfl, rfl, rfl, fun c => ⟨otherCommand_iff c, fun other =>
    ⟨Instr.ofTransaction_of_other other p later, Instr.ofCommandByte_of_other other p n⟩⟩⟩

/-- Settles O7: the two transactions by what their command byte does on the port, the status byte bit by bit, each line
by what asserts it. -/
theorem statusTransactions : Obligations.StatusTransactions :=
  ⟨readStatusReturns, statusByteBits, irqLines, readStatusInParts, commandBytes⟩

end Sys2Proof.Proofs
end

section
/-! ## Which frame the request unit takes next, and the frames that carry out no request (R183 to R185) -/

namespace Sys2Proof.Machine

/-! ### The source of the next frame (R185) -/

section Source

variable {s : State}

theorem State.responseRoom_iff (p : Port) : s.responseRoom p = true ↔ (s.port p).responses.length < 4 :=
  decide_eq_true_iff

theorem State.eligible_iff (p : Port) : s.eligible p = true ↔ Eligible s p := by
  simp [State.eligible, Eligible, State.responseRoom_iff]

theorem State.eligible_eq_false (p : Port) : s.eligible p = false ↔ ¬Eligible s p := by
  rw [← State.eligible_iff, Bool.not_eq_true]

/-- A frame is taken from a port whose response queue has a free place only. -/
theorem State.room_of_nextSource {src : Source} (h : s.nextSource = some src) :
    (s.port src.port).responses.length < 4 := by
  have eligible : ∀ {p}, s.eligible p = true → (s.port p).responses.length < 4 := fun h =>
    ((State.eligible_iff _).1 h).2
  unfold State.nextSource at h
  split at h
  · cases h
  · split at h
    · rename_i slot
      cases h
      exact (State.responseRoom_iff .management).1 (Bool.and_eq_true_iff.1 slot).2
    · split at h
      case h_1 management tenant =>
        cases h
        cases hp : s.ports.pointer with
        | management => exact eligible management
        | tenant => exact eligible tenant
      case h_2 management _ =>
        cases h
        exact eligible management
      case h_3 _ tenant =>
        cases h
        exact eligible tenant
      case h_4 => cases h

/-- The next frame is the oldest of the next source. -/
theorem State.nextFrame_eq_some {src : Source} {f : Frame} :
    s.nextFrame = some (src, f) ↔ s.nextSource = some src ∧ s.oldestFrame src = some f := by
  unfold State.nextFrame
  cases s.nextSource with
  | none => simp
  | some x =>
    simp only [Option.map_eq_some_iff, Prod.mk.injEq, Option.some.injEq]
    constructor
    · rintro ⟨_, oldest, rfl, rfl⟩
      exact ⟨rfl, oldest⟩
    · rintro ⟨rfl, oldest⟩
      exact ⟨f, oldest, rfl, rfl⟩

variable (running : s.ports.resetHeld = false)
include running

theorem State.nextSource_priority {f : Frame} (slot : s.ports.priority = some f)
    (room : s.ports.management.responses.length < 4) : s.nextSource = some .priority := by
  have free : s.responseRoom .management = true := (State.responseRoom_iff .management).2 room
  simp [State.nextSource, running, slot, free]

/-- Without a frame in the priority slot, or without a place for its response, the ports' queues decide. -/
theorem State.nextSource_queues (h : s.ports.priority = none ∨ 4 ≤ s.ports.management.responses.length) :
    s.nextSource =
      match s.eligible .management, s.eligible .tenant with
      | true, true => some (.queue s.ports.pointer)
      | true, false => some (.queue .management)
      | false, true => some (.queue .tenant)
      | false, false => none := by
  have noSlot : (s.ports.priority.isSome && s.responseRoom .management) = false := by
    rcases h with empty | full
    · simp [empty]
    · exact Bool.and_eq_false_iff.2 (.inr (decide_eq_false (Nat.not_lt.2 full)))
  rw [State.nextSource, running, noSlot]
  rfl

variable (h : s.ports.priority = none ∨ 4 ≤ s.ports.management.responses.length)
include h

theorem State.nextSource_both (management : Eligible s .management) (tenant : Eligible s .tenant) :
    s.nextSource = some (.queue s.ports.pointer) := by
  rw [State.nextSource_queues running h, (State.eligible_iff _).2 management, (State.eligible_iff _).2 tenant]

theorem State.nextSource_one {p : Port} (own : Eligible s p) (other : ¬Eligible s (otherPort p)) :
    s.nextSource = some (.queue p) := by
  have yes := (State.eligible_iff p).2 own
  have no := (State.eligible_eq_false _).2 other
  rw [State.nextSource_queues running h]
  cases p with
  | management => rw [yes, show s.eligible .tenant = false from no]
  | tenant => rw [yes, show s.eligible .management = false from no]

theorem State.nextSource_neither (management : ¬Eligible s .management) (tenant : ¬Eligible s .tenant) :
    s.nextSource = none := by
  rw [State.nextSource_queues running h, (State.eligible_eq_false _).2 management, (State.eligible_eq_false _).2 tenant]

end Source

/-- A row that refuses every frame answers with its code, and nothing changes but what the taking itself does. -/
theorem does_of_refusal {s : State} {src : Source} {f : Frame} {row : Instr} {code : ResultCode}
    (next : s.nextFrame = some (src, f)) (taken : s.rowOf src f = row)
    (runs : RunsHandler row fun _ u => refuse u code) : Does row s src f (s.taken src) code [] := by
  subst taken
  exact (State.exec_rowOf next runs).trans (congrArg Host.Outcome.next (State.answer_eq rfl))

end Sys2Proof.Machine

namespace Sys2Proof.Proofs
open Sys2Proof.Machine

theorem takenFrameLeavesItsPlace (s : State) : TakenFrameLeavesItsPlace s := by
  refine ⟨fun p => ?_, rfl, rfl, fun p => ?_⟩
  · cases p <;> exact ⟨rfl, rfl, rfl, rfl⟩
  · cases p <;> rfl

/-- Settles O8, by the source that is next: the priority slot, or the queues by their eligibility and the pointer. -/
theorem requestUnitChoosesFrame : Obligations.RequestUnitChoosesFrame := by
  refine fun s => ⟨takenFrameLeavesItsPlace s, fun running => ⟨fun f slot room => ?_, fun h =>
    ⟨fun f management tenant oldest => ?_, fun p f own other oldest => ?_, fun management tenant => ?_⟩⟩⟩
  · exact State.nextFrame_eq_some.2 ⟨State.nextSource_priority running slot room, slot⟩
  · exact State.nextFrame_eq_some.2 ⟨State.nextSource_both running h management tenant, oldest⟩
  · exact State.nextFrame_eq_some.2 ⟨State.nextSource_one running h own other, oldest⟩
  · rw [State.nextFrame, State.nextSource_neither running h management tenant]

/-- Settles O10: such a frame is a row of its own, whose handler refuses it and changes nothing. -/
theorem badFramesAndStartUpFramesAnswered : Obligations.BadFramesAndStartUpFramesAnswered := by
  intro s src f next
  refine ⟨fun ready bad => does_of_refusal next ?_ fun _ => rfl, fun startUp => does_of_refusal next ?_ fun _ => rfl⟩
  · rw [State.rowOf, ready, bad]
    rfl
  · rw [State.rowOf, if_pos startUp]

end Sys2Proof.Proofs
end

section
/-! ## Every step keeps the bound of every queue (R184) -/

namespace Sys2Proof.Machine

/-- No queue of a port is longer than it was. -/
def NoLonger (s t : State) : Prop :=
  ∀ p, (t.port p).requests.length ≤ (s.port p).requests.length ∧
    (t.port p).responses.length ≤ (s.port p).responses.length

theorem FramesKept.noLonger {s t : State} (h : FramesKept s t) : NoLonger s t := fun p => by
  rw [h.port p]
  exact ⟨le_rfl, le_rfl⟩

theorem Port.eq_or_other (p q : Port) : p = q ∨ p = otherPort q := by
  cases p <;> cases q <;> decide

/-- A frame that leaves its place makes no queue longer. -/
theorem NoLonger.removeFrame (s : State) (src : Source) : NoLonger s (s.removeFrame src) := fun p => by
  obtain ⟨queue, -, -, slot⟩ := Proofs.takenFrameLeavesItsPlace s
  cases src with
  | priority =>
    rw [slot p]
    exact ⟨le_rfl, le_rfl⟩
  | queue q =>
    obtain ⟨requests, others, responses, -⟩ := queue q
    obtain rfl | rfl := Port.eq_or_other p q
    · rw [requests, responses, List.length_tail]
      exact ⟨Nat.sub_le .., le_rfl⟩
    · rw [others]
      exact ⟨le_rfl, le_rfl⟩

/-- Nor does what the taking of a frame does beside. -/
theorem NoLonger.taken (s : State) (src : Source) : NoLonger s (s.taken src) := fun p => by
  rw [(FramesKept.taken s src).port p]
  exact NoLonger.removeFrame s src p

/-- A restart empties every queue. -/
theorem NoLonger.restart (r : Req) (s : State) : NoLonger s (Machine.restart r s).1 := by
  refine managementRequest_keeps (P := NoLonger s) (fun _ => ⟨le_rfl, le_rfl⟩) fun p => ?_
  have kept : FramesKept s.restarted s.restarted.sweepIfContinuous := ⟨by simp, by simp⟩
  rw [answerDone, State.warmRestart_eq, kept.port, s.restarted_port]
  exact ⟨Nat.zero_le _, Nat.zero_le _⟩

namespace State.QueuesBounded

variable {s t : State} (law : s.QueuesBounded)
include law

theorem noLonger (h : NoLonger s t) : t.QueuesBounded := fun p =>
  ⟨(h p).1.trans (law p).1, (h p).2.trans (law p).2⟩

theorem kept (h : FramesKept s t) : t.QueuesBounded := law.noLonger h.noLonger

theorem setPort (p : Port) {x : PortState} (h : x.requests.length ≤ 4 ∧ x.responses.length ≤ 4) :
    (s.setPort p x).QueuesBounded := fun q => by
  by_cases same : q = p
  · subst same
    rwa [State.port_setPort_same]
  · rw [State.port_setPort_other s same]
    exact law q

/-! ### Transactions (R182) -/

theorem spendFree (n : Nat) : (s.spendFree n).QueuesBounded := law.kept ⟨rfl, rfl⟩

theorem returns (p : Port) (later : List Byte) : (s.returns p later).QueuesBounded := law.setPort p (law p)

theorem select (p : Port) : (s.select p).QueuesBounded := law.setPort p (law p)

theorem startWrite (p : Port) (priority : Bool) : (s.startWrite p priority).QueuesBounded := law.setPort p (law p)

/-- A frame joins a request queue that has a free place only. -/
theorem storeFrame (p : Port) (f : Frame) (claim : Progress) : (s.storeFrame p f claim).QueuesBounded := by
  cases claim with
  | selected => exact law
  | nothing => exact law
  | prioritySlot => exact law.kept ⟨rfl, rfl⟩
  | queuePlace =>
    unfold State.storeFrame
    dsimp only
    split
    · rename_i room
      refine law.setPort p ⟨?_, (law p).2⟩
      rw [List.length_append, List.length_singleton]
      exact room
    · exact law

theorem endWrite (p : Port) (f : Frame) : (s.endWrite p f).QueuesBounded := by
  unfold State.endWrite
  split
  · exact law
  · exact law.returns p []
  · refine ((law.setPort p ?_).spendFree _).storeFrame p f _
    exact law p

theorem release (p : Port) (f : Frame) : (s.release p f).QueuesBounded := by
  unfold State.release
  split
  · exact law.setPort p (law p)
  · exact law.endWrite p f

theorem transaction {p : Port} {n : Nat} {run : State} (h : run.QueuesBounded) :
    (s.transaction p n run).QueuesBounded := by
  unfold State.transaction
  split
  · exact law
  · split
    · exact law.setPort p (law p)
    · exact h

theorem afterSelect {p : Port} {n : Nat} {run : State} (h : run.QueuesBounded) :
    (s.afterSelect p n run).QueuesBounded := by
  unfold State.afterSelect
  split
  · exact law.setPort p (law p)
  · split
    · exact h
    · exact law

theorem write (p : Port) (priority : Bool) (part : WritePart) : (s.write p priority part).QueuesBounded := by
  cases part with
  | whole f => exact law.transaction (((law.select p).startWrite p priority).endWrite p f)
  | select => exact law.transaction (law.select p)
  | command => exact law.afterSelect (law.startWrite p priority)
  | finish f => exact law.release p f

theorem read {p : Port} {run : Nat → State → State} (h : ∀ n u, u.QueuesBounded → (run n u).QueuesBounded)
    (part : ReadPart) : (s.read p run part).QueuesBounded := by
  cases part with
  | whole n => exact law.transaction (h n _ (law.select p))
  | select => exact law.transaction (law.select p)
  | rest n => exact law.afterSelect (h n s law)
  | release => exact law.release p []

theorem readOldest (p : Port) (n : Nat) : (s.readOldest p n).QueuesBounded := by
  cases waiting : (s.port p).responses with
  | nil =>
    rw [State.readOldest_nil waiting]
    exact law.returns p _
  | cons f rest =>
    rw [State.readOldest_cons waiting]
    have bound := (law p).2
    rw [waiting, List.length_cons] at bound
    refine (law.setPort p ?_).spendFree _
    exact ⟨(law p).1, Nat.le_of_succ_le bound⟩

theorem readCounts (p : Port) (n : Nat) : (s.readCounts p n).QueuesBounded := (law.returns p _).spendFree _

/-! ### Frames taken and answered (R185) -/

/-- A response finds a free place, since its frame was taken only then; its handler adds nothing to the queues. -/
theorem serve {row : Instr} {handler : Handler} (h : ∀ r u, NoLonger u (handler r u).1) :
    (s.serve row handler).QueuesBounded := by
  rcases s.serve_cases row handler with eq | ⟨src, f, next, -, eq⟩
  · rwa [eq]
  · have room := State.room_of_nextSource (State.nextFrame_eq_some.1 next).1
    have taken := NoLonger.taken s src
    have handled := h (requestOf src.port f) (s.taken src)
    rw [eq, State.answer, State.place]
    refine ((law.noLonger taken).noLonger handled).setPort src.port
      ⟨(((law.noLonger taken).noLonger handled) src.port).1, ?_⟩
    rw [List.length_append, List.length_singleton]
    exact ((handled src.port).2.trans (taken src.port).2).trans_lt room

/-- Every row of the request index keeps the bound. -/
theorem request {row : Instr} (indexed : row ∈ requestTable.map fun e => e.2.1) :
    ∃ u, exec row s = .next u ∧ u.QueuesBounded := by
  obtain ⟨e, listed, rfl⟩ := List.mem_map.1 indexed
  rcases FramesKept.requestTable_handled e listed with restart | ⟨handler, runs, kept⟩
  · rw [restart]
    exact ⟨_, rfl, law.serve NoLonger.restart⟩
  · exact ⟨_, runs s, law.serve fun r u => (kept r u).noLonger⟩

/-! ### Expiries and the passing of time -/

theorem onGrant (i : Fin 64) {run : Grant → State} (h : ∀ g, FramesKept s (run g)) :
    (s.onGrant i run).QueuesBounded :=
  State.onGrant_keeps law fun g _ => law.kept (h g)

theorem onSlot (b : Band) (n : Nat) {run : SlotId → State} (h : ∀ j, FramesKept s (run j)) :
    (s.onSlot b n run).QueuesBounded :=
  State.onSlot_keeps law fun j => law.kept (h j)

theorem whileRunning {run : State} (h : FramesKept s run) : (s.whileRunning run).QueuesBounded :=
  State.whileRunning_keeps law (law.kept h)

theorem idle : s.idle.QueuesBounded := by
  unfold State.idle
  split
  · exact law.kept ⟨rfl, rfl⟩
  · split
    · exact law
    · exact law.kept ⟨rfl, rfl⟩

end State.QueuesBounded

theorem FramesKept.ite {s u v : State} {c : Prop} [Decidable c] (h : FramesKept s u) (k : FramesKept s v) :
    FramesKept s (if c then u else v) := by
  split
  · exact h
  · exact k

/-- Every command keeps the bound: a request row adds one response where there is room, a write one frame where there is
room, the release of RESET_N leaves empty queues, and no other event touches a queue but to shorten it. -/
theorem exec_queuesBounded (c : Instr) {s : State} (law : s.QueuesBounded) :
    ∃ t, exec c s = .next t ∧ t.QueuesBounded := by
  cases c with
  | writeRequest p part => exact ⟨_, rfl, law.write p false part⟩
  | writeRequestPriority p part => exact ⟨_, rfl, law.write p true part⟩
  | readResponse p part => exact ⟨_, rfl, law.read (fun n _ h => h.readOldest p n) part⟩
  | readStatus p part => exact ⟨_, rfl, law.read (fun n _ h => h.readCounts p n) part⟩
  | otherCommandByte p command part =>
    refine ⟨_, rfl, ?_⟩
    split
    · exact law.read (fun _ _ h => h.returns p _) part
    · exact law
  | badRequestFrame => exact ⟨_, rfl, law.serve fun _ u => (FramesKept.refl u).noLonger⟩
  | notReadyAnswer => exact ⟨_, rfl, law.serve fun _ u => (FramesKept.refl u).noLonger⟩
  | holdTimerExpiry i => exact ⟨_, rfl, law.onGrant i fun _ => .ite ⟨by simp, by simp⟩ (.refl s)⟩
  | leaseExpiry i => exact ⟨_, rfl, law.onGrant i fun _ => .ite ⟨by simp, by simp⟩ (.refl s)⟩
  | drainTimerExpiry i => exact ⟨_, rfl, law.onGrant i fun _ => .ite ⟨by simp, by simp⟩ (.refl s)⟩
  | quietTimerExpiry i => exact ⟨_, rfl, law.onGrant i fun _ => .ite ⟨by simp, by simp⟩ (.refl s)⟩
  | lockTimeout b n => exact ⟨_, rfl, law.onSlot b n fun _ => ⟨by simp, by simp⟩⟩
  | settleTimerExpiry k => exact ⟨_, rfl, law.whileRunning (.ite ⟨rfl, rfl⟩ (.refl s))⟩
  | periodTimerExpiry => exact ⟨_, rfl, law.whileRunning ⟨by simp, by simp⟩⟩
  | senseTimeout => exact ⟨_, rfl, law.whileRunning ⟨by simp, by simp⟩⟩
  | pilotReading p => exact ⟨_, rfl, law.whileRunning ⟨by simp, by simp⟩⟩
  | locked b n => exact ⟨_, rfl, law.onSlot b n fun _ => ⟨by simp, by simp⟩⟩
  | failed b n => exact ⟨_, rfl, law.onSlot b n fun _ => ⟨by simp, by simp⟩⟩
  | lost b n => exact ⟨_, rfl, law.onSlot b n fun _ => ⟨by simp, by simp⟩⟩
  | reading tag value => exact ⟨_, rfl, law.whileRunning ⟨by simp, by simp⟩⟩
  | automaticMove => exact ⟨_, rfl, law.kept (.ite (.refl s) ⟨by simp, by simp⟩)⟩
  | coldReset => exact ⟨_, rfl, law.noLonger fun p => by cases p <;> exact ⟨le_rfl, le_rfl⟩⟩
  | resetNRelease =>
    refine ⟨_, rfl, ?_⟩
    split
    · exact State.queuesBounded_reset.kept ⟨rfl, rfl⟩
    · exact law
  | _ => exact law.request (by decide)

end Sys2Proof.Machine

namespace Sys2Proof.Proofs
open Sys2Proof.Machine

/-- Settles O13: the request unit takes a frame only when its response has a place, and a write stores its frame only
in a free one. -/
theorem queuesNeverOverflow : Obligations.QueuesNeverOverflow := by
  intro s t law h
  unfold step at h
  split at h
  · cases h
    exact law.idle
  · rename_i c rest _
    have kept : ({ s with pending := rest } : State).QueuesBounded := law.kept ⟨rfl, rfl⟩
    obtain ⟨u, hu, bounded⟩ := exec_queuesBounded c kept
    obtain rfl := Host.Outcome.next.inj (hu.symm.trans h)
    exact bounded

end Sys2Proof.Proofs
end

section
/-! ## Events and news, and STATUS (R186, R188, R189) -/

namespace Sys2Proof.Machine

/-! ### News flags cleared (R188) -/

theorem withNews_eq (s : State) (tenant : Nat) : WithNews s tenant = s.hasNews tenant := by
  funext i
  unfold WithNews State.hasNews
  cases s.grant? i <;> rfl

/-- The entry with the news flag of its grant, if it holds one, cleared. -/
def Entry.newsCleared (e : Entry) : Entry := { e with grant := e.grant.map fun g => { g with news := false } }

theorem Entry.newsCleared_newsCleared (e : Entry) : e.newsCleared.newsCleared = e.newsCleared := by
  unfold Entry.newsCleared
  cases e.grant <;> rfl

theorem State.modGrant_none {s : State} {i : Fin 64} (h : s.grant? i = none) (f : Grant → Grant) :
    s.modGrant i f = s := by
  simp [State.modGrant, h]

theorem State.entry_modGrant_news (s : State) (i : Fin 64) :
    (s.modGrant i fun g => { g with news := false }).entry i = (s.entry i).newsCleared := by
  cases h : s.grant? i with
  | none =>
    have free : (s.entry i).grant = none := h
    rw [State.modGrant_none h, Entry.newsCleared, free, Option.map_none, ← free]
  | some g =>
    have held : (s.entry i).grant = some g := h
    rw [State.modGrant_some s h, State.entry_setEntry_same, Entry.newsCleared, held, Option.map_some]

/-- The entries of the list have their news cleared, the others stay. -/
theorem State.entry_clearNews (l : List (Fin 64)) : ∀ (s : State) (i : Fin 64),
    (s.clearNews l).entry i = if i ∈ l then (s.entry i).newsCleared else s.entry i := by
  induction l with
  | nil => exact fun _ _ => rfl
  | cons k l ih =>
    intro s i
    rw [State.clearNews, ih]
    by_cases own : i = k
    · subst own
      simp [State.entry_modGrant_news, Entry.newsCleared_newsCleared]
    · simp [State.entry_modGrant_ne s own, own]

/-- Nothing but grant records is written. -/
theorem State.modGrant_rest (s : State) (i : Fin 64) (f : Grant → Grant) :
    s.modGrant i f = { s with table := { s.table with entries := (s.modGrant i f).table.entries } } := by
  unfold State.modGrant
  split <;> rfl

theorem State.clearNews_rest (l : List (Fin 64)) : ∀ s : State,
    s.clearNews l = { s with table := { s.table with entries := (s.clearNews l).table.entries } } := by
  induction l with
  | nil => exact fun _ => rfl
  | cons i l ih =>
    intro s
    have first := s.modGrant_rest i fun g => { g with news := false }
    have later := ih (s.modGrant i fun g => { g with news := false })
    rw [State.clearNews, later, first]

/-! ### STATUS (R189) -/

/-- The slots of a band in a state, counted over all slots. -/
theorem State.bandSlots_filter (s : State) (b : Band) (x : SlotState) :
    (bandSlots b).filter (fun j => decide ((s.slot j).state = x)) =
      (List.finRange 48).filter fun j => decide (slotBand j = b ∧ (s.slot j).state = x) := by
  simp [bandSlots, slotIds, List.filter_filter, Bool.and_comm]

theorem State.retiredCount_eq (s : State) (b : Band) :
    s.retiredCount b =
      ((List.finRange 48).filter fun j => decide (slotBand j = b ∧ (s.slot j).state = .retired)).length := by
  rw [State.retiredCount, s.bandSlots_filter]

theorem State.idleCount_eq (s : State) (b : Band) :
    s.idleCount b =
      ((List.finRange 48).filter fun j => decide (slotBand j = b ∧ (s.slot j).state = .idle)).length := by
  rw [← s.bandSlots_filter]
  simp [State.idleCount, State.idleSlots]

/-- The byte of the repack's band, 255 for none (R155). -/
theorem byte_repackBandCode (b : Option Band) : byte (repackBandCode b) = b.elim 255 fun b => byte (bandCode b) := by
  cases b <;> rfl

theorem Half.byte_code (x : Half) : byte x.code = if x = .a then 0 else 1 := by
  cases x <;> rfl

end Sys2Proof.Machine

namespace Sys2Proof.Proofs
open Sys2Proof.Machine

theorem eventsReadAndMasked : EventsReadAndMasked := by
  intro s src f management
  refine ⟨fun taken => ?_, fun taken => ⟨fun inRange => ?_, fun beyond => ?_⟩⟩
  · exact does_of_handler taken rfl (managementRequest_pass management rfl)
  · exact does_of_handler taken rfl (managementRequest_pass management (decide_eq_true inRange))
  · exact does_of_handler taken rfl (if_neg (by simpa using beyond))

theorem readNewsReturnsAndClears : ReadNewsReturnsAndClears := by
  intro s src f taken tenant u r enabled all page
  have more : flagByte (page.length < all.length) = if 8 < all.length then 1 else 0 := by
    simp [flagByte, page]
  have handled : readNews r u = (u.clearNews page, ⟨.done, byte page.length :: flagByte (page.length < all.length)
      :: page.flatMap fun i =>
        [byte i.val, (u.entry i).generation, byte (u.entry i).stateCode, byte (u.entry i).lastOutcome.code]⟩) := by
    simp only [page, all, withNews_eq]
    exact (if_neg (by simp [r, tenant])).trans (enabledTenant_pass (.inr enabled))
  rw [more] at handled
  refine ⟨_, does_of_handler taken rfl handled, fun i listed => ?_, fun i other => ?_, State.clearNews_rest page u⟩
  · rw [State.entry_clearNews, if_pos listed]
    rfl
  · rw [State.entry_clearNews, if_neg other]

theorem eventBits : EventBits := by
  refine ⟨rfl, fun s e e' => ⟨Iff.rfl, ?_, rfl⟩⟩
  have raised : (s.raise e).flagged e' = (s.flagged e' || e.mask.getLsbD e'.bit) := BitVec.getLsbD_or
  rw [raised, Bool.or_eq_true, Event.mask_getLsbD, or_comm]

/-- Settles O14: each handler by what it answers; clearing news writes the grants of the page and nothing else, and a
flag raised is one bit set. -/
theorem eventsAndNewsRead : Obligations.EventsAndNewsRead :=
  ⟨eventsReadAndMasked, readNewsReturnsAndClears, eventBits⟩

/-- Settles O52: each of the 34 bytes is a field of the state or a count over it. -/
theorem statusReportsThePart : Obligations.StatusReportsThePart := by
  intro s src f taken u r flag slots band
  refine ⟨fun allowed => ?_, fun tenant disabled => ?_⟩
  · have bands : ∀ b, u.bandStatus b = band b := fun b => by
      simp only [State.bandStatus, State.idleCount_eq, State.retiredCount_eq]
      rfl
    have handled : status r u = (u, ⟨.done, u.statusPayload⟩) := enabledTenant_pass allowed
    refine (congrArg (Does .status s src f u .done) ?_).mp (does_of_handler taken rfl handled)
    rw [State.statusPayload, bands, bands, byte_repackBandCode, Half.byte_code]
    cases u.engine.repack.reason <;> rfl
  · exact does_of_handler taken rfl (if_pos ⟨tenant, disabled⟩)

end Sys2Proof.Proofs
end

section
/-! ## The step on a queue that holds a command -/

namespace Sys2Proof.Proofs
open Sys2Proof.Machine

/-- Settles O1: the front of the queue selects the second arm of `step`; the empty queue's arm is `step_of_empty`. -/
theorem stepRunsFrontCommand : Obligations.StepRunsFrontCommand := by
  intro c rest s front
  rw [step, front]

end Sys2Proof.Proofs
end
